-- ==== Sys2Proof/Word.lean ====
section
/-!
DEFINITION. The bit-vector types of the 21164 (00_scope.md R20): names only, no arithmetic of their own.
-/

namespace Sys2Proof

/-- A byte: 8 bits (R20). -/
abbrev Byte := BitVec 8

/-- A longword: 32 bits (R20); also one instruction (R450). -/
abbrev Long := BitVec 32

/-- A quadword: 64 bits (R20), the width of every register and of a virtual address. -/
abbrev Quad := BitVec 64

/-- A physical address, PA<39:0> (20_memory.md R290). -/
abbrev PAddr := BitVec 40

/-- A 5-bit register number (30_encoding.md R452). -/
abbrev Reg := BitVec 5

end Sys2Proof
end

