-- ==== Sys2Proof/Config.lean ====
section
/-!
DEFINITION. What the spec leaves open: the free values and the named parameters. None has a body, so no proof can
rest on a value of one (00_scope.md R17, R23, R31; 92_eei_decisions.md section 2).
-/

namespace Sys2Proof.Config

/-- A draw (R31, "an arbitrary N-bit value chosen afresh"): the n-th free value of a run, read with the counter
`State.model.draws`. -/
opaque draw : Nat → Quad

/-- A free yes or no, numbered like `draw`: when an owed ARITH entry or a deliverable interrupt is taken (60_exceptions.md
R962, R971, R991). -/
opaque choice : Nat → Bool

/-- How many boundaries a request that stays deliverable may be postponed (R991, D26: "taken after finitely many
instructions"; no number is given). -/
opaque interruptBound : Nat

/-- How many boundaries an imprecise machine check may be postponed (60_exceptions.md R974; no number is given). -/
opaque machineCheckBound : Nat

/-- `EXC_MASK_LAYOUT` (11_state_idu_iprs.md R137): whether the integer registers are EXC_MASK<31:0> (and the
floating ones <63:32>) or the reverse. -/
opaque excMaskIntegerLow : Bool

/-- `DTB_PTE_TEMP_LAYOUT` (12_state_mtu_iprs.md R185): the permutation that gives each of the stored PTE bits FOR, FOW, ASM,
GH, xRE, xWE, PFN its place in the register. -/
opaque dtbPteTempPlaces : Equiv.Perm (Fin 64)

/-- `AMASK_FEATURES` (43_logical_shift_byte.md R716). -/
opaque amaskFeatures : Quad

/-- `IMPLVER_VALUE` (R717). -/
opaque implverValue : Quad

/-- `ISR_SHOWS_MASKED_IRQ` (60_exceptions.md R990). -/
opaque isrShowsMaskedIrq : Bool

/-- The Icache self-test result that ICSR<ISTA> shows (11_state_idu_iprs.md R149). -/
opaque icacheBistPassed : Bool

/-- `SYSCLK_RATIO`, 3 to 15, as the distance above 3 (21_external_interface.md R387); it has an effect at 3 alone (61_errors.md
R1052). -/
opaque sysclkRatioAbove3 : Fin 13

/-- The delay of sys_clk_out2 in CPU cycles, 0 to 7 (21_external_interface.md R388); it has no effect on results. -/
opaque sysclk2Delay : Fin 8

/-- Whether the board has a Bcache (21_external_interface.md R390). -/
opaque bcacheFitted : Bool

/-- The size code of the board's Bcache, as BC_CONFIG<BC_SIZE> has it (13_state_cbu_iprs.md R256). -/
opaque bcacheFittedSize : BitVec 3

/-- The contents of the Bcache tag store at an index before anything is written there: tag, tag parity, valid, shared,
dirty, status parity. -/
opaque bcacheTagRam : Nat → BitVec 24

/-- The n-th choice of the Scache set that a fill replaces (20_memory.md R331; the algorithm is not given). -/
opaque scacheVictim : Nat → Nat

/-- Whether LOCK is driven while BC_CONTROL<EI_CMD_GRP2> is clear (13_state_cbu_iprs.md R251, "UNPREDICTABLE"), for the n-th
command or choice of the bus. -/
opaque lockDriven : Nat → Bool

/-- Whether the n-th block read for a load is placed in the Dcache: its fill may be aborted or prevented (71_timing.md R1170,
R1171). -/
opaque dcacheFillPlaced : Nat → Bool

/-- What a Dcache bank (1 or not) holds at an index where nothing has been written, the n-th time that it is needed: tag, tag
parity, valid bits. -/
opaque dcacheTagRam : Nat → Bool → Nat → BitVec 29

/-- The polarity of the Dcache tag parity bit that a fill writes (12_state_mtu_iprs.md R221 does not give it). -/
opaque dcacheTagParityOdd : Bool

/-- Whether the tags of an external Bcache are initialized when PALcode enables it (20_memory.md R332 c; the board's,
92_eei_decisions.md section 2). -/
opaque bcacheInitialized : Bool

/-- A byte of which nothing is known, as the n-th command or answer on the bus shows it, by its address. -/
opaque lostByte : Nat → Nat → Byte

/-- addr_h of MEMORY BARRIER, as the n-th command (93_implementation_defined.md U12). -/
opaque undrivenAddress : Nat → PAddr

/-- The bits of int4_valid_h that the n-th command leaves undefined (U12). -/
opaque undrivenLanes : Nat → BitVec 8

/-- scache_set_h of the n-th command, where it fills no set. -/
opaque undrivenSet : Nat → BitVec 2

/-- Whether the load at an address, the n-th free value being next, issues in pipe E1 and reads bank 1 of the Dcache (71_timing.md
R1164: slotting). -/
opaque loadReadsBank1 : Nat → Nat → Bool

end Sys2Proof.Config
end

