-- ==== Sys2Proof/Syntax.lean ====
section
/-!
DEFINITION. The instructions of the 21164: one constructor for every row of spec/opcode_table.json, in its order, named
by its mnemonic in lower case. Fields that no rule gives a meaning are not kept (30_encoding.md R461, D18); a branch
displacement, a hint and an IPR index are kept as the bits of the word.
-/

namespace Sys2Proof

/-- The second source of an Operate instruction (R455): register Rb, or the 8-bit literal. -/
inductive Operand where
  | reg (rb : Reg)
  | lit (n : BitVec 8)
deriving DecidableEq, Repr

/-- One instruction. -/
inductive Instr where
  -- Memory format: Ra, disp(Rb) (R453).
  | lda (ra rb : Reg) (disp : BitVec 16)
  | ldah (ra rb : Reg) (disp : BitVec 16)
  | ldbu (ra rb : Reg) (disp : BitVec 16)
  | ldq_u (ra rb : Reg) (disp : BitVec 16)
  | ldwu (ra rb : Reg) (disp : BitVec 16)
  | stw (ra rb : Reg) (disp : BitVec 16)
  | stb (ra rb : Reg) (disp : BitVec 16)
  | stq_u (ra rb : Reg) (disp : BitVec 16)
  | ldl (ra rb : Reg) (disp : BitVec 16)
  | ldq (ra rb : Reg) (disp : BitVec 16)
  | ldl_l (ra rb : Reg) (disp : BitVec 16)
  | ldq_l (ra rb : Reg) (disp : BitVec 16)
  | stl (ra rb : Reg) (disp : BitVec 16)
  | stq (ra rb : Reg) (disp : BitVec 16)
  | stl_c (ra rb : Reg) (disp : BitVec 16)
  | stq_c (ra rb : Reg) (disp : BitVec 16)
  -- Floating-point Memory format: Fa, disp(Rb) (R453).
  | ldf (fa rb : Reg) (disp : BitVec 16)
  | ldg (fa rb : Reg) (disp : BitVec 16)
  | lds (fa rb : Reg) (disp : BitVec 16)
  | ldt (fa rb : Reg) (disp : BitVec 16)
  | stf (fa rb : Reg) (disp : BitVec 16)
  | stg (fa rb : Reg) (disp : BitVec 16)
  | sts (fa rb : Reg) (disp : BitVec 16)
  | stt (fa rb : Reg) (disp : BitVec 16)
  -- Branch format: Ra and a 21-bit displacement (R454).
  | br (ra : Reg) (disp : BitVec 21)
  | bsr (ra : Reg) (disp : BitVec 21)
  | blbc (ra : Reg) (disp : BitVec 21)
  | beq (ra : Reg) (disp : BitVec 21)
  | blt (ra : Reg) (disp : BitVec 21)
  | ble (ra : Reg) (disp : BitVec 21)
  | blbs (ra : Reg) (disp : BitVec 21)
  | bne (ra : Reg) (disp : BitVec 21)
  | bge (ra : Reg) (disp : BitVec 21)
  | bgt (ra : Reg) (disp : BitVec 21)
  -- Floating-point branch: Fa and a 21-bit displacement (R454).
  | fbeq (fa : Reg) (disp : BitVec 21)
  | fblt (fa : Reg) (disp : BitVec 21)
  | fble (fa : Reg) (disp : BitVec 21)
  | fbne (fa : Reg) (disp : BitVec 21)
  | fbge (fa : Reg) (disp : BitVec 21)
  | fbgt (fa : Reg) (disp : BitVec 21)
  -- Jump: Ra, (Rb), and a hint without effect (R457, R469).
  | jmp (ra rb : Reg) (hint : BitVec 14)
  | jsr (ra rb : Reg) (hint : BitVec 14)
  | ret (ra rb : Reg) (hint : BitVec 14)
  | jsr_coroutine (ra rb : Reg) (hint : BitVec 14)
  -- Operate format: Ra, Rb or a literal, Rc (R455).
  | addl (ra : Reg) (b : Operand) (rc : Reg)
  | addl_v (ra : Reg) (b : Operand) (rc : Reg)
  | addq (ra : Reg) (b : Operand) (rc : Reg)
  | addq_v (ra : Reg) (b : Operand) (rc : Reg)
  | subl (ra : Reg) (b : Operand) (rc : Reg)
  | subl_v (ra : Reg) (b : Operand) (rc : Reg)
  | subq (ra : Reg) (b : Operand) (rc : Reg)
  | subq_v (ra : Reg) (b : Operand) (rc : Reg)
  | s4addl (ra : Reg) (b : Operand) (rc : Reg)
  | s8addl (ra : Reg) (b : Operand) (rc : Reg)
  | s4addq (ra : Reg) (b : Operand) (rc : Reg)
  | s8addq (ra : Reg) (b : Operand) (rc : Reg)
  | s4subl (ra : Reg) (b : Operand) (rc : Reg)
  | s8subl (ra : Reg) (b : Operand) (rc : Reg)
  | s4subq (ra : Reg) (b : Operand) (rc : Reg)
  | s8subq (ra : Reg) (b : Operand) (rc : Reg)
  | cmpeq (ra : Reg) (b : Operand) (rc : Reg)
  | cmplt (ra : Reg) (b : Operand) (rc : Reg)
  | cmple (ra : Reg) (b : Operand) (rc : Reg)
  | cmpult (ra : Reg) (b : Operand) (rc : Reg)
  | cmpule (ra : Reg) (b : Operand) (rc : Reg)
  | cmpbge (ra : Reg) (b : Operand) (rc : Reg)
  | and (ra : Reg) (b : Operand) (rc : Reg)
  | bic (ra : Reg) (b : Operand) (rc : Reg)
  | bis (ra : Reg) (b : Operand) (rc : Reg)
  | ornot (ra : Reg) (b : Operand) (rc : Reg)
  | xor (ra : Reg) (b : Operand) (rc : Reg)
  | eqv (ra : Reg) (b : Operand) (rc : Reg)
  | cmoveq (ra : Reg) (b : Operand) (rc : Reg)
  | cmovne (ra : Reg) (b : Operand) (rc : Reg)
  | cmovlt (ra : Reg) (b : Operand) (rc : Reg)
  | cmovle (ra : Reg) (b : Operand) (rc : Reg)
  | cmovgt (ra : Reg) (b : Operand) (rc : Reg)
  | cmovge (ra : Reg) (b : Operand) (rc : Reg)
  | cmovlbs (ra : Reg) (b : Operand) (rc : Reg)
  | cmovlbc (ra : Reg) (b : Operand) (rc : Reg)
  -- Operate format with Ra ignored (R470, R716).
  | amask (b : Operand) (rc : Reg)
  -- Operate format with only Rc used (R717).
  | implver (rc : Reg)
  -- Operate format: Ra, Rb or a literal, Rc (R455).
  | sll (ra : Reg) (b : Operand) (rc : Reg)
  | srl (ra : Reg) (b : Operand) (rc : Reg)
  | sra (ra : Reg) (b : Operand) (rc : Reg)
  | zap (ra : Reg) (b : Operand) (rc : Reg)
  | zapnot (ra : Reg) (b : Operand) (rc : Reg)
  | extbl (ra : Reg) (b : Operand) (rc : Reg)
  | extwl (ra : Reg) (b : Operand) (rc : Reg)
  | extll (ra : Reg) (b : Operand) (rc : Reg)
  | extql (ra : Reg) (b : Operand) (rc : Reg)
  | extwh (ra : Reg) (b : Operand) (rc : Reg)
  | extlh (ra : Reg) (b : Operand) (rc : Reg)
  | extqh (ra : Reg) (b : Operand) (rc : Reg)
  | insbl (ra : Reg) (b : Operand) (rc : Reg)
  | inswl (ra : Reg) (b : Operand) (rc : Reg)
  | insll (ra : Reg) (b : Operand) (rc : Reg)
  | insql (ra : Reg) (b : Operand) (rc : Reg)
  | inswh (ra : Reg) (b : Operand) (rc : Reg)
  | inslh (ra : Reg) (b : Operand) (rc : Reg)
  | insqh (ra : Reg) (b : Operand) (rc : Reg)
  | mskbl (ra : Reg) (b : Operand) (rc : Reg)
  | mskwl (ra : Reg) (b : Operand) (rc : Reg)
  | mskll (ra : Reg) (b : Operand) (rc : Reg)
  | mskql (ra : Reg) (b : Operand) (rc : Reg)
  | mskwh (ra : Reg) (b : Operand) (rc : Reg)
  | msklh (ra : Reg) (b : Operand) (rc : Reg)
  | mskqh (ra : Reg) (b : Operand) (rc : Reg)
  | mull (ra : Reg) (b : Operand) (rc : Reg)
  | mull_v (ra : Reg) (b : Operand) (rc : Reg)
  | mulq (ra : Reg) (b : Operand) (rc : Reg)
  | mulq_v (ra : Reg) (b : Operand) (rc : Reg)
  | umulh (ra : Reg) (b : Operand) (rc : Reg)
  -- Operate format with Ra ignored (R470, R716).
  | sextb (b : Operand) (rc : Reg)
  | sextw (b : Operand) (rc : Reg)
  -- Floating-point conversion: Fb, Fc; the Fa field is ignored (R456).
  | cvtlq (fb fc : Reg)
  -- Floating-point operate: Fa, Fb, Fc (R456).
  | cpys (fa fb fc : Reg)
  | cpysn (fa fb fc : Reg)
  | cpyse (fa fb fc : Reg)
  | mt_fpcr (fa fb fc : Reg)
  | mf_fpcr (fa fb fc : Reg)
  | fcmoveq (fa fb fc : Reg)
  | fcmovne (fa fb fc : Reg)
  | fcmovlt (fa fb fc : Reg)
  | fcmovge (fa fb fc : Reg)
  | fcmovle (fa fb fc : Reg)
  | fcmovgt (fa fb fc : Reg)
  -- Floating-point conversion: Fb, Fc; the Fa field is ignored (R456).
  | cvtql (fb fc : Reg)
  | cvtql_v (fb fc : Reg)
  | cvtql_sv (fb fc : Reg)
  -- Floating-point operate: Fa, Fb, Fc (R456).
  | adds (fa fb fc : Reg)
  | adds_c (fa fb fc : Reg)
  | adds_m (fa fb fc : Reg)
  | adds_d (fa fb fc : Reg)
  | adds_u (fa fb fc : Reg)
  | adds_uc (fa fb fc : Reg)
  | adds_um (fa fb fc : Reg)
  | adds_ud (fa fb fc : Reg)
  | adds_su (fa fb fc : Reg)
  | adds_suc (fa fb fc : Reg)
  | adds_sum (fa fb fc : Reg)
  | adds_sud (fa fb fc : Reg)
  | adds_sui (fa fb fc : Reg)
  | adds_suic (fa fb fc : Reg)
  | adds_suim (fa fb fc : Reg)
  | adds_suid (fa fb fc : Reg)
  | addt (fa fb fc : Reg)
  | addt_c (fa fb fc : Reg)
  | addt_m (fa fb fc : Reg)
  | addt_d (fa fb fc : Reg)
  | addt_u (fa fb fc : Reg)
  | addt_uc (fa fb fc : Reg)
  | addt_um (fa fb fc : Reg)
  | addt_ud (fa fb fc : Reg)
  | addt_su (fa fb fc : Reg)
  | addt_suc (fa fb fc : Reg)
  | addt_sum (fa fb fc : Reg)
  | addt_sud (fa fb fc : Reg)
  | addt_sui (fa fb fc : Reg)
  | addt_suic (fa fb fc : Reg)
  | addt_suim (fa fb fc : Reg)
  | addt_suid (fa fb fc : Reg)
  | subs (fa fb fc : Reg)
  | subs_c (fa fb fc : Reg)
  | subs_m (fa fb fc : Reg)
  | subs_d (fa fb fc : Reg)
  | subs_u (fa fb fc : Reg)
  | subs_uc (fa fb fc : Reg)
  | subs_um (fa fb fc : Reg)
  | subs_ud (fa fb fc : Reg)
  | subs_su (fa fb fc : Reg)
  | subs_suc (fa fb fc : Reg)
  | subs_sum (fa fb fc : Reg)
  | subs_sud (fa fb fc : Reg)
  | subs_sui (fa fb fc : Reg)
  | subs_suic (fa fb fc : Reg)
  | subs_suim (fa fb fc : Reg)
  | subs_suid (fa fb fc : Reg)
  | subt (fa fb fc : Reg)
  | subt_c (fa fb fc : Reg)
  | subt_m (fa fb fc : Reg)
  | subt_d (fa fb fc : Reg)
  | subt_u (fa fb fc : Reg)
  | subt_uc (fa fb fc : Reg)
  | subt_um (fa fb fc : Reg)
  | subt_ud (fa fb fc : Reg)
  | subt_su (fa fb fc : Reg)
  | subt_suc (fa fb fc : Reg)
  | subt_sum (fa fb fc : Reg)
  | subt_sud (fa fb fc : Reg)
  | subt_sui (fa fb fc : Reg)
  | subt_suic (fa fb fc : Reg)
  | subt_suim (fa fb fc : Reg)
  | subt_suid (fa fb fc : Reg)
  | muls (fa fb fc : Reg)
  | muls_c (fa fb fc : Reg)
  | muls_m (fa fb fc : Reg)
  | muls_d (fa fb fc : Reg)
  | muls_u (fa fb fc : Reg)
  | muls_uc (fa fb fc : Reg)
  | muls_um (fa fb fc : Reg)
  | muls_ud (fa fb fc : Reg)
  | muls_su (fa fb fc : Reg)
  | muls_suc (fa fb fc : Reg)
  | muls_sum (fa fb fc : Reg)
  | muls_sud (fa fb fc : Reg)
  | muls_sui (fa fb fc : Reg)
  | muls_suic (fa fb fc : Reg)
  | muls_suim (fa fb fc : Reg)
  | muls_suid (fa fb fc : Reg)
  | mult (fa fb fc : Reg)
  | mult_c (fa fb fc : Reg)
  | mult_m (fa fb fc : Reg)
  | mult_d (fa fb fc : Reg)
  | mult_u (fa fb fc : Reg)
  | mult_uc (fa fb fc : Reg)
  | mult_um (fa fb fc : Reg)
  | mult_ud (fa fb fc : Reg)
  | mult_su (fa fb fc : Reg)
  | mult_suc (fa fb fc : Reg)
  | mult_sum (fa fb fc : Reg)
  | mult_sud (fa fb fc : Reg)
  | mult_sui (fa fb fc : Reg)
  | mult_suic (fa fb fc : Reg)
  | mult_suim (fa fb fc : Reg)
  | mult_suid (fa fb fc : Reg)
  | divs (fa fb fc : Reg)
  | divs_c (fa fb fc : Reg)
  | divs_m (fa fb fc : Reg)
  | divs_d (fa fb fc : Reg)
  | divs_u (fa fb fc : Reg)
  | divs_uc (fa fb fc : Reg)
  | divs_um (fa fb fc : Reg)
  | divs_ud (fa fb fc : Reg)
  | divs_su (fa fb fc : Reg)
  | divs_suc (fa fb fc : Reg)
  | divs_sum (fa fb fc : Reg)
  | divs_sud (fa fb fc : Reg)
  | divs_sui (fa fb fc : Reg)
  | divs_suic (fa fb fc : Reg)
  | divs_suim (fa fb fc : Reg)
  | divs_suid (fa fb fc : Reg)
  | divt (fa fb fc : Reg)
  | divt_c (fa fb fc : Reg)
  | divt_m (fa fb fc : Reg)
  | divt_d (fa fb fc : Reg)
  | divt_u (fa fb fc : Reg)
  | divt_uc (fa fb fc : Reg)
  | divt_um (fa fb fc : Reg)
  | divt_ud (fa fb fc : Reg)
  | divt_su (fa fb fc : Reg)
  | divt_suc (fa fb fc : Reg)
  | divt_sum (fa fb fc : Reg)
  | divt_sud (fa fb fc : Reg)
  | divt_sui (fa fb fc : Reg)
  | divt_suic (fa fb fc : Reg)
  | divt_suim (fa fb fc : Reg)
  | divt_suid (fa fb fc : Reg)
  -- Floating-point conversion: Fb, Fc; the Fa field is ignored (R456).
  | cvtts (fb fc : Reg)
  | cvtts_c (fb fc : Reg)
  | cvtts_m (fb fc : Reg)
  | cvtts_d (fb fc : Reg)
  | cvtts_u (fb fc : Reg)
  | cvtts_uc (fb fc : Reg)
  | cvtts_um (fb fc : Reg)
  | cvtts_ud (fb fc : Reg)
  | cvtts_su (fb fc : Reg)
  | cvtts_suc (fb fc : Reg)
  | cvtts_sum (fb fc : Reg)
  | cvtts_sud (fb fc : Reg)
  | cvtts_sui (fb fc : Reg)
  | cvtts_suic (fb fc : Reg)
  | cvtts_suim (fb fc : Reg)
  | cvtts_suid (fb fc : Reg)
  | cvtqs (fb fc : Reg)
  | cvtqs_c (fb fc : Reg)
  | cvtqs_m (fb fc : Reg)
  | cvtqs_d (fb fc : Reg)
  | cvtqs_sui (fb fc : Reg)
  | cvtqs_suic (fb fc : Reg)
  | cvtqs_suim (fb fc : Reg)
  | cvtqs_suid (fb fc : Reg)
  | cvtqt (fb fc : Reg)
  | cvtqt_c (fb fc : Reg)
  | cvtqt_m (fb fc : Reg)
  | cvtqt_d (fb fc : Reg)
  | cvtqt_sui (fb fc : Reg)
  | cvtqt_suic (fb fc : Reg)
  | cvtqt_suim (fb fc : Reg)
  | cvtqt_suid (fb fc : Reg)
  -- Floating-point operate: Fa, Fb, Fc (R456).
  | cmptun (fa fb fc : Reg)
  | cmptun_su (fa fb fc : Reg)
  | cmpteq (fa fb fc : Reg)
  | cmpteq_su (fa fb fc : Reg)
  | cmptlt (fa fb fc : Reg)
  | cmptlt_su (fa fb fc : Reg)
  | cmptle (fa fb fc : Reg)
  | cmptle_su (fa fb fc : Reg)
  -- Floating-point conversion: Fb, Fc; the Fa field is ignored (R456).
  | cvtst (fb fc : Reg)
  | cvtst_s (fb fc : Reg)
  | cvttq (fb fc : Reg)
  | cvttq_c (fb fc : Reg)
  | cvttq_m (fb fc : Reg)
  | cvttq_d (fb fc : Reg)
  | cvttq_v (fb fc : Reg)
  | cvttq_vc (fb fc : Reg)
  | cvttq_vm (fb fc : Reg)
  | cvttq_vd (fb fc : Reg)
  | cvttq_sv (fb fc : Reg)
  | cvttq_svc (fb fc : Reg)
  | cvttq_svm (fb fc : Reg)
  | cvttq_svd (fb fc : Reg)
  | cvttq_svi (fb fc : Reg)
  | cvttq_svic (fb fc : Reg)
  | cvttq_svim (fb fc : Reg)
  | cvttq_svid (fb fc : Reg)
  -- Floating-point operate: Fa, Fb, Fc (R456).
  | addf (fa fb fc : Reg)
  | addf_c (fa fb fc : Reg)
  | addf_u (fa fb fc : Reg)
  | addf_uc (fa fb fc : Reg)
  | addf_s (fa fb fc : Reg)
  | addf_sc (fa fb fc : Reg)
  | addf_su (fa fb fc : Reg)
  | addf_suc (fa fb fc : Reg)
  | addg (fa fb fc : Reg)
  | addg_c (fa fb fc : Reg)
  | addg_u (fa fb fc : Reg)
  | addg_uc (fa fb fc : Reg)
  | addg_s (fa fb fc : Reg)
  | addg_sc (fa fb fc : Reg)
  | addg_su (fa fb fc : Reg)
  | addg_suc (fa fb fc : Reg)
  | subf (fa fb fc : Reg)
  | subf_c (fa fb fc : Reg)
  | subf_u (fa fb fc : Reg)
  | subf_uc (fa fb fc : Reg)
  | subf_s (fa fb fc : Reg)
  | subf_sc (fa fb fc : Reg)
  | subf_su (fa fb fc : Reg)
  | subf_suc (fa fb fc : Reg)
  | subg (fa fb fc : Reg)
  | subg_c (fa fb fc : Reg)
  | subg_u (fa fb fc : Reg)
  | subg_uc (fa fb fc : Reg)
  | subg_s (fa fb fc : Reg)
  | subg_sc (fa fb fc : Reg)
  | subg_su (fa fb fc : Reg)
  | subg_suc (fa fb fc : Reg)
  | mulf (fa fb fc : Reg)
  | mulf_c (fa fb fc : Reg)
  | mulf_u (fa fb fc : Reg)
  | mulf_uc (fa fb fc : Reg)
  | mulf_s (fa fb fc : Reg)
  | mulf_sc (fa fb fc : Reg)
  | mulf_su (fa fb fc : Reg)
  | mulf_suc (fa fb fc : Reg)
  | mulg (fa fb fc : Reg)
  | mulg_c (fa fb fc : Reg)
  | mulg_u (fa fb fc : Reg)
  | mulg_uc (fa fb fc : Reg)
  | mulg_s (fa fb fc : Reg)
  | mulg_sc (fa fb fc : Reg)
  | mulg_su (fa fb fc : Reg)
  | mulg_suc (fa fb fc : Reg)
  | divf (fa fb fc : Reg)
  | divf_c (fa fb fc : Reg)
  | divf_u (fa fb fc : Reg)
  | divf_uc (fa fb fc : Reg)
  | divf_s (fa fb fc : Reg)
  | divf_sc (fa fb fc : Reg)
  | divf_su (fa fb fc : Reg)
  | divf_suc (fa fb fc : Reg)
  | divg (fa fb fc : Reg)
  | divg_c (fa fb fc : Reg)
  | divg_u (fa fb fc : Reg)
  | divg_uc (fa fb fc : Reg)
  | divg_s (fa fb fc : Reg)
  | divg_sc (fa fb fc : Reg)
  | divg_su (fa fb fc : Reg)
  | divg_suc (fa fb fc : Reg)
  -- Floating-point conversion: Fb, Fc; the Fa field is ignored (R456).
  | cvtdg (fb fc : Reg)
  | cvtdg_c (fb fc : Reg)
  | cvtdg_u (fb fc : Reg)
  | cvtdg_uc (fb fc : Reg)
  | cvtdg_s (fb fc : Reg)
  | cvtdg_sc (fb fc : Reg)
  | cvtdg_su (fb fc : Reg)
  | cvtdg_suc (fb fc : Reg)
  | cvtgf (fb fc : Reg)
  | cvtgf_c (fb fc : Reg)
  | cvtgf_u (fb fc : Reg)
  | cvtgf_uc (fb fc : Reg)
  | cvtgf_s (fb fc : Reg)
  | cvtgf_sc (fb fc : Reg)
  | cvtgf_su (fb fc : Reg)
  | cvtgf_suc (fb fc : Reg)
  | cvtgd (fb fc : Reg)
  | cvtgd_c (fb fc : Reg)
  | cvtgd_u (fb fc : Reg)
  | cvtgd_uc (fb fc : Reg)
  | cvtgd_s (fb fc : Reg)
  | cvtgd_sc (fb fc : Reg)
  | cvtgd_su (fb fc : Reg)
  | cvtgd_suc (fb fc : Reg)
  | cvtgq (fb fc : Reg)
  | cvtgq_c (fb fc : Reg)
  | cvtgq_v (fb fc : Reg)
  | cvtgq_vc (fb fc : Reg)
  | cvtgq_s (fb fc : Reg)
  | cvtgq_sc (fb fc : Reg)
  | cvtgq_sv (fb fc : Reg)
  | cvtgq_svc (fb fc : Reg)
  | cvtqf (fb fc : Reg)
  | cvtqf_c (fb fc : Reg)
  | cvtqg (fb fc : Reg)
  | cvtqg_c (fb fc : Reg)
  -- Floating-point operate: Fa, Fb, Fc (R456).
  | cmpgeq (fa fb fc : Reg)
  | cmpgeq_s (fa fb fc : Reg)
  | cmpglt (fa fb fc : Reg)
  | cmpglt_s (fa fb fc : Reg)
  | cmpgle (fa fb fc : Reg)
  | cmpgle_s (fa fb fc : Reg)
  -- Memory/function format without register (R468).
  | trapb
  | excb
  | mb
  | wmb
  -- Memory/function format with the address register Rb (R468).
  | fetch (rb : Reg)
  | fetch_m (rb : Reg)
  -- Memory/function format with Ra (R468).
  | rpcc (ra : Reg)
  | rc (ra : Reg)
  | rs (ra : Reg)
  -- CALL_PAL (R458).
  | call_pal (fn : BitVec 26)
  -- HW_MFPR and HW_MTPR (R484).
  | hw_mfpr (ra rb : Reg) (index : BitVec 16)
  -- HW_LD (R481).
  | hw_ld (ra rb : Reg) (phys alt wrtck quad vpte lock : Bool) (disp : BitVec 10)
  -- HW_MFPR and HW_MTPR (R484).
  | hw_mtpr (ra rb : Reg) (index : BitVec 16)
  -- HW_REI and HW_REI_STALL (R483); the must-be-zero field is kept.
  | hw_rei (mbz : BitVec 14)
  | hw_rei_stall (mbz : BitVec 14)
  -- HW_ST (R482); the two must-be-zero bits are kept.
  | hw_st (ra rb : Reg) (phys alt mbz13 quad mbz11 cond : Bool) (disp : BitVec 10)
deriving DecidableEq, Repr

end Sys2Proof
end

