-- ==== Sys2Proof/Machine/State.lean ====
section
/-!
DEFINITION. The state of the 21164, all of it plain data, and the state after chip reset (10_state.md to
13_state_cbu_iprs.md; 70_reset_and_hazards.md R1090). A register is held at the width the spec gives it; bits that read
as zero are not held. Fields of `Model` are the model's own.
-/

namespace Sys2Proof.Machine

/-! ## Events, entries, stops -/

/-- The PALcode entries of Table 6-1 (60_exceptions.md R960) and the CALL_PAL entry (48_palcode.md R920). -/
inductive Entry where
  | reset | iaccvio | interrupt | itbmiss | dtbmissSingle | dtbmissDouble | unalign | dfault | mchk | opcdec | arith | fen
  | callPal
deriving DecidableEq, Repr

/-- The Scache transactions that SC_STAT<SC_CMD> names (13_state_cbu_iprs.md R247, Table 5-28). -/
inductive ScacheOp where
  | setShared | readDirty | invalidate | victim | iread | dread | dwrite
deriving DecidableEq, Repr

/-- A register as a destination: of the integer file, of the PALshadow file, of the floating-point file. -/
inductive RegSlot where
  | int (r : Reg)
  | shadow (k : Fin 8)
  | fp (r : Reg)
deriving DecidableEq, Repr

/-- What reaches the processor from outside, one at a time, between two instructions: pins (60_exceptions.md R985), the
error events of 61_errors.md R1030, other agents (20_memory.md R352), resets (70_reset_and_hazards.md R1080, R1092). -/
inductive Event where
  /-- the level of irq_h<3:0> (R985) -/
  | irqPins (level : BitVec 4)
  /-- the level of mch_hlt_irq_h -/
  | haltPin (level : Bool)
  /-- the level of pwr_fail_irq_h -/
  | powerFailPin (level : Bool)
  /-- the level of sys_mch_chk_irq_h (61_errors.md R1072) -/
  | machineCheckPin (level : Bool)
  /-- the level of srom_data_h, the serial line (11_state_idu_iprs.md R159) -/
  | serialPin (level : Bool)
  /-- counter 0, 1 or 2 overflows (R163) -/
  | counterOverflow (counter : Nat)
  /-- fill_error_h during a fill of an octaword, with the data that the system drives (61_errors.md R1050) -/
  | fillError (istream : Bool) (addr : PAddr) (data : BitVec 128)
  /-- Icache data or tag parity (R1032) -/
  | icacheParity (tag : Bool)
  /-- Scache parity (R1033 to R1036): SC_TPERR, SC_DPERR, the transaction and the address -/
  | scacheParity (tperr : BitVec 3) (dperr : BitVec 8) (op : ScacheOp) (addr : PAddr)
  /-- Dcache parity (R1037, R1038): DC_PERR_STAT<05:02>, the virtual address, MM_STAT<WR>, RA and OPCODE, and the
  register that the instruction writes -/
  | dcacheParity (which : BitVec 4) (va : Quad) (write : Bool) (ra : Reg) (opcode : BitVec 6) (slot : RegSlot)
  /-- an octaword of fill data arrives with these bits of data_h and data_check_h inverted (R1040, R1070;
  21_external_interface.md R430, R431): from the system or the Bcache, for the Istream or the Dstream, with fill_nocheck_h
  or not -/
  | fill (system istream nocheck : Bool) (addr : PAddr) (flip : BitVec 128) (flipCheck : BitVec 16)
  /-- the Bcache tag that an address indexes is read with these bits inverted (R1042), for the Istream, the Dstream or a
  system command -/
  | bcacheTag (istream system : Bool) (addr : PAddr) (flip : BitVec 24)
  /-- a command of the system on cmd_h, addr_h and addr_cmd_par_h (21_external_interface.md R418, R433; 61_errors.md
  R1052) -/
  | systemCommand (code : BitVec 4) (addr : PAddr) (parity : Bool)
  /-- the levels that the system drives on tag_shared_h and tag_dirty_h in fills, on shared_h, and on system_lock_flag_h
  (R382, R402) -/
  | systemPins (tagShared tagDirty shared systemLock : Bool)
  /-- the n-th entry of the write buffer completes (20_memory.md R334, R340) -/
  | writeCompletes (n : Nat)
  /-- the CBU accepts the outstanding loads up to the n-th, which ends merging (20_memory.md R296) -/
  | loadIssues (n : Nat)
  /-- the n-th outstanding load returns (12_state_mtu_iprs.md R207) -/
  | loadReturns (n : Nat)
  /-- the prefetcher asks for the block of an address (41_control.md R591; 10_state.md R74) -/
  | istreamRequest (addr : PAddr)
  /-- the n-th request of the Istream is filled (20_memory.md R293) -/
  | istreamReturns (n : Nat)
  /-- the next load conflicts with a fill, and is forced to miss the Dcache (71_timing.md R1170) -/
  | loadMisses
  /-- the machine's own: clean blocks have left the caches that held other data than the level below, which shows again
  (61_errors.md R1040) -/
  | restore (below : List (Nat × Long))
  /-- the machine's own: the Bcache tag of an address has been read with bad parity of the tag, or of its status bits, and the
  probe was this (R1042) -/
  | bcacheTagSeen (istream system : Bool) (addr : PAddr) (tag control : Bool) (probe : BitVec 27)
  /-- the machine's own: the Scache has been read in force hit mode, for the Istream or the system, with these parity bits of
  the longwords, but for those that are not known (13_state_cbu_iprs.md R246) -/
  | scacheForced (parity unknown : BitVec 8)
  /-- the machine's own: MAF_MODE<MAF_ARB_DISABLE> has been cleared, and what waits arbitrates again (12_state_mtu_iprs.md R207)
  -/
  | resume
  /-- nothing comes before the next instruction -/
  | quiet
  /-- the IDU timer expires (R1060) -/
  | iduTimeout
  /-- cfail_h without cack_h (R1062) -/
  | cfailNoCack
  /-- another agent writes bytes at an address (20_memory.md R352 b, R360) -/
  | busWrite (addr : PAddr) (bytes : List Byte)
  /-- sys_reset_l (70_reset_and_hazards.md R1080), with the records of the SROM if one is present (R1085, R1088) -/
  | chipReset (srom : List (BitVec 200))
deriving DecidableEq, Repr

/-- The machine stops because the source calls the operation UNDEFINED (00_scope.md R24: "a fault of the model"). -/
inductive Fault where
  /-- A load or store of a CBU-region address that is no register of Table 5-25 (13_state_cbu_iprs.md R241 a: "produces
  UNDEFINED behavior"). Raised by loads and stores. Safe. -/
  | undefinedCbuAddress
  /-- A virtual address mapped twice (20_memory.md R313: "UNDEFINED results"). Raised by fetch, loads and stores. Safe. -/
  | multipleTbMatch
deriving DecidableEq, Repr

/-- The run leaves the model (93_implementation_defined.md, treatment `refuse`). Every one is safe: nothing is claimed
of what follows. -/
inductive Refusal where
  /-- An instruction without a meaning: raised by no arm of `exec` in this model. -/
  | notModelled (mnemonic : String)
  /-- A function code that no table lists (30_encoding.md R475, D17), HW_REI with TYP 00 or 01 (R483). Raised by step. -/
  | unusedFunctionCode
  /-- HW_ST with bit 13 or 11 set (R482, "must be zero"), HW_REI with bits <13:0> not zero (R483). Raised by them. -/
  | mustBeZeroField
  /-- HW_MFPR or HW_MTPR with RA different from RB (R484). Raised by them. -/
  | unequalRegisterFields
  /-- An IPR index that Table 5-1 does not give for this direction (48_palcode.md R940, R941; R1123 "Illegal"). Raised by
  HW_MFPR and HW_MTPR. -/
  | undefinedIpr
  /-- A reserved, must-be-zero or must-be-one bit written otherwise (93_implementation_defined.md U29). Raised by HW_MTPR
  and by stores to CBU registers. -/
  | reservedBit
  /-- A system command code without a meaning (21_external_interface.md R418; U41). Raised by a system command. -/
  | systemCommand
  /-- A cacheable load that fills the Scache while BC_CONFIG<BC_SIZE> has a value that the flush by loads without a Bcache
  does not use (20_memory.md R367: "undefined in this mode"; U39). Raised by loads. -/
  | flushSize
  /-- SC_CTL<SC_SET_EN> with two sets or none (13_state_cbu_iprs.md R243: "UNPREDICTABLE behavior"; U31). -/
  | scacheSets
  /-- A CBU register accessed in a way Table 5-25 and Table 5-36 do not give: another width, the wrong direction, with
  LDx_L or STx_C (R241 b, e, f; U33), or by an instruction fetch. -/
  | cbuAccess
  /-- An ordering rule of Table 5-36 broken (13_state_cbu_iprs.md R241 c, R242; U34). Raised by loads, stores and hints, a store
  to a CBU control register with a cacheable request of the Istream outstanding among them; between such a store and its MB also
  by the fetch of a cacheable block and by events that ask for or read one for the Istream or the system. -/
  | cbuOrder
  /-- A restriction of Table 5-37 broken (70_reset_and_hazards.md R1112; U35, U45). Raised by step. -/
  | palcodeRestriction
  /-- A byte or word access to I/O space with DIS_B_W_IO set (40_load_store.md R545; U40). -/
  | byteWordIo
  /-- An SROM image that is not well formed (70_reset_and_hazards.md R1089; U47). Raised by a chip reset. -/
  | sromImage
deriving DecidableEq, Repr

/-- The outcome of an instruction or a step. -/
abbrev Result (σ : Type) := Host.Outcome σ Fault Refusal

/-! ## Translation buffers (10_state.md R71, R72) -/

/-- The stored part of an ITB page table entry. Protection bits are indexed by the mode: bit 0 kernel, 1 executive,
2 supervisor, 3 user. -/
structure ItbPte where
  asm : Bool
  gh : BitVec 2
  re : BitVec 4
  pfn : BitVec 27
deriving DecidableEq, Repr

/-- An ITB entry (R71). -/
structure ItbEntry where
  valid : Bool
  tag : BitVec 30
  asn : BitVec 7
  pte : ItbPte
deriving DecidableEq, Repr

/-- The stored part of a DTB page table entry. -/
structure DtbPte where
  fault_on_read : Bool
  fault_on_write : Bool
  asm : Bool
  gh : BitVec 2
  re : BitVec 4
  we : BitVec 4
  pfn : BitVec 27
deriving DecidableEq, Repr

/-- A DTB entry (R72). -/
structure DtbEntry where
  valid : Bool
  tag : BitVec 30
  asn : BitVec 7
  pte : DtbPte
deriving DecidableEq, Repr

/-! ## Internal processor registers -/

/-- The IDU registers (11_state_idu_iprs.md). -/
structure Idu where
  /-- the ITB, 48 entries, and its not-last-used pointer (R71, R121, R126) -/
  itb : List ItbEntry
  itbPtr : Nat
  /-- ITB_TAG, VA<42:13> (R120) -/
  itbTag : BitVec 30
  /-- ITB_ASN<10:04> (R123) -/
  itbAsn : BitVec 7
  /-- ITB_PTE_TEMP (R124) -/
  itbPteTemp : ItbPte
  /-- IFAULT_VA_FORM (R128) -/
  ifaultVaForm : Quad
  /-- IVPTBR<63:30> (R129) -/
  ivptbr : BitVec 34
  /-- ICPERR_STAT<13:11>: DPE, TPE, TMR (R130) -/
  icperrStat : BitVec 3
  /-- EXC_ADDR; bit 1 is zero (R133) -/
  excAddr : Quad
  /-- EXC_SUM<16:10>: SWC, INV, DZE, FOV, UNF, INE, IOV (R135) -/
  excSum : BitVec 7
  /-- the hidden flag of EXC_SUM<SWC> (R136) -/
  swcKilled : Bool
  /-- EXC_MASK: one bit for each integer and each floating register (R137) -/
  excMaskInt : BitVec 32
  excMaskFp : BitVec 32
  /-- PAL_BASE<63:14> (R138) -/
  palBase : BitVec 50
  /-- ICM<04:03> (R139) -/
  icm : BitVec 2
  /-- ICSR (R140) but for ISTA -/
  icsr : Quad
  /-- IPLR<04:00> (R150) -/
  iplr : BitVec 5
  /-- ASTRR<3:0> and ASTER<3:0> (R152, R153) -/
  astrr : BitVec 4
  aster : BitVec 4
  /-- SIRR<18:04> (R154) -/
  sirr : BitVec 15
  /-- the latched requests ISR<29:27>: performance counters 2, 1, 0 (R155, R156) -/
  pcRequests : BitVec 3
  /-- the latched request ISR<CRD> -/
  crdRequest : Bool
  /-- the latched request ISR<SLI> -/
  sliRequest : Bool
  /-- SL_XMIT<TMT> (R158) -/
  slXmit : Bool
  /-- PMCTR (R160) -/
  pmctr : Quad
  /-- PALtemp0 to PALtemp23 (10_state.md R69) -/
  palTemp : Vector Quad 24
deriving DecidableEq, Repr

/-- The MTU and Dcache registers (12_state_mtu_iprs.md). -/
structure Mtu where
  /-- the DTB, 64 entries, and its entry pointer (R72, R182) -/
  dtb : List DtbEntry
  dtbPtr : Nat
  /-- the internal DTB_PTE register (R183) -/
  dtbPte : DtbPte
  /-- DTB_PTE_TEMP (R185) -/
  dtbPteTemp : DtbPte
  /-- DTB_ASN<63:57> (R180) -/
  dtbAsn : BitVec 7
  /-- DTB_CM<04:03> (R181) -/
  dtbCm : BitVec 2
  /-- MVPTBR<63:30> (R193) -/
  mvptbr : BitVec 34
  /-- VA (R191) -/
  va : Quad
  /-- MM_STAT<16:00> (R190) -/
  mmStat : BitVec 17
  /-- the hidden lock of VA, VA_FORM and MM_STAT (R190) -/
  mmLock : Bool
  /-- MCSR<05:00> (R200) -/
  mcsr : BitVec 6
  /-- DC_MODE<03:00> (R205) -/
  dcMode : BitVec 4
  /-- MAF_MODE<05:00> (R207) -/
  mafMode : BitVec 6
  /-- ALT_MODE<04:03> (R214) -/
  altMode : BitVec 2
  /-- CC<63:32> (R215) -/
  ccOffset : BitVec 32
  /-- CC<31:00>, as last written (R216) -/
  ccCount : BitVec 32
  /-- CC_CTL<32> (R216) -/
  ccEnabled : Bool
  /-- DC_PERR_STAT<05:00> (R195) -/
  dcPerrStat : BitVec 6
  /-- DC_TEST_CTL<12:00> (R220); bit 2 is zero -/
  dcTestCtl : BitVec 13
  /-- DC_TEST_TAG_TEMP (R222) -/
  dcTestTagTemp : Quad
deriving DecidableEq, Repr

/-- The CBU registers (13_state_cbu_iprs.md). -/
structure Cbu where
  /-- SC_CTL<18:00> (R243) -/
  scCtl : BitVec 19
  /-- SC_STAT<16:00> (R246) and its lock -/
  scStat : BitVec 17
  scLocked : Bool
  /-- SC_ADDR<39:04> as the address, while it is locked (R248) -/
  scAddr : PAddr
  /-- BC_CONTROL<35:00> (R250) -/
  bcControl : BitVec 36
  /-- BC_CONFIG<28:00> (R256) -/
  bcConfig : BitVec 29
  /-- BC_TAG_ADDR<38:12>, while it is locked (R260), and its lock -/
  bcTagAddr : BitVec 27
  bcTagLocked : Bool
  /-- EI_STAT<35:28>: BC_TPERR, BC_TC_PERR, EI_ES, COR_ECC_ERR, UNC_ECC_ERR, EI_PAR_ERR, FIL_IRD, SEO_HRD_ERR (R262)
  and the lock of EI_STAT, EI_ADDR and FILL_SYN (R263) -/
  eiStat : BitVec 8
  eiLocked : Bool
  /-- EI_ADDR<39:04> as the address (R266) -/
  eiAddr : PAddr
  /-- FILL_SYN<15:00> (R267) -/
  fillSyn : BitVec 16
deriving DecidableEq, Repr

/-- The present level of the input pins that have an effect (60_exceptions.md R985, R989; 11_state_idu_iprs.md R159;
21_external_interface.md R382). -/
structure Pins where
  irq : BitVec 4
  halt : Bool
  powerFail : Bool
  machineCheck : Bool
  serialData : Bool
  /-- tag_shared_h and tag_dirty_h in fills, shared_h at the acknowledge of WRITE BLOCK (21_external_interface.md R382) -/
  tagShared : Bool
  tagDirty : Bool
  shared : Bool
  /-- system_lock_flag_h (20_memory.md R353) -/
  systemLock : Bool
deriving DecidableEq, Repr

/-! ## Caches, write buffer, miss address file, bus (20_memory.md R331; 21_external_interface.md R380, R410) -/

/-- Longwords by address: what a level below holds where this processor has newer data. -/
abbrev Longs := List (Nat × Long)

/-- The status of a 32-byte subblock of an Scache line (13_state_cbu_iprs.md R249): valid, shared, dirty, a modified bit
for each octaword, and for each longword whether its data parity is wrong (R245). `stored` has a bit for each byte that this
processor has written since the block was filled: the fill came before (21_external_interface.md R401, R414). -/
structure SubBlock where
  valid : Bool
  shared : Bool
  dirty : Bool
  modified : BitVec 2
  bad : BitVec 8
  stored : BitVec 32
deriving DecidableEq, Repr

/-- A line of the Scache: set 0 to 2, index addr<14:6>, tag addr<38:15> with its parity bit, two subblocks (R249). -/
structure ScLine where
  set : Nat
  index : Nat
  tag : BitVec 24
  parity : Bool
  sub0 : SubBlock
  sub1 : SubBlock
deriving DecidableEq, Repr

/-- The bits of an octaword of a Bcache block, by its number in the block, and of its check bits that are wrong in the Bcache
(13_state_cbu_iprs.md R255; 61_errors.md R1070). -/
structure BcFlip where
  octaword : Nat
  data : BitVec 128
  check : BitVec 16
deriving DecidableEq, Repr

/-- An entry of the Bcache tag store (21_external_interface.md R390): the index counts blocks, the tag is addr<38:20>. `flips`
says which data of the block are wrong; `missed` is the probe that missed when the block was read from the system (61_errors.md
R1040). -/
structure BcLine where
  index : Nat
  tag : BitVec 19
  tagParity : Bool
  valid : Bool
  shared : Bool
  dirty : Bool
  ctlParity : Bool
  flips : List BcFlip
  missed : Option (BitVec 27)
deriving DecidableEq, Repr

/-- A line of a Dcache bank (12_state_mtu_iprs.md R221): index addr<12:5>, tag addr<38:13>, a valid bit for each octaword.
`bad` has a bit for each byte whose data parity is wrong (R205); `stale` marks a line whose data may differ from the Scache's
(20_memory.md R332). -/
structure DcLine where
  bank1 : Bool
  index : Nat
  tag : BitVec 26
  parity : Bool
  valid : BitVec 2
  bad : BitVec 32
  stale : Bool
deriving DecidableEq, Repr

/-- What an entry of the write buffer is (20_memory.md R336, R354): stores, a conditional store, FETCH, FETCH_M. -/
inductive WriteKind where
  | store | conditional | fetch | fetchM
deriving DecidableEq, Repr

/-- Why a block is read from outside (21_external_interface.md R401): a load, the Istream, a store, a conditional store. -/
inductive ReadKind where
  | load | istream | modify | conditional
deriving DecidableEq, Repr

/-- int4_valid_h and the transfer size of a command (R397 to R399): a mask of the INT4s or INT8s of 32 bytes, or the low
address bits. `size` is addr_h<38:37> with ICSR<BSE>, 0 without. -/
structure Lanes where
  size : BitVec 2
  low : Bool
  bits : BitVec 8
deriving DecidableEq, Repr

/-- An entry of the write buffer (10_state.md R73): the address that is sent, with its block <39:5>, the bytes it writes (an
INT4 mask bit for every four) and their data, the WMB and the no-merge flag. `State.mem` shows the stores that wait here;
`before` holds what they replace in the level below. -/
structure WbEntry where
  kind : WriteKind
  addr : PAddr
  bytes : BitVec 32
  data : BitVec 256
  lanes : Lanes
  noMerge : Bool
  wmb : Bool
  before : Longs
deriving DecidableEq, Repr

/-- A load in the miss address file (10_state.md R74): an outstanding load, the value its register held, and the address of the
instruction. It waits until the CBU accepts it, behind a write buffer entry for its block if there is a conflict (20_memory.md
R333); one that has merged shares the entry of an earlier load (R296). `doubt` says that the Dcache may hold other data (R332),
and `own` which of its bytes come from older stores of this processor: of a load that waits those that wait too, of an accepted
one also those in the Scache (R333). -/
structure MafEntry where
  slot : RegSlot
  addr : PAddr
  size : Nat
  opcode : BitVec 6
  lock : Bool
  pc : Quad
  old : Quad
  lanes : Lanes
  waits : Bool
  conflict : Bool
  merged : Bool
  noMerge : Bool
  doubt : Bool
  own : BitVec 8
deriving DecidableEq, Repr

/-- The commands that the 21164 drives on cmd_h (21_external_interface.md R400, Table 4-9) but for NOP. -/
inductive BusCommand where
  | lock
  | fetch
  | fetchM
  | memoryBarrier
  | setDirty
  | writeBlock
  | writeBlockLock
  | readMiss (kind : ReadKind)
  | bcacheVictim
deriving DecidableEq, Repr

/-- A command as it stands on the pins (R382, R383): addr_h<39:4> with the transfer size, addr_cmd_par_h, int4_valid_h of its
32 bytes, the octawords on data_h in their order with data_check_h, scache_set_h and victim_pending_h. -/
structure BusCycle where
  command : BusCommand
  addr : PAddr
  parity : Bool
  int4Valid : BitVec 8
  data : List (BitVec 128)
  check : List (BitVec 16)
  scacheSet : BitVec 2
  victimPending : Bool
deriving DecidableEq, Repr

/-- What the 21164 has driven in this step: its commands in order, and the answer to a system command, addr_res_h<2:0> and
the octawords of data in their order on the bus, with their check bits (R421, R396, R430). -/
structure Bus where
  commands : List BusCycle
  response : BitVec 3
  data : List (BitVec 128)
  check : List (BitVec 16)
deriving DecidableEq, Repr

/-- The tag stores of the caches, and what the levels below hold. `State.mem` is what this processor reads; these say where
the data are. -/
structure Caches where
  /-- the lines of the Scache that are valid or hold a tag -/
  scache : List ScLine
  /-- the entries of the Bcache tag store that have been written -/
  bcache : List BcLine
  /-- the lines of the Dcache that have been written -/
  dcache : List DcLine
  /-- DC_FLUSH has been written since chip reset, so that every other line of the Dcache is invalid (20_memory.md R332 a) -/
  dcacheFlushed : Bool
  /-- what the level below the Scache holds where the Scache has modified data -/
  underScache : Longs
  /-- what memory holds where the Bcache has modified data -/
  underBcache : Longs
  /-- bytes of which nothing is known: their data went through an error or a test mode (61_errors.md R1035; 20_memory.md
  R332), or were lost in a partial reset (93_implementation_defined.md U14) -/
  poisoned : List Nat
  /-- how many blocks have been filled into the Scache -/
  fills : Nat
  /-- how many blocks have been read for the Dcache -/
  dcacheFills : Nat
  /-- what SC_ADDR and BC_TAG_ADDR show while they are not locked: the last access (13_state_cbu_iprs.md R248, R249, R260); none
  for a tag that is not known -/
  scSeen : Option PAddr
  bcSeen : Option (BitVec 27)
  bus : Bus
  /-- how many commands and answers have been driven, and how often it has been chosen whether LOCK is -/
  driven : Nat
  /-- what the caches have met and the next steps take up, before anything else: parity and ECC errors, data that show again -/
  posted : List Event
deriving DecidableEq, Repr

/-- The memory system between the instructions and the pins. -/
structure MemSys where
  /-- the write buffer, six entries, the oldest first (10_state.md R73) -/
  wb : List WbEntry
  /-- WMB has executed and the next entry to be allocated will carry its flag (20_memory.md R343) -/
  wmbNext : Bool
  /-- the load misses of the miss address file, the oldest first, in six entries (R74) -/
  maf : List MafEntry
  /-- the Istream entries of the miss address file, four (R74) -/
  imaf : List PAddr
  caches : Caches
deriving DecidableEq, Repr

/-! ## The model's own fields -/

/-- A class of instructions that a restriction of Table 5-37 forbids for a while (70_reset_and_hazards.md R1150). -/
inductive Ban where
  /-- HW_REI and HW_REI_STALL -/
  | rei
  /-- HW_REI but not HW_REI_STALL -/
  | reiPlain
  | reiStall
  | mfpr (index : BitVec 16)
  | mtpr (index : BitVec 16)
  /-- HW_MTPR or HW_MFPR of an MTU register -/
  | mtuIpr
  /-- an MTU instruction (R1110) -/
  | mtu
  | virtualMtu
  /-- LDx: a load that is not LDQ_U, LDx_L or HW_LD -/
  | ldx
  | loadOrStore
  | fpBranch
  /-- an instruction that raises FEN or OPCDEC -/
  | fenOpcdec
  | fpInstruction
  /-- a read or write of R8-R14 or R25 in PALmode -/
  | shadowAccess
  /-- LDBU, LDWU, STB, STW, SEXTB, SEXTW -/
  | byteWord
  | callPal
  | privilegedCallPal
  | rpcc
  | wmb
  /-- any read or write of R0-R30 or F0-F30 -/
  | registerFile
deriving DecidableEq, Repr

/-- A ban and for how many more instructions it holds (R1111). -/
structure Hazard where
  ban : Ban
  left : Nat
deriving DecidableEq, Repr

/-- The obligations of Table 5-37 that are not windows (R1150, last paragraph). -/
structure Owed where
  /-- the flow must leave PALmode by HW_REI_STALL (R1131, R1132) -/
  reiStall : Bool
  /-- HW_MTPR ITB_IS in these octawords: the HW_REI_STALL must be in each (R1132) -/
  stallBlocks : List Nat
  /-- ICSR<SPE> has changed and the Icache has not been flushed (R1129) -/
  speFlush : Bool
  /-- between HW_MFPR DC_TEST_TAG and HW_MFPR DC_TEST_TAG_TEMP (R1149) -/
  dcTestRead : Bool
  /-- the inline instructions still owed after IC_FLUSH_CTL (R1126) -/
  inline : Nat
  /-- the inline instructions, from an INT16 boundary on, until the flush of the Icache has taken effect (R1100); 0 if
  none is under way -/
  drain : Nat
  /-- what must follow after SC_FHIT, BC_FHIT was cleared (13_state_cbu_iprs.md R242): 2 an MB and a read of SC_STAT,
  EI_STAT, 1 another MB -/
  scExit : Nat
  bcExit : Nat
deriving DecidableEq, Repr

/-- An instruction that the SROM placed in the Icache, with the tag of its block (70_reset_and_hazards.md R1088): a
physical (PALmode) address, or a virtual one of an address space. `bad` says which parity is wrong: bit 0 data, 1 tag. -/
structure SromWord where
  physical : Bool
  asm : Bool
  asn : BitVec 7
  addr : Nat
  word : Long
  bad : BitVec 2
deriving DecidableEq, Repr

/-- What instruction fetch may still return instead of memory (20_memory.md R360): longwords at physical addresses that
a store has replaced, by how far the procedure of R361 has gone; other pages that a virtual address has been mapped to
(R362); and the SROM image (70_reset_and_hazards.md R1085). -/
structure Stale where
  /-- replaced since the last MB -/
  unbarriered : Longs
  /-- replaced before the last MB -/
  barriered : Longs
  /-- replaced before an MB that is known to have completed: a load or HW_MFPR of an MTU register has followed -/
  settled : Longs
  /-- flushed; gone when the 44 inline instructions have run -/
  draining : Longs
  /-- ITB entries that have been replaced or invalidated since the last flush -/
  mappings : List ItbEntry
  /-- those of before the last flush; gone when the 44 inline instructions have run -/
  drainingMappings : List ItbEntry
  /-- the instructions that the SROM placed in the Icache -/
  srom : List SromWord
  /-- nothing has been fetched or prefetched from outside the SROM image or flushed since the reset, so that a block of it
  must hit -/
  sromWhole : Bool
  /-- 32-byte blocks that the Icache or the refill buffer may hold (R360), each with the parity that is bad in it, bit 0 data, 1
  tag (11_state_idu_iprs.md R149): those of before the last flush, while it has not taken effect, and those since -/
  drainingHeld : List (Nat × BitVec 2)
  held : List (Nat × BitVec 2)
  /-- the superpages, as ICSR<SPE> has them, through which words have been fetched since the last flush but one that has not
  taken effect, and since the last flush (R362) -/
  superpages : BitVec 2
  drainingSuperpages : BitVec 2
deriving DecidableEq, Repr

/-- What the translation of instruction fetches depends on (20_memory.md R330). -/
structure FetchState where
  icm : BitVec 2
  spe : BitVec 2
  asn : BitVec 7
  itb : List ItbEntry
deriving DecidableEq, Repr

/-- A translation state that a fetch may still use: until HW_REI_STALL, or for so many more instructions (R330). -/
structure Former where
  fetch : FetchState
  stall : Bool
  left : Nat
deriving DecidableEq, Repr

/-- The CBU registers of Table 5-25 (13_state_cbu_iprs.md R240). -/
inductive CbuReg where
  | scCtl | scStat | scAddr | bcControl | bcConfig | bcTagAddr | eiStat | eiAddr | fillSyn
deriving DecidableEq, Repr

/-- The model's own state: the source of free values, the environment's queue, and the checks of the obligations on
PALcode. -/
structure Model where
  /-- how many free values have been drawn (00_scope.md R31) -/
  draws : Nat
  /-- how long the deliverable interrupt has been postponed (60_exceptions.md R991) -/
  postponed : Nat
  /-- how long the machine check that is owed has been postponed (60_exceptions.md R974) -/
  checkWaited : Nat
  /-- the PALcode entry this step has taken -/
  lastEntry : Option Entry
  /-- events to come, the next first -/
  inbox : List Event
  hazards : List Hazard
  owed : Owed
  stale : Stale
  /-- the last MTU instruction or MB was an MB (13_state_cbu_iprs.md R242) -/
  afterMb : Bool
  /-- a CBU control register has been stored to and no MB has followed (R242) -/
  cbuStore : Bool
  /-- that store changed more than ALLOC_CYC, PM_MUX_SEL and DBG_MUX_SEL (R242) -/
  cbuQuiet : Bool
  /-- a store to a CBU control register that MAF_MODE<MAF_ARB_DISABLE> holds back (12_state_mtu_iprs.md R207) -/
  cbuWaits : Option (CbuReg × Quad)
  /-- counter n may have counted since PMCTR was written or read (11_state_idu_iprs.md R164) -/
  counted : BitVec 3
  /-- how many instructions have executed since the last MTU instruction or WMB, up to 8: a replay of it may have repeated
  them (R121) -/
  sinceMtu : Nat
  /-- translation states that a fetch may still use (20_memory.md R330) -/
  former : List Former
  /-- a NOP with bad parity was the last system command, and the sysclk ratio is 3 (61_errors.md R1052) -/
  deaf : Bool
  /-- the next load is forced to miss the Dcache (71_timing.md R1170) -/
  missNext : Bool
deriving DecidableEq, Repr

/-! ## The state -/

/-- The machine. -/
structure State where
  /-- R0 to R30; number 31 is not used (10_state.md R50, R52) -/
  regs : Vector Quad 32
  /-- the PALshadow registers for R8 to R14 and R25 (R54) -/
  shadow : Vector Quad 8
  /-- F0 to F30; number 31 is not used (R56, R57) -/
  fregs : Vector Quad 32
  /-- the address of the instruction; bit 0 is PALmode (R59, R60) -/
  pc : Quad
  /-- FPCR<62:49>; SUM is computed and <48:0> read as zero (R63) -/
  fpcr : BitVec 14
  /-- the lock flag and the locked physical address (R65) -/
  lockFlag : Bool
  lockPa : PAddr
  /-- the interrupt flag of RS and RC (R66) -/
  intrFlag : Bool
  /-- an ARITH entry is owed (60_exceptions.md R970) -/
  arithPending : Bool
  /-- the machine checks that are owed; true for one that comes before the next instruction (60_exceptions.md R974) -/
  machineChecks : List Bool
  idu : Idu
  mtu : Mtu
  cbu : Cbu
  pins : Pins
  /-- memory by physical address, 20_memory.md R292: addresses strictly rising, no zero byte -/
  mem : List Host.Cell
  memsys : MemSys
  model : Model
deriving DecidableEq, Repr

/-! ## Reset (70_reset_and_hazards.md R1083, R1090) -/

/-- A page table entry of zeros. -/
def ItbPte.zero : ItbPte := ⟨false, 0, 0, 0⟩

/-- A page table entry of zeros. -/
def DtbPte.zero : DtbPte := ⟨false, false, false, 0, 0, 0, 0⟩

/-- The IDU after reset: PAL_BASE, PMCTR<15:10>, SL_XMIT cleared, ICSR<37> set. Every other value is UNDEFINED in
Table 7-2 and zero here, the ITB invalid (DESIGN CHOICE, unsafe, log entry 1). -/
def Idu.reset : Idu where
  itb := List.replicate 48 ⟨false, 0, 0, .zero⟩
  itbPtr := 0
  itbTag := 0
  itbAsn := 0
  itbPteTemp := .zero
  ifaultVaForm := 0
  ivptbr := 0
  icperrStat := 0
  excAddr := 0
  excSum := 0
  swcKilled := false
  excMaskInt := 0
  excMaskFp := 0
  palBase := 0
  icm := 0
  icsr := 0x2000000000
  iplr := 0
  astrr := 0
  aster := 0
  sirr := 0
  pcRequests := 0
  crdRequest := false
  sliRequest := false
  slXmit := false
  pmctr := 0
  palTemp := Vector.replicate 24 0

/-- The MTU after reset: DTB invalid with its pointer at entry 0, MCSR, DC_MODE, MAF_MODE cleared, CC disabled. The rest
is UNDEFINED in Table 7-2 and zero here (DESIGN CHOICE, unsafe, log entry 1). -/
def Mtu.reset : Mtu where
  dtb := List.replicate 64 ⟨false, 0, 0, .zero⟩
  dtbPtr := 0
  dtbPte := .zero
  dtbPteTemp := .zero
  dtbAsn := 0
  dtbCm := 0
  mvptbr := 0
  va := 0
  mmStat := 0
  mmLock := false
  mcsr := 0
  dcMode := 0
  mafMode := 0
  altMode := 0
  ccOffset := 0
  ccCount := 0
  ccEnabled := false
  dcPerrStat := 0
  dcTestCtl := 0
  dcTestTagTemp := 0

/-- The CBU after reset: SC_CTL 0xF000, BC_CONFIG 0x17441, BC_CONTROL<06:04> and <15> set, <01:00>, <07>, <14:13>, <16>,
<27:19> cleared. The rest is UNDEFINED in Table 7-2 and zero here (DESIGN CHOICE, unsafe, log entry 1). -/
def Cbu.reset : Cbu where
  scCtl := 0xF000
  scStat := 0
  scLocked := false
  scAddr := 0
  bcControl := 0x8070
  bcConfig := 0x17441
  bcTagAddr := 0
  bcTagLocked := false
  eiStat := 0
  eiLocked := false
  eiAddr := 0
  fillSyn := 0

/-- The model's own fields at the start of a run: nothing drawn, nothing pending (DESIGN CHOICE, log entry 1). -/
def Model.reset : Model where
  draws := 0
  postponed := 0
  checkWaited := 0
  lastEntry := none
  inbox := []
  hazards := []
  owed := ⟨false, [], false, false, 0, 0, 0, 0⟩
  stale := ⟨[], [], [], [], [], [], [], false, [], [], 0, 0⟩
  afterMb := false
  cbuStore := false
  cbuQuiet := false
  cbuWaits := none
  counted := 0
  sinceMtu := 8
  former := []
  deaf := false
  missNext := false

/-- Nothing driven. -/
def Bus.idle : Bus := ⟨[], 0, [], []⟩

/-- The caches after reset (70_reset_and_hazards.md R1086): the Scache flushed; of the Dcache and the Bcache tag store
nothing is known. -/
def Caches.reset : Caches where
  scache := []
  bcache := []
  dcache := []
  dcacheFlushed := false
  underScache := []
  underBcache := []
  poisoned := []
  fills := 0
  dcacheFills := 0
  scSeen := some 0
  bcSeen := some 0
  bus := .idle
  driven := 0
  posted := []

/-- The memory system after reset (R1086): write buffer and miss address file empty. -/
def MemSys.reset : MemSys where
  wb := []
  wmbNext := false
  maf := []
  imaf := []
  caches := .reset

/-- The input pins at the start of a run: every request low, system_lock_flag_h asserted, fills private and clean
(21_external_interface.md R441; DESIGN CHOICE, log entry 1). -/
def Pins.reset : Pins where
  irq := 0
  halt := false
  powerFail := false
  machineCheck := false
  serialData := false
  tagShared := false
  tagDirty := false
  shared := false
  systemLock := true

/-- The machine right after chip reset: pc = 1, PALmode at physical address 0 (R1083), memory with nothing listed. The
register files, FPCR, lock flag and interrupt flag have no reset value in the spec and are zero (DESIGN CHOICE, unsafe,
log entry 1). -/
def State.reset : State where
  regs := Vector.replicate 32 0
  shadow := Vector.replicate 8 0
  fregs := Vector.replicate 32 0
  pc := 1
  fpcr := 0
  lockFlag := false
  lockPa := 0
  intrFlag := false
  arithPending := false
  machineChecks := []
  idu := .reset
  mtu := .reset
  cbu := .reset
  pins := .reset
  mem := []
  memsys := .reset
  model := .reset

end Sys2Proof.Machine
end

