-- ==== Sys2Proof/Machine/Ops.lean ====
section
/-!
DEFINITION. The named operations on registers, memory and free values, and taking and leaving a PALcode entry. Every
instruction goes through these.
-/

namespace Sys2Proof.Machine

/-! ## Bits -/

/-- v<i> of a quadword. -/
def bit (v : Quad) (i : Nat) : Bool := v.getLsbD i

/-- One bit as a quadword, zero-extended. -/
def quadOfBool (b : Bool) : Quad := bif b then 1 else 0

/-- The quadword with bits <lo+n-1:lo> taken from a field, the others zero. -/
def place {n : Nat} (f : BitVec n) (lo : Nat) : Quad := f.setWidth 64 <<< lo

/-- v<lo+n-1:lo>. -/
def slice (v : Quad) (lo n : Nat) : BitVec n := v.extractLsb' lo n

/-- The exclusive OR of the bits. -/
def eparity {n : Nat} (v : BitVec n) : Bool := (List.range n).foldl (fun p k => xor p (v.getLsbD k)) false

/-! ## Free values (00_scope.md R31) -/

/-- `s` after one draw. -/
def State.drawn (s : State) : State := { s with model := { s.model with draws := s.model.draws + 1 } }

/-- The next free value: 64 bits that nothing constrains. -/
def State.drawValue (s : State) : Quad := Config.draw s.model.draws

/-- The next free choice. -/
def State.drawChoice (s : State) : Bool := Config.choice s.model.draws

/-! ## Modes (10_state.md R60; 11_state_idu_iprs.md R139, R140) -/

/-- PALmode: pc<0> (R60). -/
def State.palmode (s : State) : Bool := bit s.pc 0

/-- A bit of ICSR (R140). -/
def State.icsrBit (s : State) (i : Nat) : Bool := bit s.idu.icsr i

/-- ICM<CM> = kernel (R139). -/
def State.kernel (s : State) : Bool := s.idu.icm == 0

/-- `pal_opcode_allowed()` (48_palcode.md R930): PALmode, or ICSR<HWE> in kernel mode. -/
def State.palOpcodeAllowed (s : State) : Bool := s.palmode || (s.icsrBit 27 && s.kernel)

/-- ICSR<FPE> (R144). -/
def State.fpEnabled (s : State) : Bool := s.icsrBit 26

/-- ICSR<BSE> (R146). -/
def State.byteWordEnabled (s : State) : Bool := s.icsrBit 17

/-! ## Integer registers (10_state.md R50 to R54) -/

/-- The PALshadow register that overlays a register number (R54): R8 to R14 and R25. -/
def shadowSlot (r : Reg) : Option (Fin 8) :=
  match r.toNat with
  | 8 => some 0
  | 9 => some 1
  | 10 => some 2
  | 11 => some 3
  | 12 => some 4
  | 13 => some 5
  | 14 => some 6
  | 25 => some 7
  | _ => none

/-- The shadow register that a register number names in this state (R54: PALmode and ICSR<SDE>). -/
def State.shadowOf (s : State) (r : Reg) : Option (Fin 8) :=
  bif s.palmode && s.icsrBit 30 then shadowSlot r else none

/-- R[r] (00_scope.md R27): R31 reads as zero (10_state.md R52). -/
def State.readReg (s : State) (r : Reg) : Quad :=
  bif r == 31 then 0
  else match s.shadowOf r with
    | some k => s.shadow.get k
    | none => s.regs.get r.toFin

/-- R[r] <- v: a write to R31 is discarded (R52). -/
def State.writeReg (s : State) (r : Reg) (v : Quad) : State :=
  bif r == 31 then s
  else match s.shadowOf r with
    | some k => { s with shadow := s.shadow.set k v }
    | none => { s with regs := s.regs.set r.toFin v }

/-! ## Floating-point registers (10_state.md R56, R57) -/

/-- F[r]: F31 reads as zero (R57). -/
def State.readFreg (s : State) (r : Reg) : Quad :=
  bif r == 31 then 0 else s.fregs.get r.toFin

/-- F[r] <- v: a write to F31 is discarded (R57). -/
def State.writeFreg (s : State) (r : Reg) (v : Quad) : State :=
  bif r == 31 then s else { s with fregs := s.fregs.set r.toFin v }

/-! ## Registers as destinations -/

/-- The register that a name stands for in this state; bit 5 marks the floating-point registers. -/
def State.slotOf (s : State) (d : BitVec 6) : RegSlot :=
  let r : Reg := d.extractLsb' 0 5
  bif d.getLsbD 5 then .fp r
  else match s.shadowOf r with
    | some k => .shadow k
    | none => .int r

/-- R31 or F31, which no load writes (R52, R57). -/
def RegSlot.discards : RegSlot → Bool
  | .int r => r == 31
  | .fp r => r == 31
  | .shadow _ => false

/-- The register's value; of number 31 the slot that is not used. -/
def State.readSlot (s : State) : RegSlot → Quad
  | .int r => s.regs.get r.toFin
  | .shadow k => s.shadow.get k
  | .fp r => s.fregs.get r.toFin

/-- The register := v, whatever the mode; number 31 is left alone. -/
def State.writeSlot (s : State) (v : Quad) : RegSlot → State
  | .int r => bif r == 31 then s else { s with regs := s.regs.set r.toFin v }
  | .shadow k => { s with shadow := s.shadow.set k v }
  | .fp r => bif r == 31 then s else { s with fregs := s.fregs.set r.toFin v }

/-! ## Program counter -/

/-- pc := t. -/
def State.setPc (s : State) (t : Quad) : State := { s with pc := t }

/-- The instruction that does not transfer control is followed by the one at pc + 4 (10_state.md R59). -/
def State.advance (s : State) : State := s.setPc (s.pc + 4)

/-- Completion: the state after the instruction's effects, at pc + 4. -/
def State.done (s : State) : Result State := .next s.advance

/-! ## Memory (20_memory.md R290, R300) -/

/-- Memory: the bytes that are not zero, by physical address. -/
abbrev Memory := List Host.Cell

/-- What a byte that is not listed reads as (DESIGN CHOICE, unsafe, log entry 2: the contents of memory are the
platform's, R292). -/
def unlistedByte : Byte := 0

/-- The byte at an address. -/
def Memory.byte : Memory → Nat → Byte
  | [], _ => unlistedByte
  | (k, b) :: rest, a => bif k == a then b else Memory.byte rest a

/-- A cell in front of a memory whose addresses are all greater, or nothing for the byte that is not listed. -/
def Memory.put (a : Nat) (v : Byte) (rest : Memory) : Memory :=
  bif v == unlistedByte then rest else (a, v) :: rest

/-- Write one byte, keeping the canonical form. -/
def Memory.write : Memory → Nat → Byte → Memory
  | [], a, v => Memory.put a v []
  | (k, b) :: rest, a, v =>
    bif Nat.blt k a then (k, b) :: Memory.write rest a v
    else bif k == a then Memory.put a v rest
    else Memory.put a v ((k, b) :: rest)

/-- The canonical form from an address on: addresses rising from `lo`, no byte that an unlisted address reads as. -/
def Memory.wfFrom : Nat → Memory → Bool
  | _, [] => true
  | lo, (k, b) :: rest => Nat.ble lo k && (b != unlistedByte) && Memory.wfFrom (k + 1) rest

/-- The canonical form. -/
def Memory.wf (m : Memory) : Bool := Memory.wfFrom 0 m

/-- n bytes from an address as a number, the byte of lowest address least significant (R300). -/
def Memory.readNat (m : Memory) (a : Nat) : Nat → Nat
  | 0 => 0
  | n + 1 => (Memory.byte m a).toNat + 256 * Memory.readNat m (a + 1) n

/-- n bytes from an address, zero-extended to a quadword (00_scope.md R29). -/
def Memory.read (m : Memory) (a n : Nat) : Quad := BitVec.ofNat 64 (Memory.readNat m a n)

/-- The low 8n bits of v at n bytes from an address (R29, R300). -/
def Memory.writeBytes (m : Memory) (a : Nat) (v : Quad) : Nat → Memory
  | 0 => m
  | n + 1 => Memory.writeBytes (Memory.write m a (v.extractLsb' 0 8)) (a + 1) (v >>> 8) n

/-- The longword at an address. -/
def Memory.long (m : Memory) (a : Nat) : Long := (Memory.read m a 4).setWidth 32

/-! ## Longwords that instruction fetch may still return (20_memory.md R360) -/

/-- Note a longword that a store is about to replace. -/
def noteReplaced (m : Memory) (a : Nat) (old : Longs) : Longs :=
  bif old.elem (a, m.long a) then old else (a, m.long a) :: old

/-- The aligned longwords that n bytes at an aligned address touch: one, or two for a quadword. -/
def longsOf (a n : Nat) : List Nat := bif n == 8 then [a, a + 4] else [a / 4 * 4]

/-- The model's fields with longwords noted that the Icache may keep (R360). -/
def Model.noteStale (k : Model) (m : Memory) (l : List Nat) : Model :=
  { k with stale := { k.stale with unbarriered := l.foldl (fun o x => noteReplaced m x o) k.stale.unbarriered } }

/-- Write n bytes of memory. The Icache keeps what was there (R360). -/
def State.storeBytes (s : State) (a n : Nat) (v : Quad) : State :=
  { s with
    mem := Memory.writeBytes s.mem a v n
    model := s.model.noteStale s.mem (longsOf a n) }

/-! ## Entering PALcode (60_exceptions.md R951, R960) -/

/-- The offset of an entry from PAL_BASE (R960). CALL_PAL computes its own (48_palcode.md R920). -/
def Entry.offset : Entry → BitVec 14
  | .reset => 0x0000
  | .iaccvio => 0x0080
  | .interrupt => 0x0100
  | .itbmiss => 0x0180
  | .dtbmissSingle => 0x0200
  | .dtbmissDouble => 0x0280
  | .unalign => 0x0300
  | .dfault => 0x0380
  | .mchk => 0x0400
  | .opcdec => 0x0480
  | .arith => 0x0500
  | .fen => 0x0580
  | .callPal => 0x2000

/-- An address in PALmode: PAL_BASE<63:14> ++ OFF<13:1> ++ 1 (R951 step 5). -/
def palAddress (base : BitVec 50) (off : BitVec 14) : Quad := base ++ (off.extractLsb' 1 13 : BitVec 13) ++ (1 : BitVec 1)

/-- What EXC_ADDR receives: t<63:2> ++ 0 ++ pc<0> (R951 step 4). -/
def savedPc (t pc : Quad) : Quad :=
  (slice t 2 62 : BitVec 62) ++ (0 : BitVec 1) ++ (slice pc 0 1 : BitVec 1)

/-- The entry waits until every outstanding load has written its register (71_timing.md R1178). At a machine check loads may
still be in flight (70_reset_and_hazards.md R1114); CALL_PAL is no exception. -/
def Entry.drains : Entry → Bool
  | .mchk => false
  | .callPal => false
  | .reset => false
  | .iaccvio => true
  | .interrupt => true
  | .itbmiss => true
  | .dtbmissSingle => true
  | .dtbmissDouble => true
  | .unalign => true
  | .dfault => true
  | .opcdec => true
  | .arith => true
  | .fen => true

/-- The miss address file when the loads that write a register have returned; for those that the CBU has not accepted yet, see
`State.noteEntry`. -/
def MemSys.drained (m : MemSys) : MemSys := { m with maf := m.maf.filter fun e => e.slot.discards || e.waits }

/-- Taking an entry, R951 steps 4 to 6: EXC_ADDR, the pc in PALmode, intr_flag cleared; the loads before it have returned
(R1178); nothing else changes. -/
def enterPal (e : Entry) (ret : Quad) (off : BitVec 14) (s : State) : State :=
  { s with
    idu := { s.idu with excAddr := savedPc ret s.pc }
    pc := palAddress s.idu.palBase off
    intrFlag := false
    memsys := bif e.drains then s.memsys.drained else s.memsys
    model := { s.model with lastEntry := some e } }

/-- The owed ARITH entry at the present pc (60_exceptions.md R971). -/
def takeArith (s : State) : State :=
  enterPal .arith s.pc Entry.arith.offset { s with arithPending := false }

/-- Taking an exception or interrupt at the present pc, with what it records: an owed ARITH entry is taken in its place,
and nothing is recorded (R971 c). -/
def takeEntry (e : Entry) (record : State → State) (s : State) : State :=
  bif s.arithPending then takeArith s else enterPal e s.pc e.offset (record s)

/-- An instruction that raises an exception and records nothing. -/
def raise (e : Entry) (s : State) : Result State := .next (takeEntry e id s)

/-- An instruction before which an owed ARITH entry is delivered (R971 a, b, d). -/
def afterArith (s : State) (k : State → Result State) : Result State :=
  bif s.arithPending then .next (takeArith s) else k s

/-- Floating-point instructions raise FEN unless ICSR<FPE> is set (60_exceptions.md R972). -/
def whenFp (k : State → Result State) (s : State) : Result State := bif s.fpEnabled then k s else raise .fen s

/-- The byte/word extension raises OPCDEC unless ICSR<BSE> is set (30_encoding.md R480). -/
def whenByteWord (k : State → Result State) (s : State) : Result State :=
  bif s.byteWordEnabled then k s else raise .opcdec s

/-- The PALcode-only opcodes raise OPCDEC unless they are allowed (48_palcode.md R930). -/
def whenPal (k : State → Result State) (s : State) : Result State :=
  bif s.palOpcodeAllowed then k s else raise .opcdec s

/-- The return from an entry, HW_REI: pc := EXC_ADDR<63:2> ++ 0 ++ EXC_ADDR<0> (48_palcode.md R912). -/
def returnFromPal (s : State) : State := s.setPc (savedPc s.idu.excAddr s.idu.excAddr)

end Sys2Proof.Machine
end

