-- ==== Sys2Proof/Machine/Operands.lean ====
section
/-!
DEFINITION. The operand forms of the instructions: the second source of the Operate format, effective addresses, branch
and jump targets, and the memory formats of the floating-point registers.
-/

namespace Sys2Proof.Machine

/-- "Rbv" (30_encoding.md R455): R[Rb], or the literal zero-extended. -/
def State.operand (s : State) : Operand → Quad
  | .reg rb => s.readReg rb
  | .lit n => n.setWidth 64

/-- The effective address R[Rb] + sext_64(disp) (40_load_store.md R500). -/
def State.address (s : State) (rb : Reg) (disp : BitVec 16) : Quad := s.readReg rb + disp.signExtend 64

/-- The address of HW_LD and HW_ST: R[Rb] + sext_64(w<9:0>) (48_palcode.md R931). -/
def State.hwAddress (s : State) (rb : Reg) (disp : BitVec 10) : Quad := s.readReg rb + disp.signExtend 64

/-- An address with its low k bits cleared. -/
def clearLow {n : Nat} (v : BitVec n) (k : Nat) : BitVec n := (v >>> k) <<< k

/-- The branch target (41_control.md R560): counted from the updated pc, keeping pc<1:0>. -/
def branchTarget (pc : Quad) (disp : BitVec 21) : Quad :=
  let target := clearLow pc 2 + 4 + (disp.signExtend 64 <<< 2)
  (slice target 2 62 : BitVec 62) ++ (slice pc 0 2 : BitVec 2)

/-- The return address a branch or jump writes (R562): the updated pc with bit 0 the PALmode flag and bit 1 zero. -/
def returnAddress (pc : Quad) : Quad :=
  (slice (clearLow pc 2 + 4) 2 62 : BitVec 62) ++ (0 : BitVec 1) ++ (slice pc 0 1 : BitVec 1)

/-- Where a jump goes (R581, R585): t<63:2> ++ 0 ++ newpal, and newpal is t<0> in PALmode and 0 otherwise (DESIGN CHOICE,
unsafe, log entry 8). -/
def jumpTarget (pc t : Quad) : Quad :=
  (slice t 2 62 : BitVec 62) ++ (0 : BitVec 1) ++ BitVec.ofBool (bit pc 0 && bit t 0)

/-! ## Floating-point register formats in memory (44_fp_common.md R731 to R735) -/

/-- MAP_S (R731): the S exponent in register form. -/
def mapS (e : BitVec 8) : BitVec 11 :=
  bif e == 0 then 0
  else bif e == 255 then 0x7FF
  else (e.extractLsb' 7 1 : BitVec 1) ++ (bif e.getLsbD 7 then (0 : BitVec 3) else 7) ++ (e.extractLsb' 0 7 : BitVec 7)

/-- MAP_F (R733): the F exponent in register form. -/
def mapF (e : BitVec 8) : BitVec 11 :=
  bif e == 0 then 0
  else (e.extractLsb' 7 1 : BitVec 1) ++ (bif e.getLsbD 7 then (0 : BitVec 3) else 7) ++ (e.extractLsb' 0 7 : BitVec 7)

/-- S_load (R731; 40_load_store.md R532). -/
def loadS (m : Long) : Quad :=
  (m.extractLsb' 31 1 : BitVec 1) ++ mapS (m.extractLsb' 23 8) ++ (m.extractLsb' 0 23 : BitVec 23) ++ (0 : BitVec 29)

/-- F_load (R733; R530). -/
def loadF (m : Long) : Quad :=
  (m.extractLsb' 15 1 : BitVec 1) ++ mapF (m.extractLsb' 7 8) ++ (m.extractLsb' 0 7 : BitVec 7) ++
    (m.extractLsb' 16 16 : BitVec 16) ++ (0 : BitVec 29)

/-- The word swap of LDG and STG (R734; R531, R535). -/
def swapG (m : Quad) : Quad := slice m 0 16 ++ slice m 16 16 ++ slice m 32 16 ++ slice m 48 16

/-- What STS stores: f<63:62> ++ f<58:29> (R536). -/
def storeS (f : Quad) : Long := (slice f 62 2 : BitVec 2) ++ (slice f 29 30 : BitVec 30)

/-- What STF stores: f<44:29> ++ f<63:62> ++ f<58:45> (R534). -/
def storeF (f : Quad) : Long := (slice f 29 16 : BitVec 16) ++ (slice f 62 2 : BitVec 2) ++ (slice f 45 14 : BitVec 14)

end Sys2Proof.Machine
end

