-- ==== Sys2Proof/Machine/Flags.lean ====
section
/-!
DEFINITION. The conditions that instructions record: integer overflow, the FPCR status bits, and EXC_SUM, EXC_MASK and
the owed ARITH entry of an arithmetic trap (11_state_idu_iprs.md R135 to R137; 60_exceptions.md R970). The 21164 has no
condition codes (42_integer_arith.md R602).
-/

namespace Sys2Proof.Machine

/-! ## Overflow -/

/-- An integer lies outside the range of n-bit two's complement (R602; 44_fp_common.md R747). -/
def outside (n : Nat) (z : Int) : Bool := decide (z < -(2 ^ (n - 1) : Int)) || decide ((2 ^ (n - 1) : Int) ≤ z)

/-! ## Conditions of branches and conditional moves -/

/-- a<63> (R569). -/
def isNegative (a : Quad) : Bool := bit a 63

/-- A floating-point register image is zero in the sense of branches: f<62:0> = 0 (41_control.md R570). -/
def fpZero (f : Quad) : Bool := slice f 0 63 == 0

/-! ## Exceptions -/

/-- A set of arithmetic exceptions in the order of EXC_SUM<16:11> and FPCR<57:52>: IOV, INE, UNF, OVF, DZE, INV. -/
abbrev Exc := BitVec 6

def Exc.inv : Exc := 0x01
def Exc.dze : Exc := 0x02
def Exc.ovf : Exc := 0x04
def Exc.unf : Exc := 0x08
def Exc.ine : Exc := 0x10
def Exc.iov : Exc := 0x20

/-- An exception, when a condition holds. -/
def Exc.when (b : Bool) (e : Exc) : Exc := bif b then e else 0

/-! ## FPCR (10_state.md R63) -/

/-- FPCR<i>, for i from 49 to 62. -/
def State.fpcrBit (s : State) (i : Nat) : Bool := s.fpcr.getLsbD (i - 49)

/-- FPCR<DYN_RM>. -/
def State.dynRm (s : State) : BitVec 2 := s.fpcr.extractLsb' 9 2

/-- FPCR<57:52> |= the exceptions (44_fp_common.md R746 step 5). -/
def State.setFpcrStatus (s : State) (e : Exc) : State := { s with fpcr := s.fpcr ||| (e.setWidth 14 <<< 3) }

/-! ## Arithmetic traps (60_exceptions.md R970) -/

/-- The bit of register r in a half of EXC_MASK. -/
def maskBit (r : Reg) : BitVec 32 := 1 <<< r.toNat

/-- The SWC bit and its hidden latch after a trapping floating-point instruction (R136): with /S, set unless an earlier
one without /S has trapped; without /S, cleared for good. -/
def Idu.noteSwc (i : Idu) (software : Bool) : Idu :=
  bif software then { i with excSum := i.excSum ||| BitVec.zeroExtend 7 (BitVec.ofBool (!i.swcKilled)) }
  else { i with excSum := i.excSum &&& 0x7E, swcKilled := true }

/-- EXC_SUM<16:11> |= the exceptions. -/
def Idu.noteExc (i : Idu) (e : Exc) : Idu := { i with excSum := i.excSum ||| (e.setWidth 7 <<< 1) }

/-- An integer overflow trap of an instruction whose destination is R[r] (42_integer_arith.md R602). -/
def State.integerTrap (s : State) (r : Reg) : State :=
  { s with
    idu := { s.idu.noteExc Exc.iov with excMaskInt := s.idu.excMaskInt ||| maskBit r }
    arithPending := true }

/-- A floating-point trap of an instruction whose destination is F[r] (44_fp_common.md R746 step 7). -/
def State.fpTrap (s : State) (software : Bool) (e : Exc) (r : Reg) : State :=
  { s with
    idu := { (s.idu.noteExc e).noteSwc software with excMaskFp := s.idu.excMaskFp ||| maskBit r }
    arithPending := true }

end Sys2Proof.Machine
end

