-- ==== Sys2Proof/Machine/Control.lean ====
section
/-!
DEFINITION. Branches and jumps (41_control.md). Prediction is not architectural (R590): hints have no effect.
-/

namespace Sys2Proof.Machine

/-- A conditional branch (R566, R570): to the target, or on. -/
def branchIf (cond : Bool) (disp : BitVec 21) (s : State) : Result State :=
  .next (s.setPc (bif cond then branchTarget s.pc disp else s.pc + 4))

/-- BR and BSR: the return address, then the target (R564, R565). -/
def branchLink (ra : Reg) (disp : BitVec 21) (s : State) : Result State :=
  .next ((s.writeReg ra (returnAddress s.pc)).setPc (branchTarget s.pc disp))

/-- The jumps (R581): R[Rb] is read before the return address is written. -/
def jumpLink (ra rb : Reg) (s : State) : Result State :=
  .next ((s.writeReg ra (returnAddress s.pc)).setPc (jumpTarget s.pc (s.readReg rb)))

/-- BR (R564). -/
def execBr (ra : Reg) (disp : BitVec 21) (s : State) : Result State := branchLink ra disp s

/-- BSR (R565). -/
def execBsr (ra : Reg) (disp : BitVec 21) (s : State) : Result State := branchLink ra disp s

/-! ## Integer conditional branches -/

/-- BLBC (R574). -/
def execBlbc (ra : Reg) (disp : BitVec 21) (s : State) : Result State :=
  branchIf (!bit (s.readReg ra) 0) disp s

/-- BEQ (R567). -/
def execBeq (ra : Reg) (disp : BitVec 21) (s : State) : Result State :=
  branchIf (s.readReg ra == 0) disp s

/-- BLT (R569). -/
def execBlt (ra : Reg) (disp : BitVec 21) (s : State) : Result State :=
  branchIf (isNegative (s.readReg ra)) disp s

/-- BLE (R571). -/
def execBle (ra : Reg) (disp : BitVec 21) (s : State) : Result State :=
  branchIf (isNegative (s.readReg ra) || s.readReg ra == 0) disp s

/-- BLBS (R587). -/
def execBlbs (ra : Reg) (disp : BitVec 21) (s : State) : Result State :=
  branchIf (bit (s.readReg ra) 0) disp s

/-- BNE (R568). -/
def execBne (ra : Reg) (disp : BitVec 21) (s : State) : Result State :=
  branchIf (s.readReg ra != 0) disp s

/-- BGE (R573). -/
def execBge (ra : Reg) (disp : BitVec 21) (s : State) : Result State :=
  branchIf (!isNegative (s.readReg ra)) disp s

/-- BGT (R572). -/
def execBgt (ra : Reg) (disp : BitVec 21) (s : State) : Result State :=
  branchIf (!isNegative (s.readReg ra) && s.readReg ra != 0) disp s

/-! ## Floating-point conditional branches (R570) -/

/-- FBEQ (R575). -/
def execFbeq (fa : Reg) (disp : BitVec 21) (s : State) : Result State :=
  whenFp (branchIf (fpZero (s.readFreg fa)) disp) s

/-- FBLT (R577). -/
def execFblt (fa : Reg) (disp : BitVec 21) (s : State) : Result State :=
  whenFp (branchIf (isNegative (s.readFreg fa) && !fpZero (s.readFreg fa)) disp) s

/-- FBLE (R578). -/
def execFble (fa : Reg) (disp : BitVec 21) (s : State) : Result State :=
  whenFp (branchIf (isNegative (s.readFreg fa) || fpZero (s.readFreg fa)) disp) s

/-- FBNE (R576). -/
def execFbne (fa : Reg) (disp : BitVec 21) (s : State) : Result State :=
  whenFp (branchIf (!fpZero (s.readFreg fa)) disp) s

/-- FBGE (R580). -/
def execFbge (fa : Reg) (disp : BitVec 21) (s : State) : Result State :=
  whenFp (branchIf (!isNegative (s.readFreg fa) || fpZero (s.readFreg fa)) disp) s

/-- FBGT (R579). -/
def execFbgt (fa : Reg) (disp : BitVec 21) (s : State) : Result State :=
  whenFp (branchIf (!isNegative (s.readFreg fa) && !fpZero (s.readFreg fa)) disp) s

/-! ## Jumps (R581) -/

/-- JMP (R582). -/
def execJmp (ra rb : Reg) (_hint : BitVec 14) (s : State) : Result State := jumpLink ra rb s

/-- JSR (R583). -/
def execJsr (ra rb : Reg) (_hint : BitVec 14) (s : State) : Result State := jumpLink ra rb s

/-- RET (R584). -/
def execRet (ra rb : Reg) (_hint : BitVec 14) (s : State) : Result State := jumpLink ra rb s

/-- JSR_COROUTINE (R586). -/
def execJsrCoroutine (ra rb : Reg) (_hint : BitVec 14) (s : State) : Result State := jumpLink ra rb s

end Sys2Proof.Machine
end

