-- ==== Sys2Proof/Machine/Fp.lean ====
section
/-!
DEFINITION. Floating-point arithmetic: operand classes, exact results, rounding, range checks, and the completion of an
instruction (44_fp_common.md R731 to R747). Values are exact rationals times a power of two; nothing is rounded twice.
-/

namespace Sys2Proof.Machine

/-! ## Formats -/

/-- The floating-point formats of R747. -/
inductive FpFormat where
  | s | t | f | g | d
deriving DecidableEq, Repr

/-- p, the significant bits (R747). -/
def FpFormat.precision : FpFormat → Nat
  | .s => 24
  | .t => 53
  | .f => 24
  | .g => 53
  | .d => 56

/-- The least power of two, as an exponent, that overflows (R747, "OVF when abs(r) >="). -/
def FpFormat.overflowExp : FpFormat → Int
  | .s => 128
  | .t => 1024
  | .f => 127
  | .g => 1023
  | .d => 127

/-- The least power of two, as an exponent, that does not underflow (R747, "UNF when 0 < abs(r) <"). -/
def FpFormat.underflowExp : FpFormat → Int
  | .s => -126
  | .t => -1022
  | .f => -128
  | .g => -1024
  | .d => -128

/-- The VAX formats: a zero is +0 (R747). -/
def FpFormat.vax : FpFormat → Bool
  | .s => false
  | .t => false
  | .f => true
  | .g => true
  | .d => true

/-! ## Operands -/

/-- An operand: zero with its sign, finite with value (-1)^neg * mag * 2^exp, or one on which the 21164 does no arithmetic
(R738: NaN, infinity, denormal; dirty zero, reserved operand). -/
inductive FpOperand where
  | zero (neg : Bool)
  | finite (neg : Bool) (mag : Nat) (exp : Int)
  | nonfinite
deriving DecidableEq, Repr

/-- Tclass and Tval (R732). -/
def readT (f : Quad) : FpOperand :=
  let e := (slice f 52 11).toNat
  let m := (slice f 0 52).toNat
  bif e == 0 then (bif m == 0 then .zero (bit f 63) else .nonfinite)
  else bif e == 0x7FF then .nonfinite
  else .finite (bit f 63) (2 ^ 52 + m) (e - 1075)

/-- Gclass and Gval (R734). -/
def readG (f : Quad) : FpOperand :=
  let e := (slice f 52 11).toNat
  let m := (slice f 0 52).toNat
  bif e == 0 then (bif !bit f 63 && m == 0 then .zero false else .nonfinite)
  else .finite (bit f 63) (2 ^ 52 + m) (e - 1077)

/-- The classes of D_floating and Dval (R735). -/
def readD (f : Quad) : FpOperand :=
  let e := (slice f 55 8).toNat
  let m := (slice f 0 55).toNat
  bif e == 0 then (bif !bit f 63 && m == 0 then .zero false else .nonfinite)
  else .finite (bit f 63) (2 ^ 55 + m) (e - 184)

/-! ## Exact results -/

/-- An exact number (-1)^neg * num/den * 2^exp, den positive; for zero, `neg` is the sign of the zero. -/
structure Exact where
  neg : Bool
  num : Nat
  den : Nat := 1
  exp : Int := 0
deriving DecidableEq, Repr

/-- The rounding modes (R741): chopped, toward minus infinity, nearest with ties to even, toward plus infinity, nearest
with ties away from zero. -/
inductive Rounding where
  | chop | minusInf | nearest | plusInf | away
deriving DecidableEq, Repr

/-- The finite operand or zero as magnitude and exponent. -/
def FpOperand.parts : FpOperand → Bool × Nat × Int
  | .zero n => (n, 0, 0)
  | .finite n m e => (n, m, e)
  | .nonfinite => (false, 0, 0)

/-- A magnitude at a smaller exponent. -/
def scaleTo (m : Nat) (e low : Int) : Nat := m <<< (e - low).toNat

/-- The exact sum, with the sign of an exact zero (R747): the common sign of two like zeros, else + but - under rounding
toward minus infinity. -/
def exactAdd (mode : Rounding) (a b : FpOperand) : Exact :=
  let (na, ma, ea) := a.parts
  let (nb, mb, eb) := b.parts
  let low := bif ma == 0 then eb else bif mb == 0 then ea else min ea eb
  let x : Int := (scaleTo ma ea low : Int) * bif na then -1 else 1
  let y : Int := (scaleTo mb eb low : Int) * bif nb then -1 else 1
  let z := x + y
  { neg := bif z == 0 then (bif ma == 0 && mb == 0 && na == nb then na else mode == .minusInf) else decide (z < 0)
    num := z.natAbs
    exp := low }

/-- The operand with the other sign. -/
def FpOperand.negate : FpOperand → FpOperand
  | .zero n => .zero !n
  | .finite n m e => .finite (!n) m e
  | .nonfinite => .nonfinite

/-- The exact product. -/
def exactMul (a b : FpOperand) : Exact :=
  let (na, ma, ea) := a.parts
  let (nb, mb, eb) := b.parts
  { neg := na != nb, num := ma * mb, exp := ea + eb }

/-- The exact quotient by a number that is not zero. -/
def exactDiv (a b : FpOperand) : Exact :=
  let (na, ma, ea) := a.parts
  let (nb, mb, eb) := b.parts
  { neg := na != nb, num := ma, den := mb, exp := ea - eb }

/-- The operand itself. -/
def exactOf (a : FpOperand) : Exact :=
  let (n, m, e) := a.parts
  { neg := n, num := m, exp := e }

/-- A quadword integer (R737). -/
def exactOfInt (v : Quad) : Exact := { neg := bit v 63, num := v.toInt.natAbs }

/-! ## Comparison -/

/-- The sign of a - b, for operands that are not nonfinite: the two zeros are equal (45_fp_ieee.md R790). -/
def compareFp (a b : FpOperand) : Int :=
  let x := exactAdd .nearest a b.negate
  bif x.num == 0 then 0 else bif x.neg then -1 else 1

/-! ## Rounding (R741) -/

/-- Whether the quotient q, with remainder r of d, is rounded up in magnitude. -/
def roundsUp (mode : Rounding) (neg : Bool) (q r d : Nat) : Bool :=
  match mode with
  | .chop => false
  | .minusInf => neg && r != 0
  | .plusInf => !neg && r != 0
  | .nearest => Nat.blt d (2 * r) || (2 * r == d && q % 2 == 1)
  | .away => Nat.ble d (2 * r) && r != 0

/-- num/den * 2^k as a fraction. -/
def shiftFraction (num den : Nat) (k : Int) : Nat × Nat :=
  bif decide (k < 0) then (num, den <<< (-k).toNat) else (num <<< k.toNat, den)

/-- A rounded magnitude: sig * 2^exp, and whether it differs from the exact one. -/
structure Rounded where
  sig : Nat
  exp : Int
  inexact : Bool
deriving DecidableEq, Repr

/-- Round at the unit 2^-k: the nearest multiple in the mode. -/
def roundAt (mode : Rounding) (x : Exact) (k : Int) : Rounded :=
  let (n, d) := shiftFraction x.num x.den k
  let q := n / d
  let r := n % d
  { sig := bif roundsUp mode x.neg q r d then q + 1 else q, exp := x.exp - k, inexact := r != 0 }

/-- The scaling that makes a number that is not zero have p or p+1 bits before the point, corrected to p bits. -/
def scaleFor (p : Nat) (x : Exact) : Int :=
  let k : Int := (p : Int) + (x.den.log2 : Int) - (x.num.log2 : Int)
  let (n, d) := shiftFraction x.num x.den k
  bif Nat.blt (n / d) (2 ^ p) then k else k - 1

/-- Round a number that is not zero to p significant bits, the exponent unbounded; a carry out of the top renormalizes. -/
def roundTo (p : Nat) (mode : Rounding) (x : Exact) : Rounded :=
  let r := roundAt mode x (scaleFor p x)
  bif r.sig == 2 ^ p then { r with sig := 2 ^ (p - 1), exp := r.exp + 1 } else r

/-! ## Results -/

/-- The result of an instruction: the value it writes and its exceptions, or exceptions that leave the value
UNPREDICTABLE (R746 step 6). -/
inductive FpResult where
  | value (v : Quad) (e : Exc)
  | free (e : Exc)
deriving DecidableEq, Repr

/-- The encoding of sig * 2^(top - p) with p = precision, 2^(top-1) <= value < 2^top (R747, last column). -/
def encodeFp (fmt : FpFormat) (neg : Bool) (sig : Nat) (top : Int) : Quad :=
  let frac := sig - 2 ^ (fmt.precision - 1)
  match fmt with
  | .s => BitVec.ofBool neg ++ BitVec.ofInt 11 (top + 1022) ++ BitVec.ofNat 23 frac ++ (0 : BitVec 29)
  | .t => BitVec.ofBool neg ++ BitVec.ofInt 11 (top + 1022) ++ BitVec.ofNat 52 frac
  | .f => BitVec.ofBool neg ++ BitVec.ofInt 11 (top + 1024) ++ BitVec.ofNat 23 frac ++ (0 : BitVec 29)
  | .g => BitVec.ofBool neg ++ BitVec.ofInt 11 (top + 1024) ++ BitVec.ofNat 52 frac
  | .d => BitVec.ofBool neg ++ BitVec.ofInt 8 (top + 128) ++ BitVec.ofNat 55 frac

/-- A zero result: +0 in the VAX formats, with its sign in the IEEE ones (R747). -/
def encodeZero (fmt : FpFormat) (neg : Bool) : Quad := place (BitVec.ofBool (neg && !fmt.vax)) 63

/-- Step 4 of R746 for a floating result. `ineEn` says whether the inexact trap is enabled. -/
def roundResult (fmt : FpFormat) (mode : Rounding) (ineEn : Bool) (x : Exact) : FpResult :=
  bif x.num == 0 then .value (encodeZero fmt x.neg) 0
  else
    let r := roundTo fmt.precision mode x
    let top := r.exp + fmt.precision
    bif decide (fmt.overflowExp < top) then .free (Exc.ovf ||| Exc.when ineEn Exc.ine)
    else bif decide (top ≤ fmt.underflowExp) then .value 0 (Exc.unf ||| Exc.when ineEn Exc.ine)
    else .value (encodeFp fmt x.neg r.sig top) (Exc.when r.inexact Exc.ine)

/-- Step 4 of R746 for a quadword integer result (45_fp_ieee.md R800; 46_fp_vax.md R849). -/
def integerResult (mode : Rounding) (x : Exact) : FpResult :=
  let r := roundAt mode x x.exp
  let z : Int := bif x.neg then -(r.sig : Int) else r.sig
  .value (BitVec.ofInt 64 z) (bif outside 64 z then Exc.iov ||| Exc.ine else Exc.when r.inexact Exc.ine)

/-! ## Qualifiers and completion -/

/-- The qualifiers of an instruction (R740): w<13> (/U, or /V with an integer result), w<14> (/I), w<15> (/S), and the
rounding of w<12:11>; `none` is /D. -/
structure Qual where
  u : Bool
  i : Bool
  sw : Bool
  rnd : Option Rounding
deriving DecidableEq, Repr

/-- The mode of FPCR<DYN_RM> (R741). -/
def State.dynamicRounding (s : State) : Rounding :=
  match s.dynRm with
  | 0 => .chop
  | 1 => .minusInf
  | 2 => .nearest
  | _ => .plusInf

/-- The rounding mode of an instruction. -/
def Qual.mode (q : Qual) (s : State) : Rounding := q.rnd.getD s.dynamicRounding

/-- ine_en (R742). -/
def State.ineEnabled (s : State) (q : Qual) : Bool := q.i && !s.fpcrBit 62

/-- unf_en (R742). -/
def State.unfEnabled (s : State) (q : Qual) : Bool := q.u && !(s.fpcrBit 61 && s.fpcrBit 60 && q.sw)

/-- The exceptions whose trap is enabled (R742). -/
def State.enabledTraps (s : State) (q : Qual) : Exc :=
  Exc.inv ||| Exc.dze ||| Exc.ovf ||| Exc.when (s.unfEnabled q) Exc.unf ||| Exc.when (s.ineEnabled q) Exc.ine |||
    Exc.when q.u Exc.iov

/-- The exceptions of a result. -/
def FpResult.exc : FpResult → Exc
  | .value _ e => e
  | .free e => e

/-- Steps 5 to 7 of R746: the status bits, the destination, and the trap. -/
def State.finishFp (s : State) (q : Qual) (fc : Reg) (r : FpResult) : State :=
  let t := s.setFpcrStatus r.exc
  let u := match r with
    | .value v _ => t.writeFreg fc v
    | .free _ => (t.writeFreg fc t.drawValue).drawn
  let trapped := r.exc &&& s.enabledTraps q
  bif trapped == 0 then u else u.fpTrap q.sw trapped fc

/-- The frame of R746: FEN, then the result computed from the state, then completion. -/
def fpInstruction (q : Qual) (fc : Reg) (result : State → FpResult) (s : State) : Result State :=
  whenFp (fun s => (s.finishFp q fc (result s)).done) s

/-- Input exceptions first (R746 step 3): INV on a nonfinite operand, then the operation. -/
def withOperands (a b : FpOperand) (k : FpResult) : FpResult :=
  match a, b with
  | .nonfinite, _ => .free Exc.inv
  | _, .nonfinite => .free Exc.inv
  | _, _ => k

/-- One source operand. -/
def withOperand (b : FpOperand) (k : FpResult) : FpResult :=
  match b with
  | .nonfinite => .free Exc.inv
  | _ => k

/-- The result of a compare (R748). -/
def compareResult (b : Bool) : FpResult := .value (bif b then 0x4000000000000000 else 0) 0

/-- The arithmetic operations of two operands. -/
inductive FpOp where
  | add | sub | mul | div
deriving DecidableEq, Repr

/-- Zero, of either sign. -/
def FpOperand.isZero : FpOperand → Bool
  | .zero _ => true
  | .finite _ _ _ => false
  | .nonfinite => false

/-- Add, subtract, multiply and divide of operands that are not nonfinite (45_fp_ieee.md R782 to R789; 46_fp_vax.md R833 to
R840). An IEEE 0/0 is INV; every other division by zero is DZE (R746 step 3). -/
def arithmetic (op : FpOp) (fmt : FpFormat) (mode : Rounding) (ineEn : Bool) (a b : FpOperand) : FpResult :=
  match op with
  | .add => roundResult fmt mode ineEn (exactAdd mode a b)
  | .sub => roundResult fmt mode ineEn (exactAdd mode a b.negate)
  | .mul => roundResult fmt mode ineEn (exactMul a b)
  | .div =>
    bif b.isZero then .free (bif a.isZero && !fmt.vax then Exc.inv else Exc.dze)
    else roundResult fmt mode ineEn (exactDiv a b)

end Sys2Proof.Machine
end

