-- ==== Sys2Proof/Machine/FpCommon.lean ====
section
/-!
DEFINITION. The floating-point instructions of opcode 17 (44_fp_common.md section 4).
-/

namespace Sys2Proof.Machine

/-- An instruction that writes F[Fc] and takes no arithmetic exception (R738). -/
def fpMove (fc : Reg) (v : State → Quad) (s : State) : Result State :=
  whenFp (fun s => (s.writeFreg fc (v s)).done) s

/-- The longword integer of a register (R736). -/
def longOfRegister (f : Quad) : Long := (slice f 62 2 : BitVec 2) ++ (slice f 29 30 : BitVec 30)

/-- The register form of the low longword (R736). -/
def registerOfLong (v : Quad) : Quad :=
  (slice v 30 2 : BitVec 2) ++ (0 : BitVec 3) ++ (slice v 0 30 : BitVec 30) ++ (0 : BitVec 29)

/-- CVTLQ (R750). -/
def execCvtlq (fb fc : Reg) (s : State) : Result State :=
  fpMove fc (fun s => (longOfRegister (s.readFreg fb)).signExtend 64) s

/-- CPYS (R751). -/
def execCpys (fa fb fc : Reg) (s : State) : Result State :=
  fpMove fc (fun s => (slice (s.readFreg fa) 63 1 : BitVec 1) ++ (slice (s.readFreg fb) 0 63 : BitVec 63)) s

/-- CPYSN (R752). -/
def execCpysn (fa fb fc : Reg) (s : State) : Result State :=
  fpMove fc (fun s => ~~~(slice (s.readFreg fa) 63 1 : BitVec 1) ++ (slice (s.readFreg fb) 0 63 : BitVec 63)) s

/-- CPYSE (R753). -/
def execCpyse (fa fb fc : Reg) (s : State) : Result State :=
  fpMove fc (fun s => (slice (s.readFreg fa) 52 12 : BitVec 12) ++ (slice (s.readFreg fb) 0 52 : BitVec 52)) s

/-! ## FPCR (R762, R763) -/

/-- The value MF_FPCR reads: SUM, <62:52>, then <51:49>, each a draw where 1 was written (10_state.md R64), and zeros. -/
def State.fpcrValue (s : State) : Quad :=
  let sum := BitVec.ofBool (s.fpcr.extractLsb' 3 6 != 0)
  let unsupported : BitVec 3 := s.fpcr.extractLsb' 0 3 &&& slice s.drawValue 0 3
  sum ++ (s.fpcr.extractLsb' 3 11 : BitVec 11) ++ unsupported ++ (0 : BitVec 49)

/-- MT_FPCR (R763): F[Fa] is the source, also when the three fields differ. -/
def execMtFpcr (fa _fb _fc : Reg) (s : State) : Result State :=
  whenFp (fun s => { s with fpcr := slice (s.readFreg fa) 49 14 }.done) s

/-- MF_FPCR (R762): F[Fa] is the destination, also when the three fields differ. -/
def execMfFpcr (fa _fb _fc : Reg) (s : State) : Result State :=
  whenFp (fun s => (s.drawn.writeFreg fa s.fpcrValue).done) s

/-! ## Conditional moves (R754) -/

/-- FCMOVxx (R754): F[Fc] keeps its value when the condition on F[Fa] is false. -/
def fpMoveIf (cond : Quad → Bool) (fa fb fc : Reg) (s : State) : Result State :=
  whenFp (fun s => (bif cond (s.readFreg fa) then s.writeFreg fc (s.readFreg fb) else s).done) s

/-- FCMOVEQ (R755). -/
def execFcmoveq (fa fb fc : Reg) (s : State) : Result State := fpMoveIf fpZero fa fb fc s

/-- FCMOVNE (R756). -/
def execFcmovne (fa fb fc : Reg) (s : State) : Result State := fpMoveIf (fun a => !fpZero a) fa fb fc s

/-- FCMOVLT (R757). -/
def execFcmovlt (fa fb fc : Reg) (s : State) : Result State :=
  fpMoveIf (fun a => isNegative a && !fpZero a) fa fb fc s

/-- FCMOVGE (R758). -/
def execFcmovge (fa fb fc : Reg) (s : State) : Result State :=
  fpMoveIf (fun a => !isNegative a || fpZero a) fa fb fc s

/-- FCMOVLE (R759). -/
def execFcmovle (fa fb fc : Reg) (s : State) : Result State :=
  fpMoveIf (fun a => isNegative a || fpZero a) fa fb fc s

/-- FCMOVGT (R760). -/
def execFcmovgt (fa fb fc : Reg) (s : State) : Result State :=
  fpMoveIf (fun a => !isNegative a && !fpZero a) fa fb fc s

/-! ## CVTQL (R764 to R766) -/

/-- CVTQL: an overflow is IOV and INE; the inexact trap is never enabled. -/
def quadToLong (q : Qual) (fb fc : Reg) (s : State) : Result State :=
  fpInstruction q fc (fun s =>
    .value (registerOfLong (s.readFreg fb)) (Exc.when (outside 32 (s.readFreg fb).toInt) (Exc.iov ||| Exc.ine))) s

/-- CVTQL (R764). -/
def execCvtql (fb fc : Reg) (s : State) : Result State := quadToLong ⟨false, false, false, some .chop⟩ fb fc s

/-- CVTQL/V (R765). -/
def execCvtqlV (fb fc : Reg) (s : State) : Result State := quadToLong ⟨true, false, false, some .chop⟩ fb fc s

/-- CVTQL/SV (R766). -/
def execCvtqlSv (fb fc : Reg) (s : State) : Result State := quadToLong ⟨true, false, true, some .chop⟩ fb fc s

end Sys2Proof.Machine
end

