-- ==== Sys2Proof/Machine/FpIeee.lean ====
section
/-!
DEFINITION. The IEEE floating-point instructions (45_fp_ieee.md), every qualifier form of opcode 16. A qualifier is
⟨w<13>, w<14>, w<15>, rounding⟩ of the function code (44_fp_common.md R740).
-/

namespace Sys2Proof.Machine

/-- ADDx, SUBx, MULx, DIVx (R782 to R789): both sources read as T_floating (44_fp_common.md R739). -/
def ieee (op : FpOp) (fmt : FpFormat) (q : Qual) (fa fb fc : Reg) (s : State) : Result State :=
  fpInstruction q fc (fun s =>
    let a := readT (s.readFreg fa)
    let b := readT (s.readFreg fb)
    withOperands a b (arithmetic op fmt (q.mode s) (s.ineEnabled q) a b)) s

/-- CMPTxx (R790): a relation between the sign of a - b and zero. -/
def ieeeCompare (rel : Int → Bool) (q : Qual) (fa fb fc : Reg) (s : State) : Result State :=
  fpInstruction q fc (fun s =>
    let a := readT (s.readFreg fa)
    let b := readT (s.readFreg fb)
    withOperands a b (compareResult (rel (compareFp a b)))) s

/-- CVTQS and CVTQT (R796, R797). -/
def ieeeFromInteger (fmt : FpFormat) (q : Qual) (fb fc : Reg) (s : State) : Result State :=
  fpInstruction q fc (fun s => roundResult fmt (q.mode s) (s.ineEnabled q) (exactOfInt (s.readFreg fb))) s

/-- CVTTS (R798). -/
def ieeeConvert (fmt : FpFormat) (q : Qual) (fb fc : Reg) (s : State) : Result State :=
  fpInstruction q fc (fun s =>
    let b := readT (s.readFreg fb)
    withOperand b (roundResult fmt (q.mode s) (s.ineEnabled q) (exactOf b))) s

/-- CVTST (R799): the register pattern is already the T_floating one. -/
def ieeeWiden (q : Qual) (fb fc : Reg) (s : State) : Result State :=
  fpInstruction q fc (fun s => withOperand (readT (s.readFreg fb)) (.value (s.readFreg fb) 0)) s

/-- CVTTQ (R800). -/
def ieeeToInteger (q : Qual) (fb fc : Reg) (s : State) : Result State :=
  fpInstruction q fc (fun s =>
    let b := readT (s.readFreg fb)
    withOperand b (integerResult (q.mode s) (exactOf b))) s

/-! ## ADDS -/

/-- ADDS (R782). -/
def execAdds (fa fb fc : Reg) (s : State) : Result State := ieee .add .s ⟨false, false, false, some .nearest⟩ fa fb fc s

/-- ADDS/C (R782). -/
def execAddsC (fa fb fc : Reg) (s : State) : Result State := ieee .add .s ⟨false, false, false, some .chop⟩ fa fb fc s

/-- ADDS/M (R782). -/
def execAddsM (fa fb fc : Reg) (s : State) : Result State :=
  ieee .add .s ⟨false, false, false, some .minusInf⟩ fa fb fc s

/-- ADDS/D (R782). -/
def execAddsD (fa fb fc : Reg) (s : State) : Result State := ieee .add .s ⟨false, false, false, none⟩ fa fb fc s

/-- ADDS/U (R782). -/
def execAddsU (fa fb fc : Reg) (s : State) : Result State := ieee .add .s ⟨true, false, false, some .nearest⟩ fa fb fc s

/-- ADDS/UC (R782). -/
def execAddsUc (fa fb fc : Reg) (s : State) : Result State := ieee .add .s ⟨true, false, false, some .chop⟩ fa fb fc s

/-- ADDS/UM (R782). -/
def execAddsUm (fa fb fc : Reg) (s : State) : Result State :=
  ieee .add .s ⟨true, false, false, some .minusInf⟩ fa fb fc s

/-- ADDS/UD (R782). -/
def execAddsUd (fa fb fc : Reg) (s : State) : Result State := ieee .add .s ⟨true, false, false, none⟩ fa fb fc s

/-- ADDS/SU (R782). -/
def execAddsSu (fa fb fc : Reg) (s : State) : Result State := ieee .add .s ⟨true, false, true, some .nearest⟩ fa fb fc s

/-- ADDS/SUC (R782). -/
def execAddsSuc (fa fb fc : Reg) (s : State) : Result State := ieee .add .s ⟨true, false, true, some .chop⟩ fa fb fc s

/-- ADDS/SUM (R782). -/
def execAddsSum (fa fb fc : Reg) (s : State) : Result State :=
  ieee .add .s ⟨true, false, true, some .minusInf⟩ fa fb fc s

/-- ADDS/SUD (R782). -/
def execAddsSud (fa fb fc : Reg) (s : State) : Result State := ieee .add .s ⟨true, false, true, none⟩ fa fb fc s

/-- ADDS/SUI (R782). -/
def execAddsSui (fa fb fc : Reg) (s : State) : Result State := ieee .add .s ⟨true, true, true, some .nearest⟩ fa fb fc s

/-- ADDS/SUIC (R782). -/
def execAddsSuic (fa fb fc : Reg) (s : State) : Result State := ieee .add .s ⟨true, true, true, some .chop⟩ fa fb fc s

/-- ADDS/SUIM (R782). -/
def execAddsSuim (fa fb fc : Reg) (s : State) : Result State :=
  ieee .add .s ⟨true, true, true, some .minusInf⟩ fa fb fc s

/-- ADDS/SUID (R782). -/
def execAddsSuid (fa fb fc : Reg) (s : State) : Result State := ieee .add .s ⟨true, true, true, none⟩ fa fb fc s

/-! ## ADDT -/

/-- ADDT (R783). -/
def execAddt (fa fb fc : Reg) (s : State) : Result State := ieee .add .t ⟨false, false, false, some .nearest⟩ fa fb fc s

/-- ADDT/C (R783). -/
def execAddtC (fa fb fc : Reg) (s : State) : Result State := ieee .add .t ⟨false, false, false, some .chop⟩ fa fb fc s

/-- ADDT/M (R783). -/
def execAddtM (fa fb fc : Reg) (s : State) : Result State :=
  ieee .add .t ⟨false, false, false, some .minusInf⟩ fa fb fc s

/-- ADDT/D (R783). -/
def execAddtD (fa fb fc : Reg) (s : State) : Result State := ieee .add .t ⟨false, false, false, none⟩ fa fb fc s

/-- ADDT/U (R783). -/
def execAddtU (fa fb fc : Reg) (s : State) : Result State := ieee .add .t ⟨true, false, false, some .nearest⟩ fa fb fc s

/-- ADDT/UC (R783). -/
def execAddtUc (fa fb fc : Reg) (s : State) : Result State := ieee .add .t ⟨true, false, false, some .chop⟩ fa fb fc s

/-- ADDT/UM (R783). -/
def execAddtUm (fa fb fc : Reg) (s : State) : Result State :=
  ieee .add .t ⟨true, false, false, some .minusInf⟩ fa fb fc s

/-- ADDT/UD (R783). -/
def execAddtUd (fa fb fc : Reg) (s : State) : Result State := ieee .add .t ⟨true, false, false, none⟩ fa fb fc s

/-- ADDT/SU (R783). -/
def execAddtSu (fa fb fc : Reg) (s : State) : Result State := ieee .add .t ⟨true, false, true, some .nearest⟩ fa fb fc s

/-- ADDT/SUC (R783). -/
def execAddtSuc (fa fb fc : Reg) (s : State) : Result State := ieee .add .t ⟨true, false, true, some .chop⟩ fa fb fc s

/-- ADDT/SUM (R783). -/
def execAddtSum (fa fb fc : Reg) (s : State) : Result State :=
  ieee .add .t ⟨true, false, true, some .minusInf⟩ fa fb fc s

/-- ADDT/SUD (R783). -/
def execAddtSud (fa fb fc : Reg) (s : State) : Result State := ieee .add .t ⟨true, false, true, none⟩ fa fb fc s

/-- ADDT/SUI (R783). -/
def execAddtSui (fa fb fc : Reg) (s : State) : Result State := ieee .add .t ⟨true, true, true, some .nearest⟩ fa fb fc s

/-- ADDT/SUIC (R783). -/
def execAddtSuic (fa fb fc : Reg) (s : State) : Result State := ieee .add .t ⟨true, true, true, some .chop⟩ fa fb fc s

/-- ADDT/SUIM (R783). -/
def execAddtSuim (fa fb fc : Reg) (s : State) : Result State :=
  ieee .add .t ⟨true, true, true, some .minusInf⟩ fa fb fc s

/-- ADDT/SUID (R783). -/
def execAddtSuid (fa fb fc : Reg) (s : State) : Result State := ieee .add .t ⟨true, true, true, none⟩ fa fb fc s

/-! ## SUBS -/

/-- SUBS (R784). -/
def execSubs (fa fb fc : Reg) (s : State) : Result State := ieee .sub .s ⟨false, false, false, some .nearest⟩ fa fb fc s

/-- SUBS/C (R784). -/
def execSubsC (fa fb fc : Reg) (s : State) : Result State := ieee .sub .s ⟨false, false, false, some .chop⟩ fa fb fc s

/-- SUBS/M (R784). -/
def execSubsM (fa fb fc : Reg) (s : State) : Result State :=
  ieee .sub .s ⟨false, false, false, some .minusInf⟩ fa fb fc s

/-- SUBS/D (R784). -/
def execSubsD (fa fb fc : Reg) (s : State) : Result State := ieee .sub .s ⟨false, false, false, none⟩ fa fb fc s

/-- SUBS/U (R784). -/
def execSubsU (fa fb fc : Reg) (s : State) : Result State := ieee .sub .s ⟨true, false, false, some .nearest⟩ fa fb fc s

/-- SUBS/UC (R784). -/
def execSubsUc (fa fb fc : Reg) (s : State) : Result State := ieee .sub .s ⟨true, false, false, some .chop⟩ fa fb fc s

/-- SUBS/UM (R784). -/
def execSubsUm (fa fb fc : Reg) (s : State) : Result State :=
  ieee .sub .s ⟨true, false, false, some .minusInf⟩ fa fb fc s

/-- SUBS/UD (R784). -/
def execSubsUd (fa fb fc : Reg) (s : State) : Result State := ieee .sub .s ⟨true, false, false, none⟩ fa fb fc s

/-- SUBS/SU (R784). -/
def execSubsSu (fa fb fc : Reg) (s : State) : Result State := ieee .sub .s ⟨true, false, true, some .nearest⟩ fa fb fc s

/-- SUBS/SUC (R784). -/
def execSubsSuc (fa fb fc : Reg) (s : State) : Result State := ieee .sub .s ⟨true, false, true, some .chop⟩ fa fb fc s

/-- SUBS/SUM (R784). -/
def execSubsSum (fa fb fc : Reg) (s : State) : Result State :=
  ieee .sub .s ⟨true, false, true, some .minusInf⟩ fa fb fc s

/-- SUBS/SUD (R784). -/
def execSubsSud (fa fb fc : Reg) (s : State) : Result State := ieee .sub .s ⟨true, false, true, none⟩ fa fb fc s

/-- SUBS/SUI (R784). -/
def execSubsSui (fa fb fc : Reg) (s : State) : Result State := ieee .sub .s ⟨true, true, true, some .nearest⟩ fa fb fc s

/-- SUBS/SUIC (R784). -/
def execSubsSuic (fa fb fc : Reg) (s : State) : Result State := ieee .sub .s ⟨true, true, true, some .chop⟩ fa fb fc s

/-- SUBS/SUIM (R784). -/
def execSubsSuim (fa fb fc : Reg) (s : State) : Result State :=
  ieee .sub .s ⟨true, true, true, some .minusInf⟩ fa fb fc s

/-- SUBS/SUID (R784). -/
def execSubsSuid (fa fb fc : Reg) (s : State) : Result State := ieee .sub .s ⟨true, true, true, none⟩ fa fb fc s

/-! ## SUBT -/

/-- SUBT (R785). -/
def execSubt (fa fb fc : Reg) (s : State) : Result State := ieee .sub .t ⟨false, false, false, some .nearest⟩ fa fb fc s

/-- SUBT/C (R785). -/
def execSubtC (fa fb fc : Reg) (s : State) : Result State := ieee .sub .t ⟨false, false, false, some .chop⟩ fa fb fc s

/-- SUBT/M (R785). -/
def execSubtM (fa fb fc : Reg) (s : State) : Result State :=
  ieee .sub .t ⟨false, false, false, some .minusInf⟩ fa fb fc s

/-- SUBT/D (R785). -/
def execSubtD (fa fb fc : Reg) (s : State) : Result State := ieee .sub .t ⟨false, false, false, none⟩ fa fb fc s

/-- SUBT/U (R785). -/
def execSubtU (fa fb fc : Reg) (s : State) : Result State := ieee .sub .t ⟨true, false, false, some .nearest⟩ fa fb fc s

/-- SUBT/UC (R785). -/
def execSubtUc (fa fb fc : Reg) (s : State) : Result State := ieee .sub .t ⟨true, false, false, some .chop⟩ fa fb fc s

/-- SUBT/UM (R785). -/
def execSubtUm (fa fb fc : Reg) (s : State) : Result State :=
  ieee .sub .t ⟨true, false, false, some .minusInf⟩ fa fb fc s

/-- SUBT/UD (R785). -/
def execSubtUd (fa fb fc : Reg) (s : State) : Result State := ieee .sub .t ⟨true, false, false, none⟩ fa fb fc s

/-- SUBT/SU (R785). -/
def execSubtSu (fa fb fc : Reg) (s : State) : Result State := ieee .sub .t ⟨true, false, true, some .nearest⟩ fa fb fc s

/-- SUBT/SUC (R785). -/
def execSubtSuc (fa fb fc : Reg) (s : State) : Result State := ieee .sub .t ⟨true, false, true, some .chop⟩ fa fb fc s

/-- SUBT/SUM (R785). -/
def execSubtSum (fa fb fc : Reg) (s : State) : Result State :=
  ieee .sub .t ⟨true, false, true, some .minusInf⟩ fa fb fc s

/-- SUBT/SUD (R785). -/
def execSubtSud (fa fb fc : Reg) (s : State) : Result State := ieee .sub .t ⟨true, false, true, none⟩ fa fb fc s

/-- SUBT/SUI (R785). -/
def execSubtSui (fa fb fc : Reg) (s : State) : Result State := ieee .sub .t ⟨true, true, true, some .nearest⟩ fa fb fc s

/-- SUBT/SUIC (R785). -/
def execSubtSuic (fa fb fc : Reg) (s : State) : Result State := ieee .sub .t ⟨true, true, true, some .chop⟩ fa fb fc s

/-- SUBT/SUIM (R785). -/
def execSubtSuim (fa fb fc : Reg) (s : State) : Result State :=
  ieee .sub .t ⟨true, true, true, some .minusInf⟩ fa fb fc s

/-- SUBT/SUID (R785). -/
def execSubtSuid (fa fb fc : Reg) (s : State) : Result State := ieee .sub .t ⟨true, true, true, none⟩ fa fb fc s

/-! ## MULS -/

/-- MULS (R786). -/
def execMuls (fa fb fc : Reg) (s : State) : Result State := ieee .mul .s ⟨false, false, false, some .nearest⟩ fa fb fc s

/-- MULS/C (R786). -/
def execMulsC (fa fb fc : Reg) (s : State) : Result State := ieee .mul .s ⟨false, false, false, some .chop⟩ fa fb fc s

/-- MULS/M (R786). -/
def execMulsM (fa fb fc : Reg) (s : State) : Result State :=
  ieee .mul .s ⟨false, false, false, some .minusInf⟩ fa fb fc s

/-- MULS/D (R786). -/
def execMulsD (fa fb fc : Reg) (s : State) : Result State := ieee .mul .s ⟨false, false, false, none⟩ fa fb fc s

/-- MULS/U (R786). -/
def execMulsU (fa fb fc : Reg) (s : State) : Result State := ieee .mul .s ⟨true, false, false, some .nearest⟩ fa fb fc s

/-- MULS/UC (R786). -/
def execMulsUc (fa fb fc : Reg) (s : State) : Result State := ieee .mul .s ⟨true, false, false, some .chop⟩ fa fb fc s

/-- MULS/UM (R786). -/
def execMulsUm (fa fb fc : Reg) (s : State) : Result State :=
  ieee .mul .s ⟨true, false, false, some .minusInf⟩ fa fb fc s

/-- MULS/UD (R786). -/
def execMulsUd (fa fb fc : Reg) (s : State) : Result State := ieee .mul .s ⟨true, false, false, none⟩ fa fb fc s

/-- MULS/SU (R786). -/
def execMulsSu (fa fb fc : Reg) (s : State) : Result State := ieee .mul .s ⟨true, false, true, some .nearest⟩ fa fb fc s

/-- MULS/SUC (R786). -/
def execMulsSuc (fa fb fc : Reg) (s : State) : Result State := ieee .mul .s ⟨true, false, true, some .chop⟩ fa fb fc s

/-- MULS/SUM (R786). -/
def execMulsSum (fa fb fc : Reg) (s : State) : Result State :=
  ieee .mul .s ⟨true, false, true, some .minusInf⟩ fa fb fc s

/-- MULS/SUD (R786). -/
def execMulsSud (fa fb fc : Reg) (s : State) : Result State := ieee .mul .s ⟨true, false, true, none⟩ fa fb fc s

/-- MULS/SUI (R786). -/
def execMulsSui (fa fb fc : Reg) (s : State) : Result State := ieee .mul .s ⟨true, true, true, some .nearest⟩ fa fb fc s

/-- MULS/SUIC (R786). -/
def execMulsSuic (fa fb fc : Reg) (s : State) : Result State := ieee .mul .s ⟨true, true, true, some .chop⟩ fa fb fc s

/-- MULS/SUIM (R786). -/
def execMulsSuim (fa fb fc : Reg) (s : State) : Result State :=
  ieee .mul .s ⟨true, true, true, some .minusInf⟩ fa fb fc s

/-- MULS/SUID (R786). -/
def execMulsSuid (fa fb fc : Reg) (s : State) : Result State := ieee .mul .s ⟨true, true, true, none⟩ fa fb fc s

/-! ## MULT -/

/-- MULT (R787). -/
def execMult (fa fb fc : Reg) (s : State) : Result State := ieee .mul .t ⟨false, false, false, some .nearest⟩ fa fb fc s

/-- MULT/C (R787). -/
def execMultC (fa fb fc : Reg) (s : State) : Result State := ieee .mul .t ⟨false, false, false, some .chop⟩ fa fb fc s

/-- MULT/M (R787). -/
def execMultM (fa fb fc : Reg) (s : State) : Result State :=
  ieee .mul .t ⟨false, false, false, some .minusInf⟩ fa fb fc s

/-- MULT/D (R787). -/
def execMultD (fa fb fc : Reg) (s : State) : Result State := ieee .mul .t ⟨false, false, false, none⟩ fa fb fc s

/-- MULT/U (R787). -/
def execMultU (fa fb fc : Reg) (s : State) : Result State := ieee .mul .t ⟨true, false, false, some .nearest⟩ fa fb fc s

/-- MULT/UC (R787). -/
def execMultUc (fa fb fc : Reg) (s : State) : Result State := ieee .mul .t ⟨true, false, false, some .chop⟩ fa fb fc s

/-- MULT/UM (R787). -/
def execMultUm (fa fb fc : Reg) (s : State) : Result State :=
  ieee .mul .t ⟨true, false, false, some .minusInf⟩ fa fb fc s

/-- MULT/UD (R787). -/
def execMultUd (fa fb fc : Reg) (s : State) : Result State := ieee .mul .t ⟨true, false, false, none⟩ fa fb fc s

/-- MULT/SU (R787). -/
def execMultSu (fa fb fc : Reg) (s : State) : Result State := ieee .mul .t ⟨true, false, true, some .nearest⟩ fa fb fc s

/-- MULT/SUC (R787). -/
def execMultSuc (fa fb fc : Reg) (s : State) : Result State := ieee .mul .t ⟨true, false, true, some .chop⟩ fa fb fc s

/-- MULT/SUM (R787). -/
def execMultSum (fa fb fc : Reg) (s : State) : Result State :=
  ieee .mul .t ⟨true, false, true, some .minusInf⟩ fa fb fc s

/-- MULT/SUD (R787). -/
def execMultSud (fa fb fc : Reg) (s : State) : Result State := ieee .mul .t ⟨true, false, true, none⟩ fa fb fc s

/-- MULT/SUI (R787). -/
def execMultSui (fa fb fc : Reg) (s : State) : Result State := ieee .mul .t ⟨true, true, true, some .nearest⟩ fa fb fc s

/-- MULT/SUIC (R787). -/
def execMultSuic (fa fb fc : Reg) (s : State) : Result State := ieee .mul .t ⟨true, true, true, some .chop⟩ fa fb fc s

/-- MULT/SUIM (R787). -/
def execMultSuim (fa fb fc : Reg) (s : State) : Result State :=
  ieee .mul .t ⟨true, true, true, some .minusInf⟩ fa fb fc s

/-- MULT/SUID (R787). -/
def execMultSuid (fa fb fc : Reg) (s : State) : Result State := ieee .mul .t ⟨true, true, true, none⟩ fa fb fc s

/-! ## DIVS -/

/-- DIVS (R788). -/
def execDivs (fa fb fc : Reg) (s : State) : Result State := ieee .div .s ⟨false, false, false, some .nearest⟩ fa fb fc s

/-- DIVS/C (R788). -/
def execDivsC (fa fb fc : Reg) (s : State) : Result State := ieee .div .s ⟨false, false, false, some .chop⟩ fa fb fc s

/-- DIVS/M (R788). -/
def execDivsM (fa fb fc : Reg) (s : State) : Result State :=
  ieee .div .s ⟨false, false, false, some .minusInf⟩ fa fb fc s

/-- DIVS/D (R788). -/
def execDivsD (fa fb fc : Reg) (s : State) : Result State := ieee .div .s ⟨false, false, false, none⟩ fa fb fc s

/-- DIVS/U (R788). -/
def execDivsU (fa fb fc : Reg) (s : State) : Result State := ieee .div .s ⟨true, false, false, some .nearest⟩ fa fb fc s

/-- DIVS/UC (R788). -/
def execDivsUc (fa fb fc : Reg) (s : State) : Result State := ieee .div .s ⟨true, false, false, some .chop⟩ fa fb fc s

/-- DIVS/UM (R788). -/
def execDivsUm (fa fb fc : Reg) (s : State) : Result State :=
  ieee .div .s ⟨true, false, false, some .minusInf⟩ fa fb fc s

/-- DIVS/UD (R788). -/
def execDivsUd (fa fb fc : Reg) (s : State) : Result State := ieee .div .s ⟨true, false, false, none⟩ fa fb fc s

/-- DIVS/SU (R788). -/
def execDivsSu (fa fb fc : Reg) (s : State) : Result State := ieee .div .s ⟨true, false, true, some .nearest⟩ fa fb fc s

/-- DIVS/SUC (R788). -/
def execDivsSuc (fa fb fc : Reg) (s : State) : Result State := ieee .div .s ⟨true, false, true, some .chop⟩ fa fb fc s

/-- DIVS/SUM (R788). -/
def execDivsSum (fa fb fc : Reg) (s : State) : Result State :=
  ieee .div .s ⟨true, false, true, some .minusInf⟩ fa fb fc s

/-- DIVS/SUD (R788). -/
def execDivsSud (fa fb fc : Reg) (s : State) : Result State := ieee .div .s ⟨true, false, true, none⟩ fa fb fc s

/-- DIVS/SUI (R788). -/
def execDivsSui (fa fb fc : Reg) (s : State) : Result State := ieee .div .s ⟨true, true, true, some .nearest⟩ fa fb fc s

/-- DIVS/SUIC (R788). -/
def execDivsSuic (fa fb fc : Reg) (s : State) : Result State := ieee .div .s ⟨true, true, true, some .chop⟩ fa fb fc s

/-- DIVS/SUIM (R788). -/
def execDivsSuim (fa fb fc : Reg) (s : State) : Result State :=
  ieee .div .s ⟨true, true, true, some .minusInf⟩ fa fb fc s

/-- DIVS/SUID (R788). -/
def execDivsSuid (fa fb fc : Reg) (s : State) : Result State := ieee .div .s ⟨true, true, true, none⟩ fa fb fc s

/-! ## DIVT -/

/-- DIVT (R789). -/
def execDivt (fa fb fc : Reg) (s : State) : Result State := ieee .div .t ⟨false, false, false, some .nearest⟩ fa fb fc s

/-- DIVT/C (R789). -/
def execDivtC (fa fb fc : Reg) (s : State) : Result State := ieee .div .t ⟨false, false, false, some .chop⟩ fa fb fc s

/-- DIVT/M (R789). -/
def execDivtM (fa fb fc : Reg) (s : State) : Result State :=
  ieee .div .t ⟨false, false, false, some .minusInf⟩ fa fb fc s

/-- DIVT/D (R789). -/
def execDivtD (fa fb fc : Reg) (s : State) : Result State := ieee .div .t ⟨false, false, false, none⟩ fa fb fc s

/-- DIVT/U (R789). -/
def execDivtU (fa fb fc : Reg) (s : State) : Result State := ieee .div .t ⟨true, false, false, some .nearest⟩ fa fb fc s

/-- DIVT/UC (R789). -/
def execDivtUc (fa fb fc : Reg) (s : State) : Result State := ieee .div .t ⟨true, false, false, some .chop⟩ fa fb fc s

/-- DIVT/UM (R789). -/
def execDivtUm (fa fb fc : Reg) (s : State) : Result State :=
  ieee .div .t ⟨true, false, false, some .minusInf⟩ fa fb fc s

/-- DIVT/UD (R789). -/
def execDivtUd (fa fb fc : Reg) (s : State) : Result State := ieee .div .t ⟨true, false, false, none⟩ fa fb fc s

/-- DIVT/SU (R789). -/
def execDivtSu (fa fb fc : Reg) (s : State) : Result State := ieee .div .t ⟨true, false, true, some .nearest⟩ fa fb fc s

/-- DIVT/SUC (R789). -/
def execDivtSuc (fa fb fc : Reg) (s : State) : Result State := ieee .div .t ⟨true, false, true, some .chop⟩ fa fb fc s

/-- DIVT/SUM (R789). -/
def execDivtSum (fa fb fc : Reg) (s : State) : Result State :=
  ieee .div .t ⟨true, false, true, some .minusInf⟩ fa fb fc s

/-- DIVT/SUD (R789). -/
def execDivtSud (fa fb fc : Reg) (s : State) : Result State := ieee .div .t ⟨true, false, true, none⟩ fa fb fc s

/-- DIVT/SUI (R789). -/
def execDivtSui (fa fb fc : Reg) (s : State) : Result State := ieee .div .t ⟨true, true, true, some .nearest⟩ fa fb fc s

/-- DIVT/SUIC (R789). -/
def execDivtSuic (fa fb fc : Reg) (s : State) : Result State := ieee .div .t ⟨true, true, true, some .chop⟩ fa fb fc s

/-- DIVT/SUIM (R789). -/
def execDivtSuim (fa fb fc : Reg) (s : State) : Result State :=
  ieee .div .t ⟨true, true, true, some .minusInf⟩ fa fb fc s

/-- DIVT/SUID (R789). -/
def execDivtSuid (fa fb fc : Reg) (s : State) : Result State := ieee .div .t ⟨true, true, true, none⟩ fa fb fc s

/-! ## CVTTS -/

/-- CVTTS (R798). -/
def execCvtts (fb fc : Reg) (s : State) : Result State := ieeeConvert .s ⟨false, false, false, some .nearest⟩ fb fc s

/-- CVTTS/C (R798). -/
def execCvttsC (fb fc : Reg) (s : State) : Result State := ieeeConvert .s ⟨false, false, false, some .chop⟩ fb fc s

/-- CVTTS/M (R798). -/
def execCvttsM (fb fc : Reg) (s : State) : Result State := ieeeConvert .s ⟨false, false, false, some .minusInf⟩ fb fc s

/-- CVTTS/D (R798). -/
def execCvttsD (fb fc : Reg) (s : State) : Result State := ieeeConvert .s ⟨false, false, false, none⟩ fb fc s

/-- CVTTS/U (R798). -/
def execCvttsU (fb fc : Reg) (s : State) : Result State := ieeeConvert .s ⟨true, false, false, some .nearest⟩ fb fc s

/-- CVTTS/UC (R798). -/
def execCvttsUc (fb fc : Reg) (s : State) : Result State := ieeeConvert .s ⟨true, false, false, some .chop⟩ fb fc s

/-- CVTTS/UM (R798). -/
def execCvttsUm (fb fc : Reg) (s : State) : Result State := ieeeConvert .s ⟨true, false, false, some .minusInf⟩ fb fc s

/-- CVTTS/UD (R798). -/
def execCvttsUd (fb fc : Reg) (s : State) : Result State := ieeeConvert .s ⟨true, false, false, none⟩ fb fc s

/-- CVTTS/SU (R798). -/
def execCvttsSu (fb fc : Reg) (s : State) : Result State := ieeeConvert .s ⟨true, false, true, some .nearest⟩ fb fc s

/-- CVTTS/SUC (R798). -/
def execCvttsSuc (fb fc : Reg) (s : State) : Result State := ieeeConvert .s ⟨true, false, true, some .chop⟩ fb fc s

/-- CVTTS/SUM (R798). -/
def execCvttsSum (fb fc : Reg) (s : State) : Result State := ieeeConvert .s ⟨true, false, true, some .minusInf⟩ fb fc s

/-- CVTTS/SUD (R798). -/
def execCvttsSud (fb fc : Reg) (s : State) : Result State := ieeeConvert .s ⟨true, false, true, none⟩ fb fc s

/-- CVTTS/SUI (R798). -/
def execCvttsSui (fb fc : Reg) (s : State) : Result State := ieeeConvert .s ⟨true, true, true, some .nearest⟩ fb fc s

/-- CVTTS/SUIC (R798). -/
def execCvttsSuic (fb fc : Reg) (s : State) : Result State := ieeeConvert .s ⟨true, true, true, some .chop⟩ fb fc s

/-- CVTTS/SUIM (R798). -/
def execCvttsSuim (fb fc : Reg) (s : State) : Result State := ieeeConvert .s ⟨true, true, true, some .minusInf⟩ fb fc s

/-- CVTTS/SUID (R798). -/
def execCvttsSuid (fb fc : Reg) (s : State) : Result State := ieeeConvert .s ⟨true, true, true, none⟩ fb fc s

/-! ## CVTQS -/

/-- CVTQS (R796). -/
def execCvtqs (fb fc : Reg) (s : State) : Result State :=
  ieeeFromInteger .s ⟨false, false, false, some .nearest⟩ fb fc s

/-- CVTQS/C (R796). -/
def execCvtqsC (fb fc : Reg) (s : State) : Result State := ieeeFromInteger .s ⟨false, false, false, some .chop⟩ fb fc s

/-- CVTQS/M (R796). -/
def execCvtqsM (fb fc : Reg) (s : State) : Result State :=
  ieeeFromInteger .s ⟨false, false, false, some .minusInf⟩ fb fc s

/-- CVTQS/D (R796). -/
def execCvtqsD (fb fc : Reg) (s : State) : Result State := ieeeFromInteger .s ⟨false, false, false, none⟩ fb fc s

/-- CVTQS/SUI (R796). -/
def execCvtqsSui (fb fc : Reg) (s : State) : Result State :=
  ieeeFromInteger .s ⟨true, true, true, some .nearest⟩ fb fc s

/-- CVTQS/SUIC (R796). -/
def execCvtqsSuic (fb fc : Reg) (s : State) : Result State := ieeeFromInteger .s ⟨true, true, true, some .chop⟩ fb fc s

/-- CVTQS/SUIM (R796). -/
def execCvtqsSuim (fb fc : Reg) (s : State) : Result State :=
  ieeeFromInteger .s ⟨true, true, true, some .minusInf⟩ fb fc s

/-- CVTQS/SUID (R796). -/
def execCvtqsSuid (fb fc : Reg) (s : State) : Result State := ieeeFromInteger .s ⟨true, true, true, none⟩ fb fc s

/-! ## CVTQT -/

/-- CVTQT (R797). -/
def execCvtqt (fb fc : Reg) (s : State) : Result State :=
  ieeeFromInteger .t ⟨false, false, false, some .nearest⟩ fb fc s

/-- CVTQT/C (R797). -/
def execCvtqtC (fb fc : Reg) (s : State) : Result State := ieeeFromInteger .t ⟨false, false, false, some .chop⟩ fb fc s

/-- CVTQT/M (R797). -/
def execCvtqtM (fb fc : Reg) (s : State) : Result State :=
  ieeeFromInteger .t ⟨false, false, false, some .minusInf⟩ fb fc s

/-- CVTQT/D (R797). -/
def execCvtqtD (fb fc : Reg) (s : State) : Result State := ieeeFromInteger .t ⟨false, false, false, none⟩ fb fc s

/-- CVTQT/SUI (R797). -/
def execCvtqtSui (fb fc : Reg) (s : State) : Result State :=
  ieeeFromInteger .t ⟨true, true, true, some .nearest⟩ fb fc s

/-- CVTQT/SUIC (R797). -/
def execCvtqtSuic (fb fc : Reg) (s : State) : Result State := ieeeFromInteger .t ⟨true, true, true, some .chop⟩ fb fc s

/-- CVTQT/SUIM (R797). -/
def execCvtqtSuim (fb fc : Reg) (s : State) : Result State :=
  ieeeFromInteger .t ⟨true, true, true, some .minusInf⟩ fb fc s

/-- CVTQT/SUID (R797). -/
def execCvtqtSuid (fb fc : Reg) (s : State) : Result State := ieeeFromInteger .t ⟨true, true, true, none⟩ fb fc s

/-! ## CMPTUN -/

/-- CMPTUN (R791). -/
def execCmptun (fa fb fc : Reg) (s : State) : Result State :=
  ieeeCompare (fun _ => false) ⟨false, false, false, some .nearest⟩ fa fb fc s

/-- CMPTUN/SU (R791). -/
def execCmptunSu (fa fb fc : Reg) (s : State) : Result State :=
  ieeeCompare (fun _ => false) ⟨true, false, true, some .nearest⟩ fa fb fc s

/-! ## CMPTEQ -/

/-- CMPTEQ (R792). -/
def execCmpteq (fa fb fc : Reg) (s : State) : Result State :=
  ieeeCompare (fun d => d == 0) ⟨false, false, false, some .nearest⟩ fa fb fc s

/-- CMPTEQ/SU (R792). -/
def execCmpteqSu (fa fb fc : Reg) (s : State) : Result State :=
  ieeeCompare (fun d => d == 0) ⟨true, false, true, some .nearest⟩ fa fb fc s

/-! ## CMPTLT -/

/-- CMPTLT (R793). -/
def execCmptlt (fa fb fc : Reg) (s : State) : Result State :=
  ieeeCompare (fun d => decide (d < 0)) ⟨false, false, false, some .nearest⟩ fa fb fc s

/-- CMPTLT/SU (R793). -/
def execCmptltSu (fa fb fc : Reg) (s : State) : Result State :=
  ieeeCompare (fun d => decide (d < 0)) ⟨true, false, true, some .nearest⟩ fa fb fc s

/-! ## CMPTLE -/

/-- CMPTLE (R794). -/
def execCmptle (fa fb fc : Reg) (s : State) : Result State :=
  ieeeCompare (fun d => decide (d ≤ 0)) ⟨false, false, false, some .nearest⟩ fa fb fc s

/-- CMPTLE/SU (R794). -/
def execCmptleSu (fa fb fc : Reg) (s : State) : Result State :=
  ieeeCompare (fun d => decide (d ≤ 0)) ⟨true, false, true, some .nearest⟩ fa fb fc s

/-! ## CVTST -/

/-- CVTST (R799). -/
def execCvtst (fb fc : Reg) (s : State) : Result State := ieeeWiden ⟨false, true, false, some .nearest⟩ fb fc s

/-- CVTST/S (R799). -/
def execCvtstS (fb fc : Reg) (s : State) : Result State := ieeeWiden ⟨false, true, true, some .nearest⟩ fb fc s

/-! ## CVTTQ -/

/-- CVTTQ (R800). -/
def execCvttq (fb fc : Reg) (s : State) : Result State := ieeeToInteger ⟨false, false, false, some .nearest⟩ fb fc s

/-- CVTTQ/C (R800). -/
def execCvttqC (fb fc : Reg) (s : State) : Result State := ieeeToInteger ⟨false, false, false, some .chop⟩ fb fc s

/-- CVTTQ/M (R800). -/
def execCvttqM (fb fc : Reg) (s : State) : Result State := ieeeToInteger ⟨false, false, false, some .minusInf⟩ fb fc s

/-- CVTTQ/D (R800). -/
def execCvttqD (fb fc : Reg) (s : State) : Result State := ieeeToInteger ⟨false, false, false, none⟩ fb fc s

/-- CVTTQ/V (R800). -/
def execCvttqV (fb fc : Reg) (s : State) : Result State := ieeeToInteger ⟨true, false, false, some .nearest⟩ fb fc s

/-- CVTTQ/VC (R800). -/
def execCvttqVc (fb fc : Reg) (s : State) : Result State := ieeeToInteger ⟨true, false, false, some .chop⟩ fb fc s

/-- CVTTQ/VM (R800). -/
def execCvttqVm (fb fc : Reg) (s : State) : Result State := ieeeToInteger ⟨true, false, false, some .minusInf⟩ fb fc s

/-- CVTTQ/VD (R800). -/
def execCvttqVd (fb fc : Reg) (s : State) : Result State := ieeeToInteger ⟨true, false, false, none⟩ fb fc s

/-- CVTTQ/SV (R800). -/
def execCvttqSv (fb fc : Reg) (s : State) : Result State := ieeeToInteger ⟨true, false, true, some .nearest⟩ fb fc s

/-- CVTTQ/SVC (R800). -/
def execCvttqSvc (fb fc : Reg) (s : State) : Result State := ieeeToInteger ⟨true, false, true, some .chop⟩ fb fc s

/-- CVTTQ/SVM (R800). -/
def execCvttqSvm (fb fc : Reg) (s : State) : Result State := ieeeToInteger ⟨true, false, true, some .minusInf⟩ fb fc s

/-- CVTTQ/SVD (R800). -/
def execCvttqSvd (fb fc : Reg) (s : State) : Result State := ieeeToInteger ⟨true, false, true, none⟩ fb fc s

/-- CVTTQ/SVI (R800). -/
def execCvttqSvi (fb fc : Reg) (s : State) : Result State := ieeeToInteger ⟨true, true, true, some .nearest⟩ fb fc s

/-- CVTTQ/SVIC (R800). -/
def execCvttqSvic (fb fc : Reg) (s : State) : Result State := ieeeToInteger ⟨true, true, true, some .chop⟩ fb fc s

/-- CVTTQ/SVIM (R800). -/
def execCvttqSvim (fb fc : Reg) (s : State) : Result State := ieeeToInteger ⟨true, true, true, some .minusInf⟩ fb fc s

/-- CVTTQ/SVID (R800). -/
def execCvttqSvid (fb fc : Reg) (s : State) : Result State := ieeeToInteger ⟨true, true, true, none⟩ fb fc s

end Sys2Proof.Machine
end

