-- ==== Sys2Proof/Machine/FpVax.lean ====
section
/-!
DEFINITION. The VAX floating-point instructions (46_fp_vax.md), every qualifier form of opcode 15. A qualifier is
⟨w<13>, w<14>, w<15>, rounding⟩ of the function code (44_fp_common.md R740).
-/

namespace Sys2Proof.Machine

/-- ADDx, SUBx, MULx, DIVx (R833 to R840): both sources read as G_floating (44_fp_common.md R739). -/
def vax (op : FpOp) (fmt : FpFormat) (q : Qual) (fa fb fc : Reg) (s : State) : Result State :=
  fpInstruction q fc (fun s =>
    let a := readG (s.readFreg fa)
    let b := readG (s.readFreg fb)
    withOperands a b (arithmetic op fmt (q.mode s) (s.ineEnabled q) a b)) s

/-- CMPGxx (R841). -/
def vaxCompare (rel : Int → Bool) (q : Qual) (fa fb fc : Reg) (s : State) : Result State :=
  fpInstruction q fc (fun s =>
    let a := readG (s.readFreg fa)
    let b := readG (s.readFreg fb)
    withOperands a b (compareResult (rel (compareFp a b)))) s

/-- CVTQF and CVTQG (R850, R851). -/
def vaxFromInteger (fmt : FpFormat) (q : Qual) (fb fc : Reg) (s : State) : Result State :=
  fpInstruction q fc (fun s => roundResult fmt (q.mode s) (s.ineEnabled q) (exactOfInt (s.readFreg fb))) s

/-- CVTGF, CVTGD and, with a D_floating source, CVTDG (R846 to R848). -/
def vaxConvert (read : Quad → FpOperand) (fmt : FpFormat) (q : Qual) (fb fc : Reg) (s : State) : Result State :=
  fpInstruction q fc (fun s =>
    let b := read (s.readFreg fb)
    withOperand b (roundResult fmt (q.mode s) (s.ineEnabled q) (exactOf b))) s

/-- CVTGQ (R849). -/
def vaxToInteger (q : Qual) (fb fc : Reg) (s : State) : Result State :=
  fpInstruction q fc (fun s =>
    let b := readG (s.readFreg fb)
    withOperand b (integerResult (q.mode s) (exactOf b))) s

/-! ## ADDF -/

/-- ADDF (R833). -/
def execAddf (fa fb fc : Reg) (s : State) : Result State := vax .add .f ⟨false, false, false, some .away⟩ fa fb fc s

/-- ADDF/C (R833). -/
def execAddfC (fa fb fc : Reg) (s : State) : Result State := vax .add .f ⟨false, false, false, some .chop⟩ fa fb fc s

/-- ADDF/U (R833). -/
def execAddfU (fa fb fc : Reg) (s : State) : Result State := vax .add .f ⟨true, false, false, some .away⟩ fa fb fc s

/-- ADDF/UC (R833). -/
def execAddfUc (fa fb fc : Reg) (s : State) : Result State := vax .add .f ⟨true, false, false, some .chop⟩ fa fb fc s

/-- ADDF/S (R833). -/
def execAddfS (fa fb fc : Reg) (s : State) : Result State := vax .add .f ⟨false, false, true, some .away⟩ fa fb fc s

/-- ADDF/SC (R833). -/
def execAddfSc (fa fb fc : Reg) (s : State) : Result State := vax .add .f ⟨false, false, true, some .chop⟩ fa fb fc s

/-- ADDF/SU (R833). -/
def execAddfSu (fa fb fc : Reg) (s : State) : Result State := vax .add .f ⟨true, false, true, some .away⟩ fa fb fc s

/-- ADDF/SUC (R833). -/
def execAddfSuc (fa fb fc : Reg) (s : State) : Result State := vax .add .f ⟨true, false, true, some .chop⟩ fa fb fc s

/-! ## ADDG -/

/-- ADDG (R834). -/
def execAddg (fa fb fc : Reg) (s : State) : Result State := vax .add .g ⟨false, false, false, some .away⟩ fa fb fc s

/-- ADDG/C (R834). -/
def execAddgC (fa fb fc : Reg) (s : State) : Result State := vax .add .g ⟨false, false, false, some .chop⟩ fa fb fc s

/-- ADDG/U (R834). -/
def execAddgU (fa fb fc : Reg) (s : State) : Result State := vax .add .g ⟨true, false, false, some .away⟩ fa fb fc s

/-- ADDG/UC (R834). -/
def execAddgUc (fa fb fc : Reg) (s : State) : Result State := vax .add .g ⟨true, false, false, some .chop⟩ fa fb fc s

/-- ADDG/S (R834). -/
def execAddgS (fa fb fc : Reg) (s : State) : Result State := vax .add .g ⟨false, false, true, some .away⟩ fa fb fc s

/-- ADDG/SC (R834). -/
def execAddgSc (fa fb fc : Reg) (s : State) : Result State := vax .add .g ⟨false, false, true, some .chop⟩ fa fb fc s

/-- ADDG/SU (R834). -/
def execAddgSu (fa fb fc : Reg) (s : State) : Result State := vax .add .g ⟨true, false, true, some .away⟩ fa fb fc s

/-- ADDG/SUC (R834). -/
def execAddgSuc (fa fb fc : Reg) (s : State) : Result State := vax .add .g ⟨true, false, true, some .chop⟩ fa fb fc s

/-! ## SUBF -/

/-- SUBF (R835). -/
def execSubf (fa fb fc : Reg) (s : State) : Result State := vax .sub .f ⟨false, false, false, some .away⟩ fa fb fc s

/-- SUBF/C (R835). -/
def execSubfC (fa fb fc : Reg) (s : State) : Result State := vax .sub .f ⟨false, false, false, some .chop⟩ fa fb fc s

/-- SUBF/U (R835). -/
def execSubfU (fa fb fc : Reg) (s : State) : Result State := vax .sub .f ⟨true, false, false, some .away⟩ fa fb fc s

/-- SUBF/UC (R835). -/
def execSubfUc (fa fb fc : Reg) (s : State) : Result State := vax .sub .f ⟨true, false, false, some .chop⟩ fa fb fc s

/-- SUBF/S (R835). -/
def execSubfS (fa fb fc : Reg) (s : State) : Result State := vax .sub .f ⟨false, false, true, some .away⟩ fa fb fc s

/-- SUBF/SC (R835). -/
def execSubfSc (fa fb fc : Reg) (s : State) : Result State := vax .sub .f ⟨false, false, true, some .chop⟩ fa fb fc s

/-- SUBF/SU (R835). -/
def execSubfSu (fa fb fc : Reg) (s : State) : Result State := vax .sub .f ⟨true, false, true, some .away⟩ fa fb fc s

/-- SUBF/SUC (R835). -/
def execSubfSuc (fa fb fc : Reg) (s : State) : Result State := vax .sub .f ⟨true, false, true, some .chop⟩ fa fb fc s

/-! ## SUBG -/

/-- SUBG (R836). -/
def execSubg (fa fb fc : Reg) (s : State) : Result State := vax .sub .g ⟨false, false, false, some .away⟩ fa fb fc s

/-- SUBG/C (R836). -/
def execSubgC (fa fb fc : Reg) (s : State) : Result State := vax .sub .g ⟨false, false, false, some .chop⟩ fa fb fc s

/-- SUBG/U (R836). -/
def execSubgU (fa fb fc : Reg) (s : State) : Result State := vax .sub .g ⟨true, false, false, some .away⟩ fa fb fc s

/-- SUBG/UC (R836). -/
def execSubgUc (fa fb fc : Reg) (s : State) : Result State := vax .sub .g ⟨true, false, false, some .chop⟩ fa fb fc s

/-- SUBG/S (R836). -/
def execSubgS (fa fb fc : Reg) (s : State) : Result State := vax .sub .g ⟨false, false, true, some .away⟩ fa fb fc s

/-- SUBG/SC (R836). -/
def execSubgSc (fa fb fc : Reg) (s : State) : Result State := vax .sub .g ⟨false, false, true, some .chop⟩ fa fb fc s

/-- SUBG/SU (R836). -/
def execSubgSu (fa fb fc : Reg) (s : State) : Result State := vax .sub .g ⟨true, false, true, some .away⟩ fa fb fc s

/-- SUBG/SUC (R836). -/
def execSubgSuc (fa fb fc : Reg) (s : State) : Result State := vax .sub .g ⟨true, false, true, some .chop⟩ fa fb fc s

/-! ## MULF -/

/-- MULF (R837). -/
def execMulf (fa fb fc : Reg) (s : State) : Result State := vax .mul .f ⟨false, false, false, some .away⟩ fa fb fc s

/-- MULF/C (R837). -/
def execMulfC (fa fb fc : Reg) (s : State) : Result State := vax .mul .f ⟨false, false, false, some .chop⟩ fa fb fc s

/-- MULF/U (R837). -/
def execMulfU (fa fb fc : Reg) (s : State) : Result State := vax .mul .f ⟨true, false, false, some .away⟩ fa fb fc s

/-- MULF/UC (R837). -/
def execMulfUc (fa fb fc : Reg) (s : State) : Result State := vax .mul .f ⟨true, false, false, some .chop⟩ fa fb fc s

/-- MULF/S (R837). -/
def execMulfS (fa fb fc : Reg) (s : State) : Result State := vax .mul .f ⟨false, false, true, some .away⟩ fa fb fc s

/-- MULF/SC (R837). -/
def execMulfSc (fa fb fc : Reg) (s : State) : Result State := vax .mul .f ⟨false, false, true, some .chop⟩ fa fb fc s

/-- MULF/SU (R837). -/
def execMulfSu (fa fb fc : Reg) (s : State) : Result State := vax .mul .f ⟨true, false, true, some .away⟩ fa fb fc s

/-- MULF/SUC (R837). -/
def execMulfSuc (fa fb fc : Reg) (s : State) : Result State := vax .mul .f ⟨true, false, true, some .chop⟩ fa fb fc s

/-! ## MULG -/

/-- MULG (R838). -/
def execMulg (fa fb fc : Reg) (s : State) : Result State := vax .mul .g ⟨false, false, false, some .away⟩ fa fb fc s

/-- MULG/C (R838). -/
def execMulgC (fa fb fc : Reg) (s : State) : Result State := vax .mul .g ⟨false, false, false, some .chop⟩ fa fb fc s

/-- MULG/U (R838). -/
def execMulgU (fa fb fc : Reg) (s : State) : Result State := vax .mul .g ⟨true, false, false, some .away⟩ fa fb fc s

/-- MULG/UC (R838). -/
def execMulgUc (fa fb fc : Reg) (s : State) : Result State := vax .mul .g ⟨true, false, false, some .chop⟩ fa fb fc s

/-- MULG/S (R838). -/
def execMulgS (fa fb fc : Reg) (s : State) : Result State := vax .mul .g ⟨false, false, true, some .away⟩ fa fb fc s

/-- MULG/SC (R838). -/
def execMulgSc (fa fb fc : Reg) (s : State) : Result State := vax .mul .g ⟨false, false, true, some .chop⟩ fa fb fc s

/-- MULG/SU (R838). -/
def execMulgSu (fa fb fc : Reg) (s : State) : Result State := vax .mul .g ⟨true, false, true, some .away⟩ fa fb fc s

/-- MULG/SUC (R838). -/
def execMulgSuc (fa fb fc : Reg) (s : State) : Result State := vax .mul .g ⟨true, false, true, some .chop⟩ fa fb fc s

/-! ## DIVF -/

/-- DIVF (R839). -/
def execDivf (fa fb fc : Reg) (s : State) : Result State := vax .div .f ⟨false, false, false, some .away⟩ fa fb fc s

/-- DIVF/C (R839). -/
def execDivfC (fa fb fc : Reg) (s : State) : Result State := vax .div .f ⟨false, false, false, some .chop⟩ fa fb fc s

/-- DIVF/U (R839). -/
def execDivfU (fa fb fc : Reg) (s : State) : Result State := vax .div .f ⟨true, false, false, some .away⟩ fa fb fc s

/-- DIVF/UC (R839). -/
def execDivfUc (fa fb fc : Reg) (s : State) : Result State := vax .div .f ⟨true, false, false, some .chop⟩ fa fb fc s

/-- DIVF/S (R839). -/
def execDivfS (fa fb fc : Reg) (s : State) : Result State := vax .div .f ⟨false, false, true, some .away⟩ fa fb fc s

/-- DIVF/SC (R839). -/
def execDivfSc (fa fb fc : Reg) (s : State) : Result State := vax .div .f ⟨false, false, true, some .chop⟩ fa fb fc s

/-- DIVF/SU (R839). -/
def execDivfSu (fa fb fc : Reg) (s : State) : Result State := vax .div .f ⟨true, false, true, some .away⟩ fa fb fc s

/-- DIVF/SUC (R839). -/
def execDivfSuc (fa fb fc : Reg) (s : State) : Result State := vax .div .f ⟨true, false, true, some .chop⟩ fa fb fc s

/-! ## DIVG -/

/-- DIVG (R840). -/
def execDivg (fa fb fc : Reg) (s : State) : Result State := vax .div .g ⟨false, false, false, some .away⟩ fa fb fc s

/-- DIVG/C (R840). -/
def execDivgC (fa fb fc : Reg) (s : State) : Result State := vax .div .g ⟨false, false, false, some .chop⟩ fa fb fc s

/-- DIVG/U (R840). -/
def execDivgU (fa fb fc : Reg) (s : State) : Result State := vax .div .g ⟨true, false, false, some .away⟩ fa fb fc s

/-- DIVG/UC (R840). -/
def execDivgUc (fa fb fc : Reg) (s : State) : Result State := vax .div .g ⟨true, false, false, some .chop⟩ fa fb fc s

/-- DIVG/S (R840). -/
def execDivgS (fa fb fc : Reg) (s : State) : Result State := vax .div .g ⟨false, false, true, some .away⟩ fa fb fc s

/-- DIVG/SC (R840). -/
def execDivgSc (fa fb fc : Reg) (s : State) : Result State := vax .div .g ⟨false, false, true, some .chop⟩ fa fb fc s

/-- DIVG/SU (R840). -/
def execDivgSu (fa fb fc : Reg) (s : State) : Result State := vax .div .g ⟨true, false, true, some .away⟩ fa fb fc s

/-- DIVG/SUC (R840). -/
def execDivgSuc (fa fb fc : Reg) (s : State) : Result State := vax .div .g ⟨true, false, true, some .chop⟩ fa fb fc s

/-! ## CVTDG -/

/-- CVTDG (R846). -/
def execCvtdg (fb fc : Reg) (s : State) : Result State := vaxConvert readD .g ⟨false, false, false, some .away⟩ fb fc s

/-- CVTDG/C (R846). -/
def execCvtdgC (fb fc : Reg) (s : State) : Result State := vaxConvert readD .g ⟨false, false, false, some .chop⟩ fb fc s

/-- CVTDG/U (R846). -/
def execCvtdgU (fb fc : Reg) (s : State) : Result State := vaxConvert readD .g ⟨true, false, false, some .away⟩ fb fc s

/-- CVTDG/UC (R846). -/
def execCvtdgUc (fb fc : Reg) (s : State) : Result State := vaxConvert readD .g ⟨true, false, false, some .chop⟩ fb fc s

/-- CVTDG/S (R846). -/
def execCvtdgS (fb fc : Reg) (s : State) : Result State := vaxConvert readD .g ⟨false, false, true, some .away⟩ fb fc s

/-- CVTDG/SC (R846). -/
def execCvtdgSc (fb fc : Reg) (s : State) : Result State := vaxConvert readD .g ⟨false, false, true, some .chop⟩ fb fc s

/-- CVTDG/SU (R846). -/
def execCvtdgSu (fb fc : Reg) (s : State) : Result State := vaxConvert readD .g ⟨true, false, true, some .away⟩ fb fc s

/-- CVTDG/SUC (R846). -/
def execCvtdgSuc (fb fc : Reg) (s : State) : Result State := vaxConvert readD .g ⟨true, false, true, some .chop⟩ fb fc s

/-! ## CVTGF -/

/-- CVTGF (R847). -/
def execCvtgf (fb fc : Reg) (s : State) : Result State := vaxConvert readG .f ⟨false, false, false, some .away⟩ fb fc s

/-- CVTGF/C (R847). -/
def execCvtgfC (fb fc : Reg) (s : State) : Result State := vaxConvert readG .f ⟨false, false, false, some .chop⟩ fb fc s

/-- CVTGF/U (R847). -/
def execCvtgfU (fb fc : Reg) (s : State) : Result State := vaxConvert readG .f ⟨true, false, false, some .away⟩ fb fc s

/-- CVTGF/UC (R847). -/
def execCvtgfUc (fb fc : Reg) (s : State) : Result State := vaxConvert readG .f ⟨true, false, false, some .chop⟩ fb fc s

/-- CVTGF/S (R847). -/
def execCvtgfS (fb fc : Reg) (s : State) : Result State := vaxConvert readG .f ⟨false, false, true, some .away⟩ fb fc s

/-- CVTGF/SC (R847). -/
def execCvtgfSc (fb fc : Reg) (s : State) : Result State := vaxConvert readG .f ⟨false, false, true, some .chop⟩ fb fc s

/-- CVTGF/SU (R847). -/
def execCvtgfSu (fb fc : Reg) (s : State) : Result State := vaxConvert readG .f ⟨true, false, true, some .away⟩ fb fc s

/-- CVTGF/SUC (R847). -/
def execCvtgfSuc (fb fc : Reg) (s : State) : Result State := vaxConvert readG .f ⟨true, false, true, some .chop⟩ fb fc s

/-! ## CVTGD -/

/-- CVTGD (R848). -/
def execCvtgd (fb fc : Reg) (s : State) : Result State := vaxConvert readG .d ⟨false, false, false, some .away⟩ fb fc s

/-- CVTGD/C (R848). -/
def execCvtgdC (fb fc : Reg) (s : State) : Result State := vaxConvert readG .d ⟨false, false, false, some .chop⟩ fb fc s

/-- CVTGD/U (R848). -/
def execCvtgdU (fb fc : Reg) (s : State) : Result State := vaxConvert readG .d ⟨true, false, false, some .away⟩ fb fc s

/-- CVTGD/UC (R848). -/
def execCvtgdUc (fb fc : Reg) (s : State) : Result State := vaxConvert readG .d ⟨true, false, false, some .chop⟩ fb fc s

/-- CVTGD/S (R848). -/
def execCvtgdS (fb fc : Reg) (s : State) : Result State := vaxConvert readG .d ⟨false, false, true, some .away⟩ fb fc s

/-- CVTGD/SC (R848). -/
def execCvtgdSc (fb fc : Reg) (s : State) : Result State := vaxConvert readG .d ⟨false, false, true, some .chop⟩ fb fc s

/-- CVTGD/SU (R848). -/
def execCvtgdSu (fb fc : Reg) (s : State) : Result State := vaxConvert readG .d ⟨true, false, true, some .away⟩ fb fc s

/-- CVTGD/SUC (R848). -/
def execCvtgdSuc (fb fc : Reg) (s : State) : Result State := vaxConvert readG .d ⟨true, false, true, some .chop⟩ fb fc s

/-! ## CVTGQ -/

/-- CVTGQ (R849). -/
def execCvtgq (fb fc : Reg) (s : State) : Result State := vaxToInteger ⟨false, false, false, some .away⟩ fb fc s

/-- CVTGQ/C (R849). -/
def execCvtgqC (fb fc : Reg) (s : State) : Result State := vaxToInteger ⟨false, false, false, some .chop⟩ fb fc s

/-- CVTGQ/V (R849). -/
def execCvtgqV (fb fc : Reg) (s : State) : Result State := vaxToInteger ⟨true, false, false, some .away⟩ fb fc s

/-- CVTGQ/VC (R849). -/
def execCvtgqVc (fb fc : Reg) (s : State) : Result State := vaxToInteger ⟨true, false, false, some .chop⟩ fb fc s

/-- CVTGQ/S (R849). -/
def execCvtgqS (fb fc : Reg) (s : State) : Result State := vaxToInteger ⟨false, false, true, some .away⟩ fb fc s

/-- CVTGQ/SC (R849). -/
def execCvtgqSc (fb fc : Reg) (s : State) : Result State := vaxToInteger ⟨false, false, true, some .chop⟩ fb fc s

/-- CVTGQ/SV (R849). -/
def execCvtgqSv (fb fc : Reg) (s : State) : Result State := vaxToInteger ⟨true, false, true, some .away⟩ fb fc s

/-- CVTGQ/SVC (R849). -/
def execCvtgqSvc (fb fc : Reg) (s : State) : Result State := vaxToInteger ⟨true, false, true, some .chop⟩ fb fc s

/-! ## CVTQF -/

/-- CVTQF (R850). -/
def execCvtqf (fb fc : Reg) (s : State) : Result State := vaxFromInteger .f ⟨false, false, false, some .away⟩ fb fc s

/-- CVTQF/C (R850). -/
def execCvtqfC (fb fc : Reg) (s : State) : Result State := vaxFromInteger .f ⟨false, false, false, some .chop⟩ fb fc s

/-! ## CVTQG -/

/-- CVTQG (R851). -/
def execCvtqg (fb fc : Reg) (s : State) : Result State := vaxFromInteger .g ⟨false, false, false, some .away⟩ fb fc s

/-- CVTQG/C (R851). -/
def execCvtqgC (fb fc : Reg) (s : State) : Result State := vaxFromInteger .g ⟨false, false, false, some .chop⟩ fb fc s

/-! ## CMPGEQ -/

/-- CMPGEQ (R842). -/
def execCmpgeq (fa fb fc : Reg) (s : State) : Result State :=
  vaxCompare (fun d => d == 0) ⟨false, false, false, some .away⟩ fa fb fc s

/-- CMPGEQ/S (R842). -/
def execCmpgeqS (fa fb fc : Reg) (s : State) : Result State :=
  vaxCompare (fun d => d == 0) ⟨false, false, true, some .away⟩ fa fb fc s

/-! ## CMPGLT -/

/-- CMPGLT (R843). -/
def execCmpglt (fa fb fc : Reg) (s : State) : Result State :=
  vaxCompare (fun d => decide (d < 0)) ⟨false, false, false, some .away⟩ fa fb fc s

/-- CMPGLT/S (R843). -/
def execCmpgltS (fa fb fc : Reg) (s : State) : Result State :=
  vaxCompare (fun d => decide (d < 0)) ⟨false, false, true, some .away⟩ fa fb fc s

/-! ## CMPGLE -/

/-- CMPGLE (R844). -/
def execCmpgle (fa fb fc : Reg) (s : State) : Result State :=
  vaxCompare (fun d => decide (d ≤ 0)) ⟨false, false, false, some .away⟩ fa fb fc s

/-- CMPGLE/S (R844). -/
def execCmpgleS (fa fb fc : Reg) (s : State) : Result State :=
  vaxCompare (fun d => decide (d ≤ 0)) ⟨false, false, true, some .away⟩ fa fb fc s

end Sys2Proof.Machine
end

