-- ==== Sys2Proof/Machine/IntArith.lean ====
section
/-!
DEFINITION. Integer add, subtract, compare and multiply (42_integer_arith.md).
-/

namespace Sys2Proof.Machine

/-- An Operate instruction (R600): both sources are read, then R[Rc] is written. -/
def operate (f : Quad → Quad → Quad) (ra : Reg) (b : Operand) (rc : Reg) (s : State) : Result State :=
  (s.writeReg rc (f (s.readReg ra) (s.operand b))).done

/-- A /V instruction (R602): as without /V, and the trap when the condition on the sources holds. -/
def operateV (f : Quad → Quad → Quad) (overflows : Quad → Quad → Bool) (ra : Reg) (b : Operand) (rc : Reg) (s : State) :
    Result State :=
  let t := s.writeReg rc (f (s.readReg ra) (s.operand b))
  (bif overflows (s.readReg ra) (s.operand b) then t.integerTrap rc else t).done

/-- The low longword. -/
def low32 (v : Quad) : Long := v.setWidth 32

/-- A longword operation (R601): on the low longwords, the result sign-extended. -/
def longOp (f : Long → Long → Long) (a b : Quad) : Quad := (f (low32 a) (low32 b)).signExtend 64

/-- The exact result of a longword operation is outside 32 bits (R602). -/
def longOver (f : Int → Int → Int) (a b : Quad) : Bool := outside 32 (f (low32 a).toInt (low32 b).toInt)

/-- The exact result of a quadword operation is outside 64 bits (R602). -/
def quadOver (f : Int → Int → Int) (a b : Quad) : Bool := outside 64 (f a.toInt b.toInt)

/-- The high half of the unsigned product (R634). -/
def umulh (a b : Quad) : Quad := (a.setWidth 128 * b.setWidth 128).extractLsb' 64 64

/-! ## Add and subtract (R604 to R611) -/

/-- ADDL (R604). -/
def execAddl (ra : Reg) (b : Operand) (rc : Reg) (s : State) : Result State :=
  operate (longOp (· + ·)) ra b rc s

/-- ADDL/V (R605). -/
def execAddlV (ra : Reg) (b : Operand) (rc : Reg) (s : State) : Result State :=
  operateV (longOp (· + ·)) (longOver (· + ·)) ra b rc s

/-- ADDQ (R606). -/
def execAddq (ra : Reg) (b : Operand) (rc : Reg) (s : State) : Result State :=
  operate (· + ·) ra b rc s

/-- ADDQ/V (R607). -/
def execAddqV (ra : Reg) (b : Operand) (rc : Reg) (s : State) : Result State :=
  operateV (· + ·) (quadOver (· + ·)) ra b rc s

/-- SUBL (R608). -/
def execSubl (ra : Reg) (b : Operand) (rc : Reg) (s : State) : Result State :=
  operate (longOp (· - ·)) ra b rc s

/-- SUBL/V (R609). -/
def execSublV (ra : Reg) (b : Operand) (rc : Reg) (s : State) : Result State :=
  operateV (longOp (· - ·)) (longOver (· - ·)) ra b rc s

/-- SUBQ (R610). -/
def execSubq (ra : Reg) (b : Operand) (rc : Reg) (s : State) : Result State :=
  operate (· - ·) ra b rc s

/-- SUBQ/V (R611). -/
def execSubqV (ra : Reg) (b : Operand) (rc : Reg) (s : State) : Result State :=
  operateV (· - ·) (quadOver (· - ·)) ra b rc s

/-! ## Scaled add and subtract (R612 to R619) -/

/-- S4ADDL (R612). -/
def execS4addl (ra : Reg) (b : Operand) (rc : Reg) (s : State) : Result State :=
  operate (longOp (fun x y => (x <<< 2) + y)) ra b rc s

/-- S8ADDL (R613). -/
def execS8addl (ra : Reg) (b : Operand) (rc : Reg) (s : State) : Result State :=
  operate (longOp (fun x y => (x <<< 3) + y)) ra b rc s

/-- S4ADDQ (R614). -/
def execS4addq (ra : Reg) (b : Operand) (rc : Reg) (s : State) : Result State :=
  operate (fun x y => (x <<< 2) + y) ra b rc s

/-- S8ADDQ (R615). -/
def execS8addq (ra : Reg) (b : Operand) (rc : Reg) (s : State) : Result State :=
  operate (fun x y => (x <<< 3) + y) ra b rc s

/-- S4SUBL (R616). -/
def execS4subl (ra : Reg) (b : Operand) (rc : Reg) (s : State) : Result State :=
  operate (longOp (fun x y => (x <<< 2) - y)) ra b rc s

/-- S8SUBL (R617). -/
def execS8subl (ra : Reg) (b : Operand) (rc : Reg) (s : State) : Result State :=
  operate (longOp (fun x y => (x <<< 3) - y)) ra b rc s

/-- S4SUBQ (R618). -/
def execS4subq (ra : Reg) (b : Operand) (rc : Reg) (s : State) : Result State :=
  operate (fun x y => (x <<< 2) - y) ra b rc s

/-- S8SUBQ (R619). -/
def execS8subq (ra : Reg) (b : Operand) (rc : Reg) (s : State) : Result State :=
  operate (fun x y => (x <<< 3) - y) ra b rc s

/-! ## Compares (R620 to R624) -/

/-- CMPEQ (R620). -/
def execCmpeq (ra : Reg) (b : Operand) (rc : Reg) (s : State) : Result State :=
  operate (fun x y => quadOfBool (x == y)) ra b rc s

/-- CMPLT (R621). -/
def execCmplt (ra : Reg) (b : Operand) (rc : Reg) (s : State) : Result State :=
  operate (fun x y => quadOfBool (x.slt y)) ra b rc s

/-- CMPLE (R622). -/
def execCmple (ra : Reg) (b : Operand) (rc : Reg) (s : State) : Result State :=
  operate (fun x y => quadOfBool (x.sle y)) ra b rc s

/-- CMPULT (R623). -/
def execCmpult (ra : Reg) (b : Operand) (rc : Reg) (s : State) : Result State :=
  operate (fun x y => quadOfBool (x.ult y)) ra b rc s

/-- CMPULE (R624). -/
def execCmpule (ra : Reg) (b : Operand) (rc : Reg) (s : State) : Result State :=
  operate (fun x y => quadOfBool (x.ule y)) ra b rc s

/-! ## Multiply (R630 to R634) -/

/-- MULL (R630). -/
def execMull (ra : Reg) (b : Operand) (rc : Reg) (s : State) : Result State :=
  operate (longOp (· * ·)) ra b rc s

/-- MULL/V (R631). -/
def execMullV (ra : Reg) (b : Operand) (rc : Reg) (s : State) : Result State :=
  operateV (longOp (· * ·)) (longOver (· * ·)) ra b rc s

/-- MULQ (R632). -/
def execMulq (ra : Reg) (b : Operand) (rc : Reg) (s : State) : Result State :=
  operate (· * ·) ra b rc s

/-- MULQ/V (R633). -/
def execMulqV (ra : Reg) (b : Operand) (rc : Reg) (s : State) : Result State :=
  operateV (· * ·) (quadOver (· * ·)) ra b rc s

/-- UMULH (R634). -/
def execUmulh (ra : Reg) (b : Operand) (rc : Reg) (s : State) : Result State :=
  operate umulh ra b rc s

end Sys2Proof.Machine
end

