-- ==== Sys2Proof/Machine/Ecc.lean ====
section
/-!
DEFINITION. The check codes of fill data (21_external_interface.md R430, R431; 13_state_cbu_iprs.md R268): ECC over each
quadword, or even parity over each byte.
-/

namespace Sys2Proof.Machine

/-! ## ECC -/

/-- The data bits that check bit n covers (R430). -/
def eccMask : Nat → Quad
  | 0 => 0xB4D1B4D14B2E4B2E
  | 1 => 0x1557155715571557
  | 2 => 0xA699A699A699A699
  | 3 => 0x38E338E338E338E3
  | 4 => 0xC0FCC0FCC0FCC0FC
  | 5 => 0xFF00FF00FF00FF00
  | 6 => 0xFF0000FFFF0000FF
  | 7 => 0x00FFFF00FF0000FF
  | _ => 0

/-- A check bit: odd parity for CB2 and CB3, even for the others. -/
def eccBit (data : Quad) (n : Nat) : Bool := xor (eparity (data &&& eccMask n)) (n == 2 || n == 3)

/-- The check byte of a quadword, CB0 in bit 0. -/
def eccByte (data : Quad) : BitVec 8 :=
  BitVec.ofBool (eccBit data 7) ++ BitVec.ofBool (eccBit data 6) ++ BitVec.ofBool (eccBit data 5) ++
    BitVec.ofBool (eccBit data 4) ++ BitVec.ofBool (eccBit data 3) ++ BitVec.ofBool (eccBit data 2) ++
    BitVec.ofBool (eccBit data 1) ++ BitVec.ofBool (eccBit data 0)

/-- The syndrome of a received quadword and check byte: 0 for no error. -/
def syndrome (data : Quad) (check : BitVec 8) : BitVec 8 := check ^^^ eccByte data

/-- The syndromes of the single data bits 0 to 63 (R268, Table 5-35). -/
def dataSyndromes : List (BitVec 8) :=
  [0xCE, 0xCB, 0xD3, 0xD5, 0xD6, 0xD9, 0xDA, 0xDC, 0x23, 0x25, 0x26, 0x29, 0x2A, 0x2C, 0x31, 0x34] ++
    [0x0E, 0x0B, 0x13, 0x15, 0x16, 0x19, 0x1A, 0x1C, 0xE3, 0xE5, 0xE6, 0xE9, 0xEA, 0xEC, 0xF1, 0xF4] ++
    [0x4F, 0x4A, 0x52, 0x54, 0x57, 0x58, 0x5B, 0x5D, 0xA2, 0xA4, 0xA7, 0xA8, 0xAB, 0xAD, 0xB0, 0xB5] ++
    [0x8F, 0x8A, 0x92, 0x94, 0x97, 0x98, 0x9B, 0x9D, 0x62, 0x64, 0x67, 0x68, 0x6B, 0x6D, 0x70, 0x75]

/-- The syndromes of the single check bits 0 to 7. -/
def checkSyndromes : List (BitVec 8) := [0x01, 0x02, 0x04, 0x08, 0x10, 0x20, 0x40, 0x80]

/-- A syndrome of a single-bit error. -/
def singleBit (syn : BitVec 8) : Bool := dataSyndromes.elem syn || checkSyndromes.elem syn

/-! ## Byte parity -/

/-- Even parity of the sixteen bytes of an octaword, byte n in bit n. -/
def byteParity (data : BitVec 128) : BitVec 16 :=
  BitVec.ofNat 16 ((List.range 16).foldl (fun v k => v + (eparity (data.extractLsb' (8 * k) 8)).toNat * 2 ^ k) 0)

/-! ## An octaword of fill data -/

/-- What the check of an octaword finds, with FILL_SYN<15:0> (13_state_cbu_iprs.md R267). -/
inductive FillCheck where
  | good
  | correctable (syn : BitVec 16)
  | uncorrectable (syn : BitVec 16)
deriving DecidableEq, Repr

/-- The check bits that go with an octaword. -/
def checkBits (ecc : Bool) (data : BitVec 128) : BitVec 16 :=
  bif ecc then eccByte (data.extractLsb' 64 64) ++ eccByte (data.extractLsb' 0 64) else byteParity data

/-- The check of an octaword received with its check bits. -/
def checkFill (ecc : Bool) (data : BitVec 128) (check : BitVec 16) : FillCheck :=
  bif ecc then
    let low := syndrome (data.extractLsb' 0 64) (check.extractLsb' 0 8)
    let high := syndrome (data.extractLsb' 64 64) (check.extractLsb' 8 8)
    bif low == 0 && high == 0 then .good
    else bif (low == 0 || singleBit low) && (high == 0 || singleBit high) then .correctable (high ++ low)
    else .uncorrectable (high ++ low)
  else bif check == byteParity data then .good
  else .uncorrectable (check ^^^ byteParity data)

end Sys2Proof.Machine
end

