-- ==== Sys2Proof/Machine/Caches.lean ====
section
/-!
DEFINITION. The tag stores of the Scache, the Bcache and the Dcache, the states of their blocks, and the commands that
reading, owning and displacing a block send to the system (20_memory.md section 6; 21_external_interface.md sections 3 to
6). One transaction completes before the next begins, and the data themselves stay in `State.mem` (20_memory.md R331). An error
that the caches meet is posted, and the next steps take it up.
-/

namespace Sys2Proof.Machine

/-! ## Longwords of the levels below -/

/-- x is one of the n bytes from a. -/
def within (a n x : Nat) : Bool := Nat.ble a x && Nat.blt x (a + n)

def Longs.inside (a n : Nat) (l : Longs) : Longs := l.filter (fun p => within a n p.1)

def Longs.outside (a n : Nat) (l : Longs) : Longs := l.filter (fun p => !within a n p.1)

/-- Older longwords with newer ones for the addresses they do not have. -/
def Longs.add (new old : Longs) : Longs := new.filter (fun p => !old.any (fun q => q.1 == p.1)) ++ old

/-! ## Configuration -/

/-- What the CBU registers and the system's pins decide about the caches, and the data that they move: memory as this processor
reads it, with older longwords where stores wait. -/
structure CacheCfg where
  /-- bytes in a block: SC_CTL<SC_BLK_SIZE> (21_external_interface.md R391) -/
  blockSize : Nat
  /-- SC_CTL<SC_SET_EN> (13_state_cbu_iprs.md R243) -/
  sets : BitVec 3
  /-- BC_CONFIG<BC_SIZE> while the Bcache is enabled, 0 without one (R251, R256) -/
  bcSize : Nat
  /-- SC_CTL<SC_FHIT> and <SC_TAG_STAT> (R244) -/
  scForced : Bool
  scStat : BitVec 6
  /-- the Scache set that fills replace: the only one enabled, or without a Bcache the one that BC_SIZE names
  (70_reset_and_hazards.md R1101) -/
  fillSet : Option Nat
  /-- BC_CONTROL<BC_FHIT> and <BC_TAG_STAT> (13_state_cbu_iprs.md R255) -/
  bcForced : Bool
  bcStat : BitVec 5
  /-- SC_CTL<SC_FB_DP> (R245) and BC_CONTROL<BC_BAD_DAT> (R255) -/
  badParity : BitVec 4
  badData : BitVec 2
  /-- BC_CONTROL<EI_ECC_OR_PARITY> and <EI_DIS_ERR> (R253) -/
  ecc : Bool
  errorsOff : Bool
  /-- BC_CONTROL<EI_CMD_GRP2>, <VTM_FIRST>, <KEEP_CLN_SHR> (R251, R254) -/
  group2 : Bool
  victimFirst : Bool
  keepClean : Bool
  /-- tag_shared_h and tag_dirty_h in fills, shared_h for WRITE BLOCK (21_external_interface.md R382) -/
  tagShared : Bool
  tagDirty : Bool
  shared : Bool
  /-- DC_MODE<DC_ENA> (12_state_mtu_iprs.md R205) -/
  dcacheOn : Bool
  mem : Memory
  older : Longs
deriving DecidableEq, Repr

/-- The block size (R243). -/
def Cbu.blockSize (c : Cbu) : Nat := bif c.scCtl.getLsbD 12 then 64 else 32

/-- BC_CONFIG<BC_SIZE> (R256). -/
def Cbu.bcSize (c : Cbu) : Nat := (c.bcConfig.extractLsb' 0 3).toNat

/-- The Bcache takes part: BC_CONTROL<BC_ENABLED> with a size (R251, R256). -/
def Cbu.bcOn (c : Cbu) : Bool := c.bcControl.getLsbD 0 && c.bcSize != 0

/-- The Scache set that a fill replaces, if that is fixed. -/
def Cbu.fillSet (c : Cbu) : Option Nat :=
  match (c.scCtl.extractLsb' 13 3).toNat with
  | 1 => some 0
  | 2 => some 1
  | 4 => some 2
  | _ =>
    bif c.bcOn then none
    else match c.bcSize with
      | 1 => some 0
      | 2 => some 1
      | 4 => some 2
      | _ => none

/-- The longwords that wait in the write buffer, as the level below holds them: the oldest entry's where several write one. -/
def MemSys.waiting (m : MemSys) : Longs := m.wb.foldr (fun e l => Longs.add l e.before) []

/-- The configuration of a state. -/
def State.cacheCfg (s : State) : CacheCfg where
  blockSize := s.cbu.blockSize
  sets := s.cbu.scCtl.extractLsb' 13 3
  bcSize := bif s.cbu.bcOn then s.cbu.bcSize else 0
  scForced := s.cbu.scCtl.getLsbD 0
  scStat := s.cbu.scCtl.extractLsb' 2 6
  fillSet := s.cbu.fillSet
  bcForced := s.cbu.bcOn && s.cbu.bcControl.getLsbD 7
  bcStat := s.cbu.bcControl.extractLsb' 8 5
  badParity := s.cbu.scCtl.extractLsb' 8 4
  badData := s.cbu.bcControl.extractLsb' 13 2
  ecc := s.cbu.bcControl.getLsbD 6
  errorsOff := s.cbu.bcControl.getLsbD 15
  group2 := s.cbu.bcControl.getLsbD 2
  victimFirst := s.cbu.bcControl.getLsbD 5
  keepClean := s.cbu.bcControl.getLsbD 29
  tagShared := s.pins.tagShared
  tagDirty := s.pins.tagDirty
  shared := s.pins.shared
  dcacheOn := s.mtu.dcMode.getLsbD 0
  mem := s.mem
  older := s.memsys.waiting

/-! ## Addresses -/

/-- Region 3 of the physical address space (20_memory.md R292), the CBU registers. -/
def inCbu (pa : PAddr) : Bool := pa.extractLsb' 20 20 == 0xFFFFF

/-- The block that holds an address. -/
def CacheCfg.block (c : CacheCfg) (a : Nat) : Nat := a / c.blockSize * c.blockSize

/-- The longwords of n bytes from a. -/
def longsIn (a n : Nat) : List Nat := (List.range (n / 4)).map (fun k => a + 4 * k)

/-- n bytes from a. -/
def bytesIn (a n : Nat) : List Nat := (List.range n).map (fun k => a + k)

/-- The bits of 32 bytes that a mask of bytes selects. -/
def bitsOf (bytes : BitVec 32) : BitVec 256 :=
  BitVec.ofNat 256 ((List.range 32).foldl (fun v k => v + (bytes.getLsbD k).toNat * 255 * 256 ^ k) 0)

/-- A mask of the INT4s or INT8s of 32 bytes, without a transfer size. -/
def Lanes.mask (bits : BitVec 8) : Lanes := ⟨0, false, bits⟩

/-- Every INT4 of 32 bytes, as int4_valid_h has it. A READ MISS of a cacheable block for the Dstream drives it too (DESIGN
CHOICE, log entry 37: R397 says only that it is not zero). -/
def allLanes : Lanes := .mask 0xFF

/-! ## Data that move between the levels -/

/-- Data leave the Scache, to the Bcache or to memory. -/
def Caches.writeBack (c : CacheCfg) (a n : Nat) (m : Caches) : Caches :=
  { m with
    underScache := m.underScache.outside a n
    underBcache := bif c.bcSize == 0 then m.underBcache else Longs.add (m.underScache.inside a n) m.underBcache }

/-- Memory has the data of n bytes. -/
def Caches.release (a n : Nat) (m : Caches) : Caches :=
  { m with underScache := m.underScache.outside a n, underBcache := m.underBcache.outside a n }

/-- The next steps take up these events. -/
def Caches.post (l : List Event) (m : Caches) : Caches := { m with posted := m.posted ++ l }

/-- Longwords of the level below show again. -/
def Caches.show (l : Longs) (m : Caches) : Caches := m.post (bif l.isEmpty then [] else [.restore l])

/-- n clean bytes leave the Scache: where an error had given it other data, the level below shows again. -/
def Caches.leaveScache (a n : Nat) (m : Caches) : Caches :=
  { m.show (m.underScache.inside a n) with underScache := m.underScache.outside a n }

/-- n clean bytes leave the Scache and the Bcache. -/
def Caches.leave (a n : Nat) (m : Caches) : Caches :=
  (m.show (Longs.add (m.underScache.inside a n) (m.underBcache.inside a n))).release a n

/-! ## What is not known -/

/-- Nothing is known of these bytes. -/
def Caches.poison (l : List Nat) (m : Caches) : Caches := { m with poisoned := l ++ m.poisoned.filter (fun x => !l.elem x) }

/-- Nothing is known of the bytes of these longwords. -/
def Caches.poisonLongs (l : Longs) (m : Caches) : Caches := m.poison ((l.map fun p => bytesIn p.1 4).flatten)

/-- The bytes that a test selects have been written. -/
def Caches.clean (p : Nat → Bool) (m : Caches) : Caches := { m with poisoned := m.poisoned.filter (fun x => !p x) }

/-! ## Data on the bus (21_external_interface.md R383, R396, R430) -/

/-- A longword below the write buffer. -/
def CacheCfg.long (c : CacheCfg) (a : Nat) : Long :=
  match c.older.find? (fun p => p.1 == a) with
  | some p => p.2
  | none => Memory.long c.mem a

/-- A byte as the bus shows it: free where nothing is known of it. -/
def Caches.busByte (c : CacheCfg) (m : Caches) (a : Nat) : Byte :=
  bif m.poisoned.elem a then Config.lostByte m.driven a else (c.long (a / 4 * 4)).extractLsb' (8 * (a % 4)) 8

/-- A longword as the bus shows it. -/
def Caches.busLong (c : CacheCfg) (m : Caches) (a : Nat) : Long :=
  m.busByte c (a + 3) ++ m.busByte c (a + 2) ++ m.busByte c (a + 1) ++ m.busByte c a

/-- An octaword as the bus shows it. -/
def Caches.busOctaword (c : CacheCfg) (m : Caches) (a : Nat) : BitVec 128 :=
  m.busLong c (a + 12) ++ m.busLong c (a + 8) ++ m.busLong c (a + 4) ++ m.busLong c a

/-- The octawords of a block by number, in wrap order: piece k is number w XOR k (R396). -/
def CacheCfg.wrap (c : CacheCfg) (w : Nat) : List Nat :=
  let n := c.blockSize / 16
  (List.range n).map fun k => Nat.xor (w % n) k

/-- The data bits that BC_CONTROL<BC_BAD_DAT> inverts in an octaword (13_state_cbu_iprs.md R255). -/
def badDataBits (bad : BitVec 2) : BitVec 128 :=
  let q : Quad := bad.setWidth 64
  q ++ q

/-- What BC_CONTROL<BC_BAD_DAT> leaves wrong in a block written to the Bcache: data bits, under the check bits of the good data.
-/
def CacheCfg.badFlips (c : CacheCfg) : List BcFlip :=
  bif c.badData == 0 then [] else (List.range (c.blockSize / 16)).map fun k => ⟨k, badDataBits c.badData, 0⟩

/-- What is wrong in octaword k of a block. -/
def flipOf (k : Nat) (l : List BcFlip) : BcFlip := (l.find? fun f => f.octaword == k).getD ⟨k, 0, 0⟩

/-- The block at an address in wrap order, with the bits that are wrong in it. -/
def Caches.busBlock (c : CacheCfg) (flips : List BcFlip) (w block : Nat) (m : Caches) : List (BitVec 128) :=
  (c.wrap w).map fun k => m.busOctaword c (block + 16 * k) ^^^ (flipOf k flips).data

/-- The check bits of that block: those of the good data, but for the ones that are wrong (21_external_interface.md R430). -/
def Caches.busCheck (c : CacheCfg) (flips : List BcFlip) (w block : Nat) (m : Caches) : List (BitVec 16) :=
  (c.wrap w).map fun k => checkBits c.ecc (m.busOctaword c (block + 16 * k)) ^^^ (flipOf k flips).check

/-! ## The bus -/

/-- cmd_h<3:0> (R400, Table 4-9). The miss register of a READ MISS is 0 (DESIGN CHOICE, log entry 37). -/
def BusCommand.code : BusCommand → BitVec 4
  | .lock => 0x1
  | .fetch => 0x2
  | .fetchM => 0x3
  | .memoryBarrier => 0x4
  | .setDirty => 0x5
  | .writeBlock => 0x6
  | .writeBlockLock => 0x7
  | .readMiss .load => 0x8
  | .readMiss .istream => 0x8
  | .readMiss .modify => 0xA
  | .readMiss .conditional => 0xE
  | .bcacheVictim => 0xC

/-- The bits of int4_valid_h that carry low address bits (R399). -/
def Lanes.known (l : Lanes) : BitVec 8 :=
  bif !l.low then 0xFF else bif l.size == 1 then 0xFC else bif l.size == 2 then 0xFE else 0xFF

/-- A command driven after those of this step: addr_h<39:4> with the transfer size in <38:37>, odd parity over it and cmd_h
(R433); what the command leaves undefined is free (93_implementation_defined.md U12). -/
def Caches.drive (command : BusCommand) (addr : PAddr) (lanes : Lanes) (data : List (BitVec 128)) (check : List (BitVec 16))
    (set : Option Nat) (victim : Bool) (m : Caches) : Caches :=
  let pins : PAddr := clearLow addr 4 ||| (lanes.size.setWidth 40 <<< 37)
  let cycle : BusCycle :=
    { command := command
      addr := pins
      parity := !(xor (eparity pins) (eparity command.code))
      int4Valid := (lanes.bits &&& lanes.known) ||| (Config.undrivenLanes m.driven &&& ~~~lanes.known)
      data := data
      check := check
      scacheSet := (set.map (BitVec.ofNat 2)).getD (Config.undrivenSet m.driven)
      victimPending := victim }
  { m with bus := { m.bus with commands := m.bus.commands ++ [cycle] }, driven := m.driven + 1 }

/-- A command that moves no data. Its int4_valid_h is all ones (DESIGN CHOICE, log entry 37: R397 to R399 do not give it). -/
def Caches.tell (command : BusCommand) (addr : PAddr) (m : Caches) : Caches :=
  m.drive command addr allLanes [] [] none false

/-- WRITE BLOCK of a cacheable block, never wrapped (R396, R404). -/
def Caches.writeBlock (c : CacheCfg) (flips : List BcFlip) (block : Nat) (m : Caches) : Caches :=
  m.drive .writeBlock (BitVec.ofNat 40 block) allLanes (m.busBlock c flips 0 block) (m.busCheck c flips 0 block) none false

/-! ## The Scache (13_state_cbu_iprs.md R249) -/

def SubBlock.invalid : SubBlock := ⟨false, false, false, 0, 0, 0⟩

/-- The subblock that holds an address. -/
def ScLine.sub (l : ScLine) (a : Nat) : SubBlock := bif a / 32 % 2 == 1 then l.sub1 else l.sub0

/-- The address of a line. -/
def ScLine.base (l : ScLine) : Nat := l.tag.toNat * 2 ^ 15 + l.index * 64

/-- The line is in an enabled set and has the index and the tag of an address. -/
def ScLine.covers (c : CacheCfg) (a : Nat) (l : ScLine) : Bool :=
  l.index == a / 64 % 512 && l.tag == BitVec.ofNat 24 (a / 2 ^ 15) && (c.sets == 7 || c.sets.getLsbD l.set)

/-- The line holds the address. -/
def ScLine.holds (c : CacheCfg) (a : Nat) (l : ScLine) : Bool := l.covers c a && (l.sub a).valid

/-- Change the subblocks of an address's block. -/
def ScLine.onBlock (c : CacheCfg) (a : Nat) (f : SubBlock → SubBlock) (l : ScLine) : ScLine :=
  bif c.blockSize == 64 then { l with sub0 := f l.sub0, sub1 := f l.sub1 }
  else bif a / 32 % 2 == 1 then { l with sub1 := f l.sub1 }
  else { l with sub0 := f l.sub0 }

/-- Two lines have one place. -/
def ScLine.samePlace (l k : ScLine) : Bool := l.index == k.index && l.set == k.set

/-- A line written to its place. -/
def putScLine (l : ScLine) (ls : List ScLine) : List ScLine := l :: ls.filter (fun k => !l.samePlace k)

/-- The line that holds an address. -/
def Caches.scFind (c : CacheCfg) (a : Nat) (m : Caches) : Option ScLine := m.scache.find? (ScLine.holds c a)

/-- A store has written the byte since its block came into the Scache. -/
def Caches.storedByte (c : CacheCfg) (m : Caches) (a : Nat) : Bool :=
  (m.scFind c a).any fun l => (l.sub a).stored.getLsbD (a % 32)

/-- Change the block of an address where the Scache holds it. -/
def Caches.onBlock (c : CacheCfg) (a : Nat) (f : SubBlock → SubBlock) (m : Caches) : Caches :=
  { m with scache := m.scache.map fun l => bif l.holds c a then l.onBlock c a f else l }

/-- The block of an address is dirty in the Scache. -/
def Caches.scDirty (c : CacheCfg) (a : Nat) (m : Caches) : Bool :=
  m.scache.any fun l => l.holds c a && (bif c.blockSize == 64 then l.sub0.dirty || l.sub1.dirty else (l.sub a).dirty)

/-- The dirty blocks of a line. -/
def ScLine.dirtyBlocks (c : CacheCfg) (l : ScLine) : List Nat :=
  let d0 := l.sub0.valid && l.sub0.dirty
  let d1 := l.sub1.valid && l.sub1.dirty
  bif c.blockSize == 64 then (bif d0 || d1 then [l.base] else [])
  else (bif d0 then [l.base] else []) ++ (bif d1 then [l.base + 32] else [])

/-- The status bits of a subblock in SC_ADDR: valid, shared, dirty from bit 0 (R249). -/
def SubBlock.shown (b : SubBlock) : BitVec 3 := BitVec.ofBool b.dirty ++ BitVec.ofBool b.shared ++ BitVec.ofBool b.valid

/-- SC_ADDR in force hit mode (R249). -/
def ScLine.shown (l : ScLine) : PAddr :=
  (0 : BitVec 1) ++ l.tag ++ l.sub1.modified ++ l.sub0.modified ++ l.sub1.shown ++ l.sub0.shown ++
    BitVec.ofBool l.parity ++ (0 : BitVec 4)

/-- The line of the set that force hit mode uses at the index of an address. -/
def Caches.scForcedLine (c : CacheCfg) (a : Nat) (m : Caches) : Option ScLine :=
  m.scache.find? (fun l => l.index == a / 64 % 512 && l.set == c.fillSet.getD 0)

/-- An access of the Scache is seen in SC_ADDR (R248; of a write the address of its 32 bytes, so that bit 4 shows 0: DESIGN
CHOICE, log entry 38), in force hit mode as the line of a read or probe (R249). -/
def Caches.see (c : CacheCfg) (a : Nat) (m : Caches) : Caches :=
  { m with scSeen := bif c.scForced then (m.scForcedLine c a).map ScLine.shown else some (BitVec.ofNat 40 a) }

/-- The line's tag parity is wrong; even parity is right (R244). -/
def ScLine.tagBad (l : ScLine) : Bool := eparity l.tag != l.parity

/-- SC_TPERR for an access (R246): the enabled sets whose line at the index has bad tag parity. -/
def Caches.tagErrors (c : CacheCfg) (a : Nat) (m : Caches) : BitVec 3 :=
  (m.scache.filter fun l => l.index == a / 64 % 512 && l.tagBad && (c.sets == 7 || c.sets.getLsbD l.set)).foldl
    (fun v l => v ||| 1 <<< l.set) 0

/-- SC_DPERR for a read: the longwords of the 32 bytes whose parity is wrong. -/
def Caches.dataErrors (c : CacheCfg) (a : Nat) (m : Caches) : BitVec 8 :=
  match m.scFind c a with
  | some l => (l.sub a).bad
  | none => 0

/-- A transaction that reads data reads a whole block: for the system, to write it back, or for WRITE BLOCK. -/
def ScacheOp.whole : ScacheOp → Bool
  | .readDirty => true
  | .victim => true
  | .dwrite => true
  | .setShared => false
  | .invalidate => false
  | .iread => false
  | .dread => false

/-- The 32 bytes of a read that a data parity error is reported for: the ones read first, unless in a block of 64 bytes that is
read whole the others alone are wrong (R246: errors in one transaction count once). -/
def Caches.errorAddress (c : CacheCfg) (op : ScacheOp) (a : Nat) (m : Caches) : Nat :=
  let other := Nat.xor a 32
  bif op.whole && c.blockSize == 64 && m.dataErrors c a == 0 && m.dataErrors c other != 0 then other else a

/-- The even parity of each of the eight longwords that hold an address: the exclusive OR of its four byte parity bits, which
SC_CTL<SC_FB_DP> leaves as it is, since it inverts all four (R245, R246). -/
def CacheCfg.parities (c : CacheCfg) (a : Nat) : BitVec 8 :=
  BitVec.ofNat 8 ((longsIn (a / 32 * 32) 32).foldr (fun x v => 2 * v + (eparity (c.long x)).toNat) 0)

/-- Of which of these longwords some byte is not known. -/
def Caches.unknownLanes (a : Nat) (m : Caches) : BitVec 8 :=
  BitVec.ofNat 8 ((longsIn (a / 32 * 32) 32).foldr (fun x v => 2 * v + ((bytesIn x 4).any m.poisoned.elem).toNat) 0)

/-- What an access is found to have read: the tag parity errors given, and in a read of data their parity errors, as one error
(R246). In force hit mode nothing is checked (R244), and the parity bits of the 32 bytes that are read go to SC_DPERR (R246; of
a block of 64 bytes those of the 32 bytes read first: DESIGN CHOICE, log entry 38). -/
def Caches.found (c : CacheCfg) (op : ScacheOp) (tags : BitVec 3) (reads : Bool) (a : Nat) (m : Caches) : Caches :=
  let b := bif reads then m.errorAddress c op a else a
  let data := bif reads then m.dataErrors c b else 0
  m.post
    (bif c.scForced then
      bif reads && (m.scFind c a).isSome then [.scacheForced (c.parities a) (m.unknownLanes a)] else []
    else bif tags == 0 && data == 0 then []
    else [.scacheParity tags data op (BitVec.ofNat 40 b)])

/-- The parity checks of an access: of the tags, and in a read of the data. -/
def Caches.check (c : CacheCfg) (op : ScacheOp) (reads : Bool) (a : Nat) (m : Caches) : Caches :=
  m.found c op (m.tagErrors c a) reads a

/-- An access of the Scache: seen, and checked. -/
def Caches.probe (c : CacheCfg) (op : ScacheOp) (reads : Bool) (a : Nat) (m : Caches) : Caches :=
  (m.see c a).check c op reads a

/-- The Scache transaction of a reference (R247). -/
def ReadKind.op : ReadKind → ScacheOp
  | .load => .dread
  | .istream => .iread
  | .modify => .dwrite
  | .conditional => .dwrite

/-- A reference reads the Scache's data, whose parity is then checked. A write does not, whatever bad parity the line holds,
unless WRITE BLOCK sends the block (DESIGN CHOICE, log entry 38: 61_errors.md R1030 and R1035 speak of a read and name DWRITE
among the transactions, and no rule says when a write reads the data); nor does the probe of a store that misses. -/
def ReadKind.reads : ReadKind → Bool
  | .load => true
  | .istream => true
  | .modify => false
  | .conditional => false

/-! ## The Dcache (12_state_mtu_iprs.md R221) -/

def DcLine.base (l : DcLine) : Nat := l.tag.toNat * 8192 + l.index * 32

/-- The line's octaword that holds an address is valid. -/
def DcLine.holds (a : Nat) (l : DcLine) : Bool :=
  l.index == a / 32 % 256 && l.tag == BitVec.ofNat 26 (a / 8192) && l.valid.getLsbD (a / 16 % 2)

/-- Invalidate the lines of n bytes: the Dcache is a subset of the Scache (21_external_interface.md R411). -/
def Caches.dropDcache (a n : Nat) (m : Caches) : Caches :=
  { m with dcache := m.dcache.map fun l => bif within a n l.base then { l with valid := 0 } else l }

/-- Clear every valid bit (R210). -/
def Caches.flushDcache (m : Caches) : Caches :=
  { m with dcache := m.dcache.map (fun l => { l with valid := 0 }), dcacheFlushed := true }

/-- Mark the valid lines at the index of an address: their data may no longer be the Scache's. -/
def Caches.staleDcache (a : Nat) (m : Caches) : Caches :=
  { m with dcache := m.dcache.map fun l => bif l.index == a / 32 % 256 then { l with stale := true } else l }

/-- A line of which nothing has been written: tag, parity and valid bits are free, the valid bits clear after DC_FLUSH; its data
parity is good (DESIGN CHOICE, log entry 38). -/
def Caches.unwrittenLine (bank1 : Bool) (index : Nat) (m : Caches) : DcLine :=
  let v := Config.dcacheTagRam m.dcacheFills bank1 index
  { bank1 := bank1, index := index, tag := v.extractLsb' 3 26, parity := v.getLsbD 2,
    valid := bif m.dcacheFlushed then 0 else v.extractLsb' 0 2, bad := 0, stale := true }

/-- The lines at an index, of which nothing may have been written, are given contents. -/
def Caches.listLines (index : Nat) (m : Caches) : Caches :=
  let missing := [false, true].filter fun b => !m.dcache.any fun l => l.index == index && l.bank1 == b
  { m with dcache := missing.map (fun b => m.unwrittenLine b index) ++ m.dcache }

/-- A block read into both banks, with data that may not be the Scache's. -/
def Caches.placeBlock (a : Nat) (stale : Bool) (m : Caches) : Caches :=
  let tag := BitVec.ofNat 26 (a / 8192)
  let line (bank1 : Bool) : DcLine :=
    { bank1 := bank1, index := a / 32 % 256, tag := tag, parity := eparity tag != Config.dcacheTagParityOdd, valid := 3,
      bad := 0, stale := stale }
  { m with dcache := line false :: line true :: m.dcache.filter (fun l => l.index != a / 32 % 256) }

/-- A block is read for the Dcache: a store may abort or prevent the fill, and the line that was there stays (71_timing.md
R1170, R1171; freely, log entry 45). -/
def Caches.fillDcache (a : Nat) (stale : Bool) (m : Caches) : Caches :=
  let t := bif Config.dcacheFillPlaced m.dcacheFills then m.placeBlock a stale else m
  { t with dcacheFills := m.dcacheFills + 1 }

/-! ## The Bcache (21_external_interface.md R390) -/

/-- The Bcache index of an address. -/
def CacheCfg.bcIndex (c : CacheCfg) (a : Nat) : Nat := a % 2 ^ (19 + c.bcSize) / c.blockSize

/-- The bits of a tag that the configured size uses: from log2(size) up. -/
def CacheCfg.bcUsed (c : CacheCfg) (t : BitVec 19) : BitVec 19 := (t >>> (c.bcSize - 1)) <<< (c.bcSize - 1)

/-- The tag of an address. -/
def CacheCfg.bcTag (c : CacheCfg) (a : Nat) : BitVec 19 := c.bcUsed (BitVec.ofNat 19 (a / 2 ^ 20))

/-- An entry with the parity bits that the 21164 writes, odd (R432). -/
def BcLine.good (index : Nat) (tag : BitVec 19) (valid shared dirty : Bool) : BcLine where
  index := index
  tag := tag
  tagParity := !eparity tag
  valid := valid
  shared := shared
  dirty := dirty
  ctlParity := !(xor valid (xor shared dirty))
  flips := []
  missed := none

/-- The bits of an entry: tag, tag parity, valid, shared, dirty, status parity. -/
def BcLine.bits (l : BcLine) : BitVec 24 :=
  l.tag ++ BitVec.ofBool l.tagParity ++ BitVec.ofBool l.valid ++ BitVec.ofBool l.shared ++ BitVec.ofBool l.dirty ++
    BitVec.ofBool l.ctlParity

/-- An entry from its bits. -/
def BcLine.ofBits (index : Nat) (v : BitVec 24) : BcLine where
  index := index
  tag := v.extractLsb' 5 19
  tagParity := v.getLsbD 4
  valid := v.getLsbD 3
  shared := v.getLsbD 2
  dirty := v.getLsbD 1
  ctlParity := v.getLsbD 0
  flips := []
  missed := none

/-- What the tag store holds where nothing has been written: invalid entries if the board initializes it (20_memory.md
R332 c). -/
def BcLine.initial (index : Nat) : BcLine :=
  bif Config.bcacheInitialized then .good index 0 false false false else .ofBits index (Config.bcacheTagRam index)

/-- The block address of an entry. -/
def BcLine.base (c : CacheCfg) (l : BcLine) : Nat := (c.bcUsed l.tag).toNat * 2 ^ 20 + l.index * c.blockSize

/-- An entry written. -/
def putBcLine (l : BcLine) (ls : List BcLine) : List BcLine := l :: ls.filter (fun k => k.index != l.index)

/-- The entry that an address indexes has been written. -/
def Caches.bcKnown (c : CacheCfg) (a : Nat) (m : Caches) : Bool := m.bcache.any (fun l => l.index == c.bcIndex a)

/-- The entry that an address indexes. -/
def Caches.bcLine (c : CacheCfg) (a : Nat) (m : Caches) : BcLine :=
  (m.bcache.find? (fun l => l.index == c.bcIndex a)).getD (.initial (c.bcIndex a))

/-- A Bcache hit: valid and the same tag, whatever the parity bits (R432), or forced (13_state_cbu_iprs.md R255). -/
def BcLine.hit (c : CacheCfg) (a : Nat) (l : BcLine) : Bool := c.bcForced || (l.valid && c.bcUsed l.tag == c.bcTag a)

/-- The entry of a block that the 21164 writes to the Bcache, in place of an old one: in force hit mode with the bits of
BC_TAG_STAT, its data with the bits of BC_BAD_DAT inverted (R255). -/
def CacheCfg.bcWritten (c : CacheCfg) (a : Nat) (old : BcLine) (shared dirty : Bool) : BcLine :=
  { (bif c.bcForced then
      { index := c.bcIndex a, tag := c.bcTag a, tagParity := c.bcStat.getLsbD 4, valid := c.bcStat.getLsbD 2,
        shared := c.bcStat.getLsbD 1, dirty := c.bcStat.getLsbD 0, ctlParity := c.bcStat.getLsbD 3, flips := [], missed := none }
    else .good (c.bcIndex a) (c.bcTag a) true shared dirty : BcLine) with
    flips := c.badFlips
    missed := bif old.base c == c.block a then old.missed else none }

/-- A Bcache entry has odd parity over the tag bits in use, and over the status bits (21_external_interface.md R432). -/
def BcLine.tagOk (c : CacheCfg) (l : BcLine) : Bool := xor (eparity (c.bcUsed l.tag)) l.tagParity

def BcLine.controlOk (l : BcLine) : Bool := xor (xor l.valid l.shared) (xor l.dirty l.ctlParity)

/-- The probe of the Bcache that BC_TAG_ADDR<38:12> shows (R260). -/
def BcLine.shown (c : CacheCfg) (a : Nat) (l : BcLine) : BitVec 27 :=
  l.tag ++ (0 : BitVec 2) ++ BitVec.ofBool l.tagParity ++ BitVec.ofBool l.valid ++ BitVec.ofBool l.shared ++
    BitVec.ofBool l.dirty ++ BitVec.ofBool l.ctlParity ++ BitVec.ofBool (l.hit c a)

/-- A read of the Bcache tag is seen in BC_TAG_ADDR, and checked as it is read, whatever becomes of the entry
(21_external_interface.md R432); force hit mode does not look at the tag (DESIGN CHOICE, log entry 27: the spec does not say
that the check is off there). -/
def Caches.seeBcache (c : CacheCfg) (istream system : Bool) (a : Nat) (m : Caches) : Caches :=
  let b := m.bcLine c a
  { m.post (bif c.bcForced || (b.tagOk c && b.controlOk) then []
      else [.bcacheTagSeen istream system (BitVec.ofNat 40 a) (!b.tagOk c) (!b.controlOk) (b.shown c a)]) with
    bcSeen := some (b.shown c a) }

/-- A block read from the Bcache in which data or check bits are wrong: each such octaword arrives so (R255; 61_errors.md
R1070). -/
def Caches.readBad (c : CacheCfg) (istream : Bool) (a : Nat) (b : BcLine) (m : Caches) : Caches :=
  m.post (b.flips.map fun f => .fill false istream false (BitVec.ofNat 40 (c.block a + 16 * f.octaword)) f.data f.check)

/-- The receiver of an octaword corrects it. -/
def BcFlip.corrected (c : CacheCfg) (f : BcFlip) : Bool :=
  match checkFill c.ecc f.data (checkBits c.ecc 0 ^^^ f.check) with
  | .good => false
  | .correctable _ => true
  | .uncorrectable _ => false

/-- The receiver of an octaword cannot correct it. -/
def BcFlip.spoils (c : CacheCfg) (f : BcFlip) : Bool :=
  match checkFill c.ecc f.data (checkBits c.ecc 0 ^^^ f.check) with
  | .good => f.data != 0
  | .correctable _ => false
  | .uncorrectable _ => true

/-- The bytes of a block of which its receiver knows nothing: those of the octawords that it cannot correct. -/
def CacheCfg.spoiled (c : CacheCfg) (block : Nat) (flips : List BcFlip) : List Nat :=
  ((flips.filter (BcFlip.spoils c)).map fun f => bytesIn (block + 16 * f.octaword) 16).flatten

/-- What is wrong in the Bcache's copy of an octaword, in the entry of its block. -/
def Caches.noteFlip (c : CacheCfg) (a : Nat) (data : BitVec 128) (check : BitVec 16) (m : Caches) : Caches :=
  let b := m.bcLine c a
  let k := a % c.blockSize / 16
  let others := b.flips.filter fun f => f.octaword != k
  bif c.bcSize == 0 || b.base c != c.block a || !b.valid then m
  else
    let flips := bif data == 0 && check == 0 then others else ⟨k, data, check⟩ :: others
    { m with bcache := putBcLine { b with flips := flips } m.bcache }

/-! ## Displacing blocks (R403, R404, R414) -/

/-- A dirty block goes from the Scache to the Bcache: its dirty bit is set (21_external_interface.md R407). What else the entry
held is lost: that happens only after an error or in force hit mode. -/
def Caches.toBcache (c : CacheCfg) (m : Caches) (a : Nat) : Caches :=
  let b := m.bcLine c a
  let m' := bif b.base c == a then m else m.poisonLongs (m.underBcache.inside (b.base c) c.blockSize)
  { m' with bcache := putBcLine (c.bcWritten a b b.shared true) m'.bcache }

/-- The bytes among n that a fill has given wrong in this step, of which the error is still to be taken up. -/
def Caches.fillsPending (a n : Nat) (m : Caches) : List Nat :=
  (m.posted.map fun e =>
    match e with
    | .fill _ _ _ addr _ _ => (bytesIn (addr.toNat / 16 * 16) 16).filter (within a n)
    | _ => []).flatten

/-- A line leaves the Scache: its dirty blocks go to the Bcache, or by WRITE BLOCK to memory; the Dcache follows. Of what has
been filled wrong in this step, and leaves dirty, nothing is known. -/
def Caches.evict (c : CacheCfg) (l : ScLine) (m : Caches) : Caches :=
  let dirty := l.dirtyBlocks c
  let clean := ((bif c.blockSize == 64 then [l.base] else [l.base, l.base + 32]).filter fun a => !dirty.elem a)
  let wrong := (dirty.map fun a => m.fillsPending a c.blockSize).flatten
  let seen := (dirty.foldl (fun m a => m.probe c .victim true a) m).poison wrong
  let left := clean.foldl (fun m a => m.leaveScache a c.blockSize) seen
  let m' := { (left.dropDcache l.base 64).writeBack c l.base 64 with scache := m.scache.filter (fun k => !l.samePlace k) }
  dirty.foldl (bif c.bcSize == 0 then fun m a => m.writeBlock c [] a else Caches.toBcache c) m'

/-- A block is removed from the Scache and the Dcache, its data left to whoever asked. -/
def Caches.remove (c : CacheCfg) (a : Nat) (m : Caches) : Caches :=
  (m.onBlock c a (fun _ => .invalid)).dropDcache (c.block a) c.blockSize

/-! ## Filling blocks (R401, R402, R414) -/

/-- A new line for an address. -/
def ScLine.new (set a : Nat) : ScLine :=
  let tag := BitVec.ofNat 24 (a / 2 ^ 15)
  { set := set, index := a / 64 % 512, tag := tag, parity := eparity tag, sub0 := .invalid, sub1 := .invalid }

/-- SC_CTL<SC_FB_DP> for the eight longwords of two octawords (13_state_cbu_iprs.md R245). -/
def CacheCfg.badLongs (c : CacheCfg) : BitVec 8 := c.badParity ++ c.badParity

/-- The Scache set that a fill of an address replaces. -/
def Caches.setFor (c : CacheCfg) (a : Nat) (m : Caches) : Nat :=
  match m.scache.find? (ScLine.covers c a) with
  | some l => l.set
  | none => c.fillSet.getD (Config.scacheVictim m.fills % 3)

/-- The line that a fill of an address displaces: none where a line already has its tag. -/
def Caches.displaced (c : CacheCfg) (a : Nat) (m : Caches) : Option ScLine :=
  match m.scache.find? (ScLine.covers c a) with
  | some _ => none
  | none => m.scache.find? (ScLine.new (m.setFor c a) a).samePlace

/-- A block enters the Scache, with the parity that SC_FB_DP asks for: into the line that already has its tag, or in place of
another one. -/
def Caches.fillScache (c : CacheCfg) (a : Nat) (shared dirty : Bool) (m : Caches) : Caches :=
  let new : SubBlock := ⟨true, shared, dirty, 0, c.badLongs, 0⟩
  match m.scache.find? (ScLine.covers c a) with
  | some l => { m with scache := putScLine (l.onBlock c a fun _ => new) m.scache, fills := m.fills + 1 }
  | none =>
    let line := ScLine.new (m.setFor c a) a
    let m' := match m.displaced c a with
      | some l => m.evict c l
      | none => m
    { m' with scache := putScLine (line.onBlock c a fun _ => new) m'.scache, fills := m.fills + 1 }

/-- Nothing vouches for the data that the Bcache gives: force hit mode, or a tag that nothing has initialized (20_memory.md
R332 b, c). -/
def Caches.bcDoubtful (c : CacheCfg) (a : Nat) (m : Caches) : Bool :=
  c.bcForced || (!m.bcKnown c a && !Config.bcacheInitialized)

/-- READ MISS with the Scache set that it fills. -/
def Caches.readMiss (c : CacheCfg) (k : ReadKind) (a : Nat) (lanes : Lanes) (victim : Bool) (m : Caches) : Caches :=
  m.drive (.readMiss k) (BitVec.ofNat 40 a) lanes [] [] (some (m.setFor c a)) victim

/-- BCACHE VICTIM of the block of an entry, in the wrap order of the miss that displaces it, whose addr_h<5:4> it carries (R396,
R403). Wrong data leave under the check bits of the Bcache (R430); of what the receiver cannot correct nothing is known. Data
that are dirty in the Scache come from there. -/
def Caches.bcacheVictim (c : CacheCfg) (a : Nat) (b : BcLine) (m : Caches) : Caches :=
  let old := b.base c
  let w := a / 16
  let flips := bif m.scDirty c old then [] else b.flips
  let t := m.drive .bcacheVictim (BitVec.ofNat 40 (old + a / 16 * 16 % c.blockSize)) allLanes (m.busBlock c flips w old)
    (m.busCheck c flips w old) none false
  t.poison (c.spoiled old flips)

/-- A read that misses the Scache. The Bcache is probed if there is one; a miss sends READ MISS, with BCACHE VICTIM for a dirty
block that it displaces, in the order of BC_CONTROL<VTM_FIRST>. The fill's status is the system's, and dirty for READ MISS MOD
if it is not shared (R382, R401). A fill that BC_FHIT makes hit is private (13_state_cbu_iprs.md R255), and clean whatever the
entry says (DESIGN CHOICE, log entry 38: the rule does not give its dirty bit). -/
def Caches.refill (c : CacheCfg) (k : ReadKind) (a : Nat) (lanes : Lanes) (m : Caches) : Caches :=
  let dirty := c.tagDirty || (k == .modify && !c.tagShared)
  bif c.bcSize == 0 then
    let victim := (m.displaced c a).any fun l => !(l.dirtyBlocks c).isEmpty
    (m.readMiss c k a lanes victim).fillScache c a c.tagShared dirty
  else
    let b := m.bcLine c a
    let old := b.base c
    let doubt := m.bcDoubtful c a
    let m := (m.seeBcache c (k == .istream) false a).poison (bif doubt then bytesIn (c.block a) c.blockSize else [])
    bif b.hit c a then
      (m.readBad c (k == .istream) a b).fillScache c a (b.shared && !c.bcForced) (b.dirty && !c.bcForced)
    else
      let victim := b.valid && (b.dirty || m.scDirty c old)
      let p := bif b.valid then m.probe c .victim (m.scDirty c old) old else m
      let t :=
        bif !victim then p.readMiss c k a lanes false
        else bif c.victimFirst then (p.bcacheVictim c a b).readMiss c k a lanes true
        else (p.readMiss c k a lanes true).bcacheVictim c a b
      let gone := t.remove c old
      let m' :=
        bif !b.valid then t
        else (bif victim then gone.release old c.blockSize else gone.leave old c.blockSize).poison
          (bif doubt then bytesIn old c.blockSize else [])
      let m'' := m'.fillScache c a c.tagShared dirty
      let entry : BcLine := { BcLine.good (c.bcIndex a) (c.bcTag a) true c.tagShared dirty with missed := some (b.shown c a) }
      { m'' with bcache := putBcLine entry m''.bcache }

/-- A reference to a cacheable block, which reads its data or not: nothing more on a hit. -/
def Caches.reference (c : CacheCfg) (k : ReadKind) (reads : Bool) (a : Nat) (lanes : Lanes) (m : Caches) : Caches :=
  let p := m.probe c k.op reads a
  match m.scFind c a with
  | some _ => p
  | none => p.refill c k a lanes

/-- A reference that only looks its block up, or reads it. -/
def Caches.access (c : CacheCfg) (k : ReadKind) (a : Nat) (lanes : Lanes) (m : Caches) : Caches :=
  m.reference c k k.reads a lanes

/-! ## Writing blocks (R404, R407, R414) -/

/-- The octawords of a 32-byte subblock that a mask of bytes touches. -/
def octawordsOf (bytes : BitVec 32) : BitVec 2 :=
  BitVec.ofBool (bytes.extractLsb' 16 16 != 0) ++ BitVec.ofBool (bytes.extractLsb' 0 16 != 0)

/-- The INT4 mask of a mask of bytes. -/
def int4Of (bytes : BitVec 32) : BitVec 8 :=
  BitVec.ofNat 8 ((List.range 8).foldl (fun v k => v + (bytes.extractLsb' (4 * k) 4 != 0).toNat * 2 ^ k) 0)

/-- The longwords of 32 bytes that a mask of bytes writes whole. -/
def wholeOf (bytes : BitVec 32) : BitVec 8 :=
  BitVec.ofNat 8 ((List.range 8).foldl (fun v k => v + (bytes.extractLsb' (4 * k) 4 == 15).toNat * 2 ^ k) 0)

/-- A subblock written: its modified octawords if they count, and the parity of the longwords (R245). -/
def SubBlock.written (c : CacheCfg) (bytes : BitVec 32) (modifies : Bool) (b : SubBlock) : SubBlock :=
  { b with
    stored := b.stored ||| bytes
    modified := bif modifies then b.modified ||| octawordsOf bytes else b.modified
    bad := (int4Of bytes &&& c.badLongs) ||| (b.bad &&& ~~~wholeOf bytes) }

/-- The 32-byte subblock of an address written. -/
def Caches.written (c : CacheCfg) (a : Nat) (bytes : BitVec 32) (modifies : Bool) (m : Caches) : Caches :=
  m.onBlock { c with blockSize := 32 } a (SubBlock.written c bytes modifies)

/-- The bits of octaword k of a block that a write to bytes of a 32-byte subblock replaces. -/
def CacheCfg.replaced (c : CacheCfg) (a : Nat) (bytes : BitVec 32) (k : Nat) : BitVec 128 :=
  bif k / 2 == a % c.blockSize / 32 then (bitsOf bytes).extractLsb' (128 * (k % 2)) 128 else 0

/-- What stays wrong of an octaword of a fill behind which bytes of a 32-byte subblock are written: data that the 21164 does not
correct it takes as they are (61_errors.md R1040), and it makes their check bits anew when they leave. -/
def CacheCfg.left (c : CacheCfg) (a : Nat) (bytes : BitVec 32) (f : BcFlip) : BcFlip :=
  let data := bif !c.errorsOff && f.corrected c then 0 else f.data &&& ~~~c.replaced a bytes f.octaword
  ⟨f.octaword, data, checkBits c.ecc data ^^^ checkBits c.ecc 0⟩

/-- A write to a block that the Scache holds; `flips` says what the fill that has just brought it has given wrong. Shared: WRITE
BLOCK, and memory has the data; the block stays shared with a Bcache, otherwise as shared_h says. Private: SET DIRTY for a clean
one if it is enabled; the data are newer than the level below, which keeps `before`. -/
def Caches.own (c : CacheCfg) (a : Nat) (bytes : BitVec 32) (before : Longs) (flips : List BcFlip) (m : Caches) : Caches :=
  match m.scFind c a with
  | none => m
  | some l =>
    let t :=
      bif (l.sub a).shared then
        let m' := (((m.release (c.block a) c.blockSize).writeBlock c (flips.map (c.left a bytes)) (c.block a)).onBlock c a
          fun b => { b with shared := c.bcSize != 0 || c.shared, dirty := false, modified := 0 }).written c a bytes false
        bif c.bcSize == 0 then m'
        else { m' with bcache := putBcLine (c.bcWritten a (m'.bcLine c a) true false) m'.bcache }
      else
        let m' := bif c.group2 && !m.scDirty c a then m.tell .setDirty (BitVec.ofNat 40 (c.block a)) else m
        { (m'.onBlock c a fun b => { b with dirty := true }).written c a bytes true with
          underScache := Longs.add before m'.underScache }
    t.clean fun x => within a 32 x && bytes.getLsbD (x - a)

/-- The block of an address is shared in the Scache. -/
def Caches.isShared (c : CacheCfg) (a : Nat) (m : Caches) : Bool := (m.scFind c a).any fun l => (l.sub a).shared

/-- A write to 32 bytes of a block, which comes into the Scache first if it is not there (R401, R414). The WRITE BLOCK of a
shared block reads its data, which are checked as they stand before the write (61_errors.md R1035; DESIGN CHOICE, log entry 38:
the order is not stated). -/
def Caches.write (c : CacheCfg) (k : ReadKind) (a : Nat) (bytes : BitVec 32) (before : Longs) (m : Caches) : Caches :=
  match m.scFind c a with
  | some _ => (m.reference c k (m.isShared c a) a allLanes).own c a bytes before []
  | none =>
    let b := m.bcLine c a
    let t := m.reference c k false a allLanes
    (bif t.isShared c a then t.found c k.op 0 true a else t).own c a bytes before
      (bif c.bcSize != 0 && b.hit c a then b.flips else [])

/-- A store in Scache force hit mode (13_state_cbu_iprs.md R244): the line of the only enabled set gets the address's tag and
the bits of SC_TAG_STAT, whatever it held. In a 64-byte block both subblocks get them (DESIGN CHOICE, log entry 38). -/
def Caches.forceScache (c : CacheCfg) (a : Nat) (bytes : BitVec 32) (m : Caches) : Caches :=
  let old := m.scForcedLine c a
  let status (b : SubBlock) : SubBlock :=
    { b with valid := c.scStat.getLsbD 4, shared := c.scStat.getLsbD 3, dirty := c.scStat.getLsbD 2,
             modified := c.scStat.extractLsb' 0 2 }
  let line := { old.getD (ScLine.new (c.fillSet.getD 0) a) with tag := BitVec.ofNat 24 (a / 2 ^ 15), parity := c.scStat.getLsbD 5 }
  let lost := (old.map ScLine.base).getD line.base
  let m' := (m.poison (bytesIn lost 64 ++ bytesIn line.base 64)).dropDcache lost 64
  let new := (line.onBlock c a status).onBlock { c with blockSize := 32 } a (SubBlock.written c bytes false)
  { m' with scache := putScLine new m'.scache, underScache := m'.underScache.outside lost 64 }

/-- A byte of a write buffer entry on the bus: free where no store has written it (R398). -/
def WbEntry.busByte (m : Caches) (e : WbEntry) (k : Nat) : Byte :=
  bif e.bytes.getLsbD k then e.data.extractLsb' (8 * k) 8 else Config.lostByte m.driven (e.addr.toNat / 32 * 32 + k)

/-- The octaword from byte k on. -/
def WbEntry.octaword (m : Caches) (e : WbEntry) (k : Nat) : BitVec 128 :=
  BitVec.ofNat 128 ((List.range 16).foldl (fun v j => v + (e.busByte m (k + j)).toNat * 256 ^ j) 0)

/-- A noncacheable write: 32 bytes, with int4_valid_h as R398 and R399 have it. Of a byte or word write the low address bits
stand in <3:0>, and <7:4>, the second data cycle, is 0 (DESIGN CHOICE, log entry 37: R399 gives one value). -/
def Caches.sendOut (c : CacheCfg) (command : BusCommand) (e : WbEntry) (m : Caches) : Caches :=
  let lanes := bif e.lanes.low then e.lanes else { e.lanes with bits := int4Of e.bytes }
  let data := [e.octaword m 0, e.octaword m 16]
  m.drive command e.addr lanes data (data.map (checkBits c.ecc)) none false

/-- An entry of the write buffer is processed: cacheable data are written to the Scache, everything else is sent. -/
def Caches.send (c : CacheCfg) (e : WbEntry) (m : Caches) : Caches :=
  let a := (clearLow e.addr 5).toNat
  match e.kind with
  | .fetch => m.tell .fetch e.addr
  | .fetchM => m.tell .fetchM e.addr
  | .store =>
    bif e.addr.getLsbD 39 then m.sendOut c .writeBlock e
    else bif c.scForced then m.forceScache c a e.bytes
    else m.write c .modify a e.bytes e.before
  | .conditional =>
    bif e.addr.getLsbD 39 then m.sendOut c .writeBlockLock e
    else m.write c .conditional a e.bytes e.before

/-! ## Losing blocks -/

/-- What memory holds of n bytes that this processor has modified in its caches. -/
def Caches.memoryLongs (a n : Nat) (m : Caches) : Longs :=
  Longs.add (m.underScache.inside a n) (m.underBcache.inside a n)

end Sys2Proof.Machine
end

