-- ==== Sys2Proof/Machine/Maf.lean ====
section
/-!
DEFINITION. The miss address file (10_state.md R74; 20_memory.md R296, R333 to R335; 71_timing.md R1176) and the entries of the
write buffer on their way out. The value of a load is fixed when it enters, unless the arbiter is stopped (`State.resumed`); what
happens here is when the system sees its read.
-/

namespace Sys2Proof.Machine

/-! ## Changing the memory system -/

/-- A change of the memory system. Each fill of the Scache ANDs system_lock_flag_h into the lock flag (20_memory.md
R352 c). -/
def State.withMemSys (f : CacheCfg → MemSys → MemSys) (s : State) : State :=
  let m := f s.cacheCfg s.memsys
  { s with
    memsys := m
    lockFlag := s.lockFlag && (s.pins.systemLock || m.caches.fills == s.memsys.caches.fills) }

/-- A change of the caches. -/
def MemSys.onCaches (f : Caches → Caches) (m : MemSys) : MemSys := { m with caches := f m.caches }

/-! ## The read of a load -/

/-- The 32-byte block of a load. -/
def MafEntry.block (e : MafEntry) : PAddr := clearLow e.addr 5

/-- The command LOCK of a locked load that reads the Scache (21_external_interface.md R405): driven with
BC_CONTROL<EI_CMD_GRP2>, UNPREDICTABLE without (13_state_cbu_iprs.md R251), afresh for each. -/
def Caches.lockCommand (c : CacheCfg) (e : MafEntry) (m : Caches) : Caches :=
  let t := m.tell .lock e.addr
  bif !e.lock then m else { t with bus := bif c.group2 || Config.lockDriven m.driven then t.bus else m.bus }

/-- A load that misses the Dcache, in the caches. -/
def Caches.readLoad (c : CacheCfg) (e : MafEntry) (m : Caches) : Caches :=
  bif inCbu e.addr then m
  else bif e.addr.getLsbD 39 then m.drive (.readMiss .load) e.addr e.lanes [] [] none false
  else
    let a := e.addr.toNat
    let t := (bif c.scForced then m.see c a else m.access c .load a allLanes).lockCommand c e
    bif c.dcacheOn then t.fillDcache a (e.doubt || c.scForced) else t

/-! ## Loads that wait -/

/-- The first load that waits does so no more. -/
def acceptFirst : List MafEntry → List MafEntry
  | [] => []
  | e :: rest => bif e.waits then { e with waits := false, conflict := false } :: rest else e :: acceptFirst rest

/-- How many loads wait up to the last one that waits and satisfies a test. -/
def waitingThrough (p : MafEntry → Bool) : List MafEntry → Nat
  | [] => 0
  | e :: rest =>
    let n := waitingThrough p rest
    bif n != 0 then n + e.waits.toNat else (e.waits && p e).toNat

/-- The CBU accepts the first load that waits. -/
def MemSys.readFirst (c : CacheCfg) (m : MemSys) : MemSys :=
  match m.maf.find? (·.waits) with
  | none => m
  | some e =>
    { m with
      maf := acceptFirst m.maf
      caches := bif e.merged then m.caches else m.caches.readLoad { c with older := m.waiting } e }

/-- The first n loads that wait are accepted, in order (20_memory.md R335). -/
def MemSys.readThrough (c : CacheCfg) : Nat → MemSys → MemSys
  | 0, m => m
  | n + 1, m => MemSys.readThrough c n (m.readFirst c)

/-! ## Entries that leave the write buffer -/

/-- The 32-byte block of an entry (R336). -/
def WbEntry.block (e : WbEntry) : PAddr := clearLow e.addr 5

/-- An entry that has left the write buffer is sent, and completes; loads before it from its block go first (R334 d). -/
def MemSys.send (c : CacheCfg) (m : MemSys) (e : WbEntry) : MemSys :=
  let t := m.readThrough c (waitingThrough (fun l => !l.conflict && l.block == e.block) m.maf)
  t.onCaches (Caches.send { c with older := t.waiting } e)

/-- The oldest n entries are sent in order. -/
def MemSys.sendOldest (c : CacheCfg) : Nat → MemSys → MemSys
  | 0, m => m
  | n + 1, m =>
    match m.wb with
    | [] => m
    | e :: rest => MemSys.sendOldest c n (MemSys.send c { m with wb := rest } e)

/-- Every entry is sent. -/
def MemSys.sendAll (c : CacheCfg) (m : MemSys) : MemSys := m.sendOldest c m.wb.length

/-- How many entries stand up to the last one for a block of 32 bytes (R333). -/
def entriesThrough (block : Nat) : List WbEntry → Nat
  | [] => 0
  | e :: rest =>
    let n := entriesThrough block rest
    bif n != 0 || e.block.toNat == block then n + 1 else 0

/-! ## Loads that are accepted and return -/

/-- The first load that waits is accepted; a conflicting entry of the write buffer completes before (R333). -/
def MemSys.issueFirst (c : CacheCfg) (m : MemSys) : MemSys :=
  match m.maf.find? (·.waits) with
  | none => m
  | some e => (bif e.conflict then m.sendOldest c (entriesThrough e.block.toNat m.wb) else m).readFirst c

/-- The first n loads that wait are accepted. -/
def MemSys.issueThrough (c : CacheCfg) : Nat → MemSys → MemSys
  | 0, m => m
  | n + 1, m => MemSys.issueThrough c n (m.issueFirst c)

/-- The loads that satisfy a test return, with the others of their blocks. With the arbiter stopped those that the CBU has not
accepted stay (12_state_mtu_iprs.md R207). -/
def MemSys.finish (stopped : Bool) (c : CacheCfg) (p : MafEntry → Bool) (m : MemSys) : MemSys :=
  let q (e : MafEntry) : Bool := m.maf.any fun x => p x && x.block == e.block
  let t := bif stopped then m else m.issueThrough c (waitingThrough q m.maf)
  { t with maf := t.maf.filter fun e => !q e || (stopped && e.waits) }

/-- Every load returns. -/
def MemSys.returnAll (c : CacheCfg) (m : MemSys) : MemSys := m.finish false c (fun _ => true)

/-! ## Loads that enter -/

/-- The entries in use: a load that has merged has none of its own. -/
def MemSys.loadEntries (m : MemSys) : Nat := (m.maf.filter fun e => !e.merged).length

/-- Two loads read common bytes. -/
def MafEntry.overlaps (e x : MafEntry) : Bool :=
  Nat.blt e.addr.toNat (x.addr.toNat + x.size) && Nat.blt x.addr.toNat (e.addr.toNat + e.size)

/-- No entry is free for a load: all six are taken, or five for a load in pipe E1 (71_timing.md R1176). -/
def MemSys.full (e1 : Bool) (m : MemSys) : Bool := Nat.ble 6 m.loadEntries || (Nat.ble 5 m.loadEntries && e1)

/-- A load must wait: no entry is free, or one of them is for its bytes (R1176). -/
def MemSys.holdsUp (e1 : Bool) (e : MafEntry) (m : MemSys) : Bool := m.full e1 || m.maf.any e.overlaps

/-- The load that returns first to make room: the oldest, or with the arbiter stopped the oldest that the CBU has accepted. -/
def MemSys.oldest (stopped : Bool) (m : MemSys) : Option MafEntry := m.maf.find? fun e => !stopped || !e.waits

/-- The oldest loads return, n at most, until an entry is free: the replay trap comes again until then (R1176). -/
def MemSys.freeEntry (stopped e1 : Bool) (c : CacheCfg) : Nat → MemSys → MemSys
  | 0, m => m
  | n + 1, m =>
    bif m.full e1 then
      MemSys.freeEntry stopped e1 c n (m.finish stopped c fun x => (m.oldest stopped).any fun h => h.block == x.block)
    else m

/-- A load has come through: loads of its bytes have returned, and with no entry free the oldest ones (R1176). -/
def MemSys.makeWay (stopped e1 : Bool) (c : CacheCfg) (e : MafEntry) (m : MemSys) : MemSys :=
  let t := bif m.maf.any e.overlaps then m.finish stopped c e.overlaps else m
  t.freeEntry stopped e1 c t.maf.length

/-- The register is a floating-point one. -/
def RegSlot.isFp : RegSlot → Bool
  | .fp _ => true
  | .int _ => false
  | .shadow _ => false

/-- A noncacheable load may merge into an entry (20_memory.md R296): the entry waits, the same block, another INT8, quadwords,
one register file, and merging is not disabled (12_state_mtu_iprs.md R207). -/
def MafEntry.accepts (new e : MafEntry) : Bool :=
  e.waits && !e.merged && !inCbu e.addr && new.block == e.block && new.size == 8 && e.size == 8 &&
    (new.lanes.bits &&& e.lanes.bits) == 0 && new.slot.isFp == e.slot.isFp && !new.noMerge && !e.noMerge && !new.lock && !e.lock

/-- A load may wait for others to merge with it. -/
def MafEntry.mayMerge (e : MafEntry) : Bool := e.addr.getLsbD 39 && !inCbu e.addr && e.size == 8 && !e.noMerge && !e.lock

/-- The entry that a load merges into takes its lanes. -/
def joinFirst (new : MafEntry) : List MafEntry → List MafEntry
  | [] => []
  | e :: rest =>
    bif new.accepts e then { e with lanes := { e.lanes with bits := e.lanes.bits ||| new.lanes.bits } } :: rest
    else e :: joinFirst new rest

/-- A load misses: entries of the write buffer up to the last one for its 32 bytes complete first (R333), then the CBU accepts
it, or it waits to be merged. With MAF_MODE<MAF_ARB_DISABLE> nothing leaves (12_state_mtu_iprs.md R207). Cacheable loads do not
merge here (DESIGN CHOICE, log entry 38: it would show in the count of entries only). -/
def MemSys.miss (stopped : Bool) (c : CacheCfg) (e : MafEntry) (m : MemSys) : MemSys :=
  let e' := { e with waits := true, conflict := stopped && m.wb.any (·.block == e.block) }
  let t := bif stopped then m else m.sendOldest c (entriesThrough e.block.toNat m.wb)
  bif e.mayMerge && t.maf.any e.accepts then { t with maf := joinFirst e t.maf ++ [{ e' with merged := true }] }
  else
    let u := { t with maf := t.maf ++ [e'] }
    bif stopped || e.mayMerge then u else u.issueThrough c u.maf.length

end Sys2Proof.Machine
end

