-- ==== Sys2Proof/Machine/Translate.lean ====
section
/-!
DEFINITION. Address translation of data references and instruction fetches, and what a failing one records
(20_memory.md section 5).
-/

namespace Sys2Proof.Machine

/-! ## References -/

/-- A data reference (R327): its kind, length in bytes, options, address, and the fields MM_STAT takes from the instruction
(12_state_mtu_iprs.md R190). `hw` marks HW_LD and HW_ST, `masked` LDQ_U and STQ_U, whose low address bits are ignored too
(40_load_store.md R514, R524), `lock` a locked load. -/
structure DRef where
  write : Bool
  size : Nat
  phys : Bool := false
  alt : Bool := false
  wrtck : Bool := false
  vpte : Bool := false
  hw : Bool := false
  masked : Bool := false
  lock : Bool := false
  va : Quad
  ra : Reg
  opcode : BitVec 6
deriving DecidableEq, Repr

/-- What a failing reference sets in MM_STAT<05:00> (R190). -/
structure MmCause where
  badVa : Bool := false
  dtbMiss : Bool := false
  fow : Bool := false
  for_ : Bool := false
  acv : Bool := false
  wr : Bool
deriving DecidableEq, Repr

/-- The outcome of translating a data reference. -/
inductive Translation where
  | ok (pa : PAddr)
  /-- a PALcode entry with what MM_STAT records -/
  | trap (entry : Entry) (cause : MmCause)
  /-- the address is mapped more than once, with an UNDEFINED result (R313) -/
  | multiple
deriving DecidableEq, Repr

/-! ## Tests on the address -/

/-- How many low address bits an aligned access of n bytes has clear. -/
def alignBits : Nat → Nat
  | 2 => 1
  | 4 => 2
  | 8 => 3
  | _ => 0

/-- Natural alignment (R304). -/
def aligned (va : Quad) (n : Nat) : Bool := clearLow va (alignBits n) == va

/-- The sign check (R318): va<63:43> all equal to va<42>. -/
def signCheck (va : Quad) : Bool := (slice va 0 43).signExtend 64 == va

/-- va<42:41> = 2, the pattern of superpage 1 (R320). -/
def inSuperpage1 (va : Quad) : Bool := slice va 41 2 == 2

/-- va<42:30> = 1FFE hex, the pattern of superpage 0 (R321). -/
def inSuperpage0 (va : Quad) : Bool := slice va 30 13 == 0x1FFE

/-- The physical address of superpage 1 (R320) and of a reference with PHYS = 1 (R310): va<39:0>. -/
def superpage1 (va : Quad) : PAddr := slice va 0 40

/-- The physical address of superpage 0 (R321): va<29:0>. -/
def superpage0 (va : Quad) : PAddr := (slice va 0 30).setWidth 40

/-- Two page numbers agree above the low 3*GH bits (R312). -/
def samePage (gh : BitVec 2) (tag vpn : BitVec 30) : Bool := clearLow tag (3 * gh.toNat) == clearLow vpn (3 * gh.toNat)

/-- va<42:13>. -/
def vpnOf (va : Quad) : BitVec 30 := slice va 13 30

/-- The physical address on a hit (R312): PFN<26:3*GH>, then the low address bits. -/
def pagePa (gh : BitVec 2) (pfn : BitVec 27) (va : Quad) : PAddr :=
  clearLow (pfn ++ (0 : BitVec 13)) (13 + 3 * gh.toNat) |||
    (slice va 0 40 - clearLow (slice va 0 40) (13 + 3 * gh.toNat))

/-- One bit of a protection field, for a mode (R325). -/
def modeBit (field : BitVec 4) (mode : BitVec 2) : Bool := field.getLsbD mode.toNat

/-! ## Data references -/

/-- The TB hit test (R312) on a DTB entry. -/
def DtbEntry.hits (asn : BitVec 7) (vpn : BitVec 30) (e : DtbEntry) : Bool :=
  e.valid && samePage e.pte.gh e.tag vpn && (e.pte.asm || e.asn == asn)

/-- The page table entries of the DTB entries that an address hits. -/
def State.dtbHits (s : State) (va : Quad) : List DtbPte :=
  (s.mtu.dtb.filter (DtbEntry.hits s.mtu.dtbAsn (vpnOf va))).map (·.pte)

/-- The access mode of a data reference (R325). -/
def State.dataMode (s : State) (r : DRef) : BitVec 2 :=
  bif r.vpte then 0 else bif r.alt then s.mtu.altMode else s.mtu.dtbCm

/-- The protection and fault-on checks by an entry (R327), and the translation. -/
def checkDtb (r : DRef) (mode : BitVec 2) (p : DtbPte) : Translation :=
  let acv := bif r.write then !modeBit p.we mode else !modeBit p.re mode || (r.wrtck && !modeBit p.we mode)
  let for_ := p.fault_on_read && !r.write
  let fow := p.fault_on_write && (r.write || r.wrtck)
  bif acv || for_ || fow then .trap .dfault { acv := acv, for_ := for_, fow := fow, wr := r.write }
  else .ok (pagePa p.gh p.pfn r.va)

/-- The alignment and sign checks, which come after the DTB miss and before the protection checks (R327). -/
def afterMiss (r : DRef) (k : Translation) : Translation :=
  bif !r.hw && !r.masked && !aligned r.va r.size then .trap .unalign { wr := r.write }
  else bif !signCheck r.va then .trap .dfault { badVa := true, acv := true, wr := r.write }
  else k

/-- A virtual reference, R327 up to the physical address: the DTB miss, alignment, sign check, superpages, protection. -/
def State.translateVirtual (s : State) (r : DRef) : Translation :=
  let kernel := s.dataMode r == 0
  let sp1 := signCheck r.va && kernel && s.mtu.mcsr.getLsbD 2 && inSuperpage1 r.va
  let sp0 := signCheck r.va && kernel && s.mtu.mcsr.getLsbD 1 && inSuperpage0 r.va
  match s.dtbHits r.va with
  | [] =>
    bif signCheck r.va && !sp1 && !sp0 then
      .trap (bif r.vpte then .dtbmissDouble else .dtbmissSingle) { dtbMiss := true, wr := r.write }
    else afterMiss r (.ok (bif sp1 then superpage1 r.va else superpage0 r.va))
  | p :: rest =>
    afterMiss r
      (bif sp1 || sp0 || rest.any (· != p) then .multiple else checkDtb r (s.dataMode r) p)

/-- The low address bits that HW_LD and HW_ST (R305), LDQ_U and STQ_U ignore. -/
def DRef.paOf (r : DRef) (pa : PAddr) : PAddr := bif r.hw || r.masked then clearLow pa (alignBits r.size) else pa

/-- The last line of R327: with MCSR<M_BIG_ENDIAN> a longword access has bit 2 of its physical address inverted (R302). -/
def State.bigEndianPa (s : State) (n : Nat) (pa : PAddr) : PAddr :=
  bif s.mtu.mcsr.getLsbD 0 && n == 4 then pa ^^^ 4 else pa

/-- Translation of a data reference (R327). -/
def State.translate (s : State) (r : DRef) : Translation :=
  bif r.phys then .ok (s.bigEndianPa r.size (r.paOf (superpage1 r.va)))
  else match s.translateVirtual r with
    | .ok pa => .ok (s.bigEndianPa r.size (r.paOf pa))
    | t => t

/-- MM_STAT<16:00> for a failing reference (R190). -/
def mmStatOf (opcode : BitVec 6) (ra : Reg) (c : MmCause) : BitVec 17 :=
  opcode ++ ra ++ BitVec.ofBool c.badVa ++ BitVec.ofBool c.dtbMiss ++ BitVec.ofBool c.fow ++ BitVec.ofBool c.for_ ++
    BitVec.ofBool c.acv ++ BitVec.ofBool c.wr

/-- Loading VA, VA_FORM and MM_STAT, unless they are locked, and locking them (R190, R191). -/
def State.latchMm (s : State) (va : Quad) (stat : BitVec 17) : State :=
  bif s.mtu.mmLock then s else { s with mtu := { s.mtu with va := va, mmStat := stat, mmLock := true } }

/-- What a failing reference records (R327): of LDQ_U and STQ_U too the address before masking (60_exceptions.md R965;
40_load_store.md R514 takes the one after; DESIGN CHOICE, log entry 36). -/
def recordMm (r : DRef) (c : MmCause) (s : State) : State := s.latchMm r.va (mmStatOf r.opcode r.ra c)

/-! ## Instruction fetch -/

/-- The outcome of translating a fetch (R326). -/
inductive FetchTranslation where
  | ok (pa : PAddr)
  | itbmiss
  /-- IACCVIO; `form` says whether IFAULT_VA_FORM is loaded (R318: not for a sign check error) -/
  | iaccvio (form : Bool)
  | multiple
deriving DecidableEq, Repr

/-- The TB hit test (R312) on an ITB entry. -/
def ItbEntry.hits (asn : BitVec 7) (vpn : BitVec 30) (e : ItbEntry) : Bool :=
  e.valid && samePage e.pte.gh e.tag vpn && (e.pte.asm || e.asn == asn)

/-- The page table entries of the ITB entries that an address hits. -/
def State.itbHits (s : State) (va : Quad) : List ItbPte :=
  (s.idu.itb.filter (ItbEntry.hits s.idu.itbAsn (vpnOf va))).map (·.pte)

/-- Translation of a native-mode fetch (R326). In the ITB two entries for one address are UNDEFINED even when they are the
same (R313). -/
def State.translateFetch (s : State) (va : Quad) : FetchTranslation :=
  let sp1 := s.kernel && s.icsrBit 29 && inSuperpage1 va
  let sp0 := s.kernel && s.icsrBit 28 && inSuperpage0 va
  bif !signCheck va then .iaccvio false
  else match s.itbHits va with
    | [] => bif sp1 then .ok (superpage1 va) else bif sp0 then .ok (superpage0 va) else .itbmiss
    | p :: rest =>
      bif sp1 || sp0 || !rest.isEmpty then .multiple
      else bif !modeBit p.re s.idu.icm then .iaccvio true
      else .ok (pagePa p.gh p.pfn va)

/-- The content of IFAULT_VA_FORM for a faulting address (11_state_idu_iprs.md R128): the layout follows ICSR<SPE<0>>. -/
def State.vaFormOf (base : BitVec 34) (nt : Bool) (va : Quad) : Quad :=
  bif nt then place base 30 ||| place (slice va 13 19 : BitVec 19) 3
  else place (base.extractLsb' 3 31 : BitVec 31) 33 ||| place (vpnOf va) 3

/-- What ITBMISS and IACCVIO record: the faulting page in ITB_TAG (R120) and, with `form`, IFAULT_VA_FORM (R128). -/
def recordFetchFault (va : Quad) (form : Bool) (s : State) : State :=
  { s with idu := { s.idu with
      itbTag := vpnOf va
      ifaultVaForm := bif form then State.vaFormOf s.idu.ivptbr (s.icsrBit 28) va else s.idu.ifaultVaForm } }

end Sys2Proof.Machine
end

