-- ==== Sys2Proof/Machine/WriteBuffer.lean ====
section
/-!
DEFINITION. The write buffer (10_state.md R73; 20_memory.md R336 to R343), stores, barriers, and what the level below holds
when this processor's data are lost or another agent writes.
-/

namespace Sys2Proof.Machine

/-! ## The address on the bus -/

/-- With ICSR<BSE> the bits <38:37> of a noncacheable address do not reach the system as address: they carry the transfer
size (21_external_interface.md R399). -/
def State.busAddress (s : State) (pa : PAddr) : PAddr :=
  bif pa.getLsbD 39 && s.byteWordEnabled && !inCbu pa then pa &&& 0x9FFFFFFFFF else pa

/-- MAF_MODE<MAF_ARB_DISABLE>: loads that the CBU has not accepted and entries of the write buffer stay (12_state_mtu_iprs.md
R207). -/
def State.stopped (s : State) : Bool := s.mtu.mafMode.getLsbD 5

/-! ## Completing out of order -/

/-- Entry n may complete before the older ones (R334 b): it has no WMB flag, nor has one between (R343); noncacheable entries
keep their order (R335). -/
def mayComplete (n : Nat) (wb : List WbEntry) : Bool :=
  match wb[n]? with
  | none => false
  | some e => !((wb.take (n + 1)).drop 1).any (·.wmb) && !(e.addr.getLsbD 39 && (wb.take n).any (·.addr.getLsbD 39))

/-- Entry n completes, if it may. -/
def MemSys.complete (c : CacheCfg) (n : Nat) (m : MemSys) : MemSys :=
  match m.wb[n]? with
  | none => m
  | some e => bif mayComplete n m.wb then MemSys.send c { m with wb := m.wb.eraseIdx n } e else m

/-! ## Entering stores -/

/-- A store may merge into an entry (R336): the same block, and neither is marked no-merge or carries low address bits. Stores
of different sizes to noncacheable space merge, under the size of the first (DESIGN CHOICE, log entry 38). -/
def WbEntry.accepts (new e : WbEntry) : Bool :=
  new.kind == .store && e.kind == .store && e.block == new.block && !new.noMerge && !e.noMerge && !new.lanes.low &&
    !e.lanes.low

/-- The merged entry: the later data overwrite the earlier. -/
def WbEntry.merge (new e : WbEntry) : WbEntry :=
  { e with
    bytes := e.bytes ||| new.bytes
    data := (new.data &&& bitsOf new.bytes) ||| (e.data &&& ~~~bitsOf new.bytes)
    before := Longs.add new.before e.before }

/-- A free entry is there: with six, the oldest one has left, even if the new one would merge (71_timing.md R1176). -/
def MemSys.makeRoom (c : CacheCfg) (new : WbEntry) (m : MemSys) : MemSys :=
  bif Nat.ble 6 m.wb.length then
    let t := MemSys.sendOldest c 1 { m with wb := m.wb ++ [new] }
    { t with wb := t.wb.dropLast }
  else m

/-- The last entry for a block takes a store, if it accepts it: one behind it keeps its place (20_memory.md R334 b: stores to a
block are ordered). None where no entry takes it. -/
def mergeLast (new : WbEntry) : List WbEntry → Option (List WbEntry)
  | [] => none
  | e :: rest =>
    bif rest.any fun x => x.block == new.block then (mergeLast new rest).map (e :: ·)
    else bif new.accepts e then some (new.merge e :: rest)
    else (mergeLast new rest).map (e :: ·)

/-- A new entry enters: merged, or in a free entry. It carries the WMB flag after a WMB and behind another entry for its block.
-/
def MemSys.enter (c : CacheCfg) (new : WbEntry) (m : MemSys) : MemSys :=
  let t := m.makeRoom c new
  match mergeLast new t.wb with
  | some wb => { t with wb := wb }
  | none =>
    { t with
      wb := t.wb ++ [{ new with wmb := t.wmbNext || t.wb.any (fun e => e.block == new.block) }]
      wmbNext := false }

/-- The bytes of a 32-byte block that n bytes from an address are. -/
def bytesAt (a n : Nat) : BitVec 32 := ((BitVec.ofNat 32 (2 ^ n - 1)) <<< (a % 32))

/-- The lanes of a store of n bytes: to noncacheable space with ICSR<BSE> its transfer size, below four bytes with the low
address bits (21_external_interface.md R399); the INT4 mask is the entry's. -/
def State.storeLanes (s : State) (n : Nat) (pa : PAddr) : Lanes :=
  bif pa.getLsbD 39 && s.byteWordEnabled && Nat.blt n 8 then
    ⟨bif n == 1 then 3 else bif n == 2 then 2 else 1, Nat.ble n 2, (pa.extractLsb' 0 4).setWidth 8⟩
  else .mask 0

/-- A free value for each of these longwords. -/
def freeQuads (n : Nat) : List Nat → List (Nat × Quad)
  | [] => []
  | a :: rest => (a, Config.draw n) :: freeQuads (n + 1) rest

/-- A free longword for each of these addresses. -/
def freeLongs (n : Nat) (l : List Nat) : Longs := (freeQuads n l).map fun p => (p.1, p.2.setWidth 32)

/-- Longwords of which not every byte is known. -/
def Caches.unknownLongs (l : List Nat) (m : Caches) : List Nat := l.filter fun a => (bytesIn a 4).any m.poisoned.elem

/-- The bits of a longword of which nothing is known. -/
def Caches.unknownBits (a : Nat) (m : Caches) : Long :=
  BitVec.ofNat 32 ((bytesIn a 4).foldr (fun x v => 256 * v + 255 * (m.poisoned.elem x).toNat) 0)

/-- What the level below holds under a store that enters: what this processor reads, and free bytes where nothing is known
(93_implementation_defined.md U14; other ones than `State.noteUnknown` gives the Icache). -/
def State.beneath (s : State) (l : List Nat) : Longs :=
  let m := s.memsys.caches
  let free := freeQuads s.model.draws (m.unknownLongs l)
  l.map fun a =>
    let v := ((free.find? fun p => p.1 == a).map fun p => p.2.extractLsb' 32 32).getD 0
    (a, (v &&& m.unknownBits a) ||| (Memory.long s.mem a &&& ~~~m.unknownBits a))

/-- The entry of a store of the low 8n bits of v. Its address is its block, with low address bits that of 16 bytes (R400). -/
def State.wbEntryOf (s : State) (kind : WriteKind) (n : Nat) (pa : PAddr) (v : Quad) : WbEntry where
  kind := kind
  addr := clearLow pa (bif (s.storeLanes n pa).low then 4 else 5)
  bytes := bytesAt pa.toNat n
  data := (v.setWidth 256 <<< (8 * (pa.toNat % 32))) &&& bitsOf (bytesAt pa.toNat n)
  lanes := s.storeLanes n pa
  noMerge := kind != .store || s.mtu.mafMode.getLsbD 2
  wmb := false
  before := s.beneath (longsOf pa.toNat n)

/-- The Icache may keep unknown words where a store replaces longwords of which nothing is known. -/
def State.noteUnknown (s : State) (l : List Nat) : State :=
  let u := s.memsys.caches.unknownLongs l
  { s with model := { s.model with
      draws := s.model.draws + u.length
      stale := { s.model.stale with unbarriered := freeLongs s.model.draws u ++ s.model.stale.unbarriered } } }

/-- What a store changes in the caches before it leaves the write buffer: the bytes that it writes are known again; a Dcache
that is disabled or forced to hit does not follow it (12_state_mtu_iprs.md R205). -/
def State.storeSeen (s : State) (n : Nat) (pa : PAddr) (m : Caches) : Caches :=
  let m' := m.clean (within pa.toNat n)
  bif !s.mtu.dcMode.getLsbD 0 || s.mtu.dcMode.getLsbD 1 then m'.staleDcache pa.toNat else m'

/-- A store of the low 8n bits of v (20_memory.md R298, R336). -/
def State.stored (s : State) (n : Nat) (pa : PAddr) (v : Quad) : State :=
  let t := ((s.noteUnknown (longsOf pa.toNat n)).storeBytes pa.toNat n v).withMemSys fun c m =>
    (m.enter c (s.wbEntryOf .store n pa v)).onCaches (s.storeSeen n pa)
  { t with model := { t.model with afterMb := false } }

/-! ## Conditional stores (20_memory.md R354, R355) -/

/-- A conditional store reaches the caches or the bus, the entries before it having been sent; the Dcache copy of its block
goes. -/
def MemSys.sendConditional (c : CacheCfg) (e : WbEntry) (m : MemSys) : MemSys :=
  let t := m.send c e
  bif e.addr.getLsbD 39 then t else t.onCaches (·.dropDcache e.block.toNat 32)

/-- A conditional store that fails for its lock flag probes the Scache. -/
def MemSys.failConditional (c : CacheCfg) (e : WbEntry) (m : MemSys) : MemSys :=
  m.onCaches fun m => (m.probe c .dwrite false e.block.toNat).dropDcache e.block.toNat 32

/-! ## Barriers (R341 to R343) -/

/-- WMB (R343): no store merges into the entries before it, and the next entry carries the WMB flag. -/
def MemSys.writeBarrier (m : MemSys) : MemSys := { m with wb := m.wb.map (fun e => { e with noMerge := true }), wmbNext := true }

/-- MB in the memory system (R341): the outstanding loads are sent and return, the write buffer drains, and with
BC_CONTROL<EI_CMD_GRP3> the system is told; the address of that command is open (21_external_interface.md R408). -/
def MemSys.barrier (tell : Bool) (c : CacheCfg) (m : MemSys) : MemSys :=
  (m.returnAll c |>.sendAll c).onCaches fun m =>
    bif tell then m.tell .memoryBarrier (Config.undrivenAddress m.driven) else m

/-- What is owed after MB: one after the read of SC_STAT or EI_STAT (13_state_cbu_iprs.md R242). -/
def Owed.afterMb (o : Owed) : Owed :=
  { o with scExit := bif o.scExit == 1 then 0 else o.scExit, bcExit := bif o.bcExit == 1 then 0 else o.bcExit }

/-- MB in the model's own fields: what fetch may still return has passed an MB (20_memory.md R361); a store to a CBU control
register has its MB (13_state_cbu_iprs.md R242). -/
def Model.afterBarrier (k : Model) : Model :=
  { k with
    stale := { k.stale with unbarriered := [], barriered := k.stale.unbarriered ++ k.stale.barriered }
    owed := k.owed.afterMb
    afterMb := true
    cbuStore := false
    cbuQuiet := false }

/-- MB (R341). -/
def State.barrier (s : State) : State :=
  let t := s.withMemSys (MemSys.barrier (s.cbu.bcControl.getLsbD 3))
  { t with model := t.model.afterBarrier }

/-- A load or a HW_MFPR of an MTU register after an MB: the MB has completed (R342, R361). -/
def Model.carry (k : Model) : Model :=
  { k with stale := { k.stale with barriered := [], settled := k.stale.barriered ++ k.stale.settled } }

/-- FETCH and FETCH_M enter the write buffer with the address of their operand (R329, R336; 21_external_interface.md R406), a
free one when the translation fails. Both are checked as reads; in the CBU region, which is not on the bus, they send nothing;
and of I/O space under ICSR<BSE> the bits <38:37> are not sent as address (R399 over R406) (DESIGN CHOICE, log entry 38). They
are MTU instructions, so the last one is no longer an MB. -/
def State.hinted (s : State) (kind : WriteKind) (va : Quad) : State :=
  let r : DRef := { write := false, size := 1, va := va, ra := 31, opcode := 0x18 }
  let known := match s.translate r with
    | .ok pa => some pa
    | .trap _ _ => none
    | .multiple => none
  let pa := known.getD (slice s.drawValue 0 40)
  let e : WbEntry :=
    { kind := kind, addr := s.busAddress pa, bytes := 0, data := 0, lanes := allLanes, noMerge := true, wmb := false
      before := [] }
  let t := s.withMemSys fun c m => bif inCbu pa then m else m.enter c e
  { t with model := { t.model with
      draws := t.model.draws + (bif known.isSome then 0 else 1)
      afterMb := false } }

/-! ## The level below (20_memory.md R352, R360, R367) -/

/-- A byte of a longword replaced. -/
def setByte (w : Long) (k : Nat) (v : Byte) : Long := (w &&& ~~~((0xFF : Long) <<< (8 * k))) ||| (v.setWidth 32 <<< (8 * k))

/-- A byte replaced where its longword is listed. -/
def Longs.setByte (a : Nat) (v : Byte) (l : Longs) : Longs :=
  l.map fun p => bif p.1 == a / 4 * 4 then (p.1, Machine.setByte p.2 (a % 4) v) else p

/-- The entry writes a byte. -/
def WbEntry.writes (a : Nat) (e : WbEntry) : Bool := e.block.toNat == a / 32 * 32 && e.bytes.getLsbD (a % 32)

/-- A byte changes under the write buffer: under every entry up to the first that writes it. -/
def underWb (a : Nat) (v : Byte) : List WbEntry → List WbEntry
  | [] => []
  | e :: rest => { e with before := e.before.setByte a v } :: bif e.writes a then rest else underWb a v rest

/-- A store to a byte waits. -/
def MemSys.covers (m : MemSys) (a : Nat) : Bool := m.wb.any (WbEntry.writes a)

/-- The level below the write buffer holds a byte: this processor sees it unless a store to it waits. -/
def State.lowerByte (s : State) (a : Nat) (v : Byte) : State :=
  { s with
    mem := bif s.memsys.covers a then s.mem else Memory.write s.mem a v
    memsys := { s.memsys with wb := underWb a v s.memsys.wb } }

/-- A longword below the write buffer. -/
def State.belowLong (s : State) (a : Nat) : Long := s.cacheCfg.long a

/-- The longwords over which a store waits, as the level below has them: a fetch may read them there. -/
def State.belowWaiting (s : State) (l : List Nat) : Longs :=
  (l.filter fun a => (bytesIn a 4).any s.memsys.covers).map fun a => (a, s.belowLong a)

/-- Longwords change in the level below. The Icache may keep what was there, and what comes there under a waiting store
(R360). -/
def State.lowered (l : List Nat) (f : State → State) (s : State) : State :=
  let t := f { s with model := s.model.noteStale s.mem l }
  { t with model := { t.model with stale := { t.model.stale with
      unbarriered := t.belowWaiting l ++ t.model.stale.unbarriered } } }

/-- The level below holds a longword. -/
def State.lowerLong (s : State) (p : Nat × Long) : State :=
  s.lowered [p.1] fun s =>
    (((s.lowerByte p.1 (p.2.extractLsb' 0 8)).lowerByte (p.1 + 1) (p.2.extractLsb' 8 8)).lowerByte (p.1 + 2)
      (p.2.extractLsb' 16 8)).lowerByte (p.1 + 3) (p.2.extractLsb' 24 8)

/-- Modified data are lost: the level below shows. -/
def State.discard (l : Longs) (s : State) : State := l.foldl State.lowerLong s

end Sys2Proof.Machine
end

