-- ==== Sys2Proof/Machine/Cbu.lean ====
section
/-!
DEFINITION. The CBU registers, reached by loads and stores of physical addresses FF FFF0 0000 to FF FFFF FFFF
(13_state_cbu_iprs.md).
-/

namespace Sys2Proof.Machine

/-- The register at an address of the region (R240). -/
def cbuReg (pa : PAddr) : Option CbuReg :=
  match (pa.extractLsb' 0 20).toNat with
  | 0x000A8 => some .scCtl
  | 0x000E8 => some .scStat
  | 0x00188 => some .scAddr
  | 0x00128 => some .bcControl
  | 0x001C8 => some .bcConfig
  | 0x00108 => some .bcTagAddr
  | 0x00168 => some .eiStat
  | 0x00148 => some .eiAddr
  | 0x00068 => some .fillSyn
  | _ => none

/-- A value whose bits outside a mask are not given: they are a draw (93_implementation_defined.md U6). -/
def State.withFree (s : State) (known value : Quad) : Quad := (s.drawValue &&& ~~~known) ||| (value &&& known)

/-- The mask of v<lo+n-1:lo>. -/
def maskOf (lo n : Nat) : Quad := (BitVec.allOnes n).setWidth 64 <<< lo

/-! ## Reads -/

/-- EI_STAT has a correctable error bit set, and a hard error bit set (R263; tag parity errors are uncorrectable). -/
def Cbu.correctable (c : Cbu) : Bool := c.eiStat.getLsbD 3

/-- A hard error bit of EI_STAT is set (R263). -/
def Cbu.uncorrectable (c : Cbu) : Bool := (c.eiStat &&& 0x33) != 0

/-- Reading EI_STAT (R262, R263): with both kinds of error the correctable bit alone is cleared; otherwise everything is
cleared and unlocked. -/
def Cbu.readEiStat (c : Cbu) : Cbu :=
  bif c.correctable && c.uncorrectable then { c with eiStat := c.eiStat &&& 0xF7 }
  else { c with eiStat := 0, eiLocked := false, bcTagLocked := false }

/-- The bits of BC_TAG_ADDR that a Bcache of this size uses (R260): <38:12> less the low tag bits above <20>. -/
def Cbu.tagMask (c : Cbu) : Quad := maskOf 12 27 &&& ~~~maskOf 20 ((c.bcConfig.extractLsb' 0 3).toNat - 1)

/-- SC_ADDR as read (R248, R249): <38:04> are known; a lock that an earlier error has left stays on entering force hit mode, and
shows the locked address there too (DESIGN CHOICE, log entry 38: R249 does not say whether entering unlocks); of a line of force
hit mode that nothing has filled the valid bits alone, which are clear (70_reset_and_hazards.md R1086). -/
def State.scAddrRead (s : State) : Quad :=
  bif s.cbu.scLocked then s.withFree (maskOf 4 36) (place (s.cbu.scAddr.extractLsb' 0 39) 0)
  else match s.memsys.caches.scSeen with
    | some v => s.withFree (maskOf 4 36) (place (v.extractLsb' 0 39) 0)
    | none => s.withFree (maskOf 39 1 ||| maskOf 5 1 ||| maskOf 8 1) 0

/-- BC_TAG_ADDR as read (R260): <38:20> and <17:12> are known, unless a correctable error has come (93_implementation_defined.md
U8). -/
def State.bcTagRead (s : State) : Quad :=
  let known := maskOf 12 6 ||| maskOf 20 19
  bif s.cbu.bcTagLocked then s.withFree known (place s.cbu.bcTagAddr 12 &&& s.cbu.tagMask)
  else match s.memsys.caches.bcSeen with
    | some v => s.withFree known (place v 12 &&& s.cbu.tagMask)
    | none => s.withFree (maskOf 12 27 &&& ~~~s.cbu.tagMask) 0

/-- Reading SC_STAT clears and unlocks it, and is the read that leaving force hit mode asks for (R242, R246). -/
def State.scStatRead (s : State) : State :=
  { s with
    cbu := { s.cbu with scStat := 0, scLocked := false }
    memsys := s.memsys.onCaches fun m => { m with scSeen := bif s.cbu.scLocked then some s.cbu.scAddr else m.scSeen }
    model := { s.model with owed := { s.model.owed with
      scExit := bif s.model.owed.scExit == 2 then 1 else s.model.owed.scExit } } }

/-- Reading EI_STAT (R262), which may unlock BC_TAG_ADDR too. -/
def State.eiStatRead (s : State) : State :=
  { s.drawn with
    cbu := s.cbu.readEiStat
    memsys := s.memsys.onCaches fun m =>
      { m with bcSeen := bif s.cbu.bcTagLocked && !s.cbu.readEiStat.bcTagLocked then some s.cbu.bcTagAddr else m.bcSeen }
    model := { s.drawn.model with owed := { s.model.owed with
      bcExit := bif s.model.owed.bcExit == 2 then 1 else s.model.owed.bcExit } } }

/-- Reading a register: the value and the state after it; none for a write-only register (R241 f). -/
def State.cbuRead (s : State) : CbuReg → Option (Quad × State)
  | .scCtl => some (place s.cbu.scCtl 0, s)
  | .scStat => some (place s.cbu.scStat 0, s.scStatRead)
  | .scAddr => some (s.scAddrRead, s.drawn)
  | .bcControl => none
  | .bcConfig => none
  | .bcTagAddr => some (s.bcTagRead, s.drawn)
  | .eiStat => some (s.withFree (maskOf 24 12) (place (4 : BitVec 4) 24 ||| place s.cbu.eiStat 28), s.eiStatRead)
  | .eiAddr => some (s.withFree (maskOf 4 36) (place s.cbu.eiAddr 0), s.drawn)
  | .fillSyn => some (s.withFree (maskOf 0 16) (place s.cbu.fillSyn 0), s.drawn)

/-! ## Changes of the caches' configuration -/

/-- SC_CTL<SC_FLUSH> (20_memory.md R367): every valid bit of the Scache is cleared, and the data it held alone are lost. The
Dcache keeps its lines. -/
def State.scacheFlush (s : State) : State :=
  let t := s.discard s.memsys.caches.underScache
  { t with memsys := t.memsys.onCaches fun m =>
      { m with
        scache := m.scache.map fun l => { l with sub0 := { l.sub0 with valid := false }, sub1 := { l.sub1 with valid := false } }
        dcache := m.dcache.map fun l => { l with stale := true }
        underScache := [] } }

/-- A change of SC_SET_EN: what the sets hold that it turns off or on is no longer known (R243). -/
def Caches.changeSets (old new : BitVec 3) (m : Caches) : Caches :=
  m.poison ((m.scache.filter fun l => old.getLsbD l.set != new.getLsbD l.set).map (fun l => bytesIn l.base 64)).flatten

/-- A change of the Bcache's size, or turning it on or off: what it holds is no longer known (R251, R256). -/
def Caches.resize (old new : CacheCfg) (m : Caches) : Caches :=
  bif old.bcSize == new.bcSize then m
  else
    let held (c : CacheCfg) : List Nat :=
      ((m.bcache.filter (·.valid)).map fun l => bytesIn (l.base c) c.blockSize).flatten
    { (m.poison (held old ++ held new)).poisonLongs m.underBcache with underBcache := [] }

/-- The CBU registers change. -/
def State.withCbu (s : State) (c : Cbu) : State :=
  let t := { s with cbu := c }
  { t with memsys := t.memsys.onCaches (Caches.resize s.cacheCfg t.cacheCfg) }

/-! ## Writes -/

/-- SC_SET_EN names one set or all three (R243), one in force hit mode (R244). -/
def setsAllowed (n : BitVec 3) (forced : Bool) : Bool := n == 1 || n == 2 || n == 4 || (n == 7 && !forced)

/-- Storing to SC_CTL (R243 to R245). A change of SC_BLK_SIZE after the first cacheable transaction, which R243 forbids without
an effect, changes how blocks are counted from then on and nothing else: the lines of the Scache stay, and the entries of the
Bcache that have been written are read with the new block size (DESIGN CHOICE, log entry 38). -/
def State.writeScCtl (s : State) (v : Quad) : Result State :=
  bif slice v 16 3 != 0 then .refused .reservedBit
  else bif !setsAllowed (slice v 13 3) (bit v 0) then .refused .scacheSets
  else
    let t := s.withCbu { s.cbu with scCtl := slice v 0 19 }
    let u := { t with
      memsys := t.memsys.onCaches (Caches.changeSets (s.cbu.scCtl.extractLsb' 13 3) (slice v 13 3))
      model := { t.model with
        owed := { t.model.owed with scExit := bif s.cbu.scCtl.getLsbD 0 && !bit v 0 then 2 else t.model.owed.scExit }
        cbuQuiet := t.model.cbuQuiet || slice v 0 19 != s.cbu.scCtl } }
    .next (bif bit v 1 then u.scacheFlush else u)

/-- The bits of BC_CONTROL that may change while the Istream and the system go on: ALLOC_CYC, PM_MUX_SEL (R242). -/
def quietBits : BitVec 36 := 0x1F80002

/-- Storing to BC_CONTROL (R250 to R255). Entering force hit mode unlocks BC_TAG_ADDR (R260). -/
def State.writeBcControl (s : State) (v : Quad) : Result State :=
  bif bit v 25 || bit v 27 then .refused .reservedBit
  else
    let enters := bit v 7 && !s.cbu.bcControl.getLsbD 7
    let t := s.withCbu { s.cbu with bcControl := slice v 0 36, bcTagLocked := s.cbu.bcTagLocked && !enters }
    .next { t with
      memsys := t.memsys.onCaches fun m =>
        { m with bcSeen := bif enters && s.cbu.bcTagLocked then some s.cbu.bcTagAddr else m.bcSeen }
      model := { t.model with
        owed := { t.model.owed with bcExit := bif s.cbu.bcControl.getLsbD 7 && !bit v 7 then 2 else t.model.owed.bcExit }
        cbuQuiet := t.model.cbuQuiet || (slice v 0 36 ^^^ s.cbu.bcControl) &&& ~~~quietBits != 0 } }

/-- Storing to BC_CONFIG (R256). -/
def State.writeBcConfig (s : State) (v : Quad) : Result State :=
  bif bit v 3 || bit v 15 || bit v 19 then .refused .reservedBit
  else
    let t := s.withCbu { s.cbu with bcConfig := slice v 0 29 }
    .next { t with model := { t.model with cbuQuiet := t.model.cbuQuiet || slice v 0 29 != s.cbu.bcConfig } }

/-- Storing to a register: refused for a read-only one (R241 f). -/
def State.cbuWrite (s : State) (v : Quad) : CbuReg → Result State
  | .scCtl => s.writeScCtl v
  | .bcControl => s.writeBcControl v
  | .bcConfig => s.writeBcConfig v
  | .scStat => .refused .cbuAccess
  | .scAddr => .refused .cbuAccess
  | .bcTagAddr => .refused .cbuAccess
  | .eiStat => .refused .cbuAccess
  | .eiAddr => .refused .cbuAccess
  | .fillSyn => .refused .cbuAccess

/-! ## Access rules (R241, R242) -/

/-- A load from the region: an aligned quadword, not locked, BC_CONTROL<ALLOC_CYC> clear. -/
def cbuLoad (r : DRef) (pa : PAddr) (k : Quad → State → Result State) (s : State) : Result State :=
  match cbuReg pa with
  | none => .fault .undefinedCbuAddress
  | some reg =>
    bif r.size != 8 || r.lock then .refused .cbuAccess
    else bif s.cbu.bcControl.getLsbD 1 then .refused .cbuOrder
    else match s.cbuRead reg with
      | none => .refused .cbuAccess
      | some (v, t) => k v t

/-- A cacheable request of the Istream is outstanding. -/
def MemSys.istreamAsked (m : MemSys) : Bool := m.imaf.any fun a => !a.getLsbD 39

/-- A store to the region: an aligned quadword, not conditional, right after an MB; an MB must follow. One that changes more
than ALLOC_CYC, PM_MUX_SEL and DBG_MUX_SEL must not find a cacheable request of the Istream outstanding (R242). It does not
enter the write buffer (DESIGN CHOICE, log entry 38), but with MAF_MODE<MAF_ARB_DISABLE> it waits as one that did
(12_state_mtu_iprs.md R207). -/
def cbuStore (r : DRef) (pa : PAddr) (v : Quad) (k : State → Result State) (s : State) : Result State :=
  match cbuReg pa with
  | none => .fault .undefinedCbuAddress
  | some reg =>
    bif r.size != 8 || r.lock then .refused .cbuAccess
    else match s.cbuWrite v reg with
      | .next t =>
        bif !s.model.afterMb || (t.model.cbuQuiet && s.memsys.istreamAsked) then .refused .cbuOrder
        else bif s.stopped then
          k { s with model := { s.model with
            cbuStore := true, afterMb := false, cbuQuiet := t.model.cbuQuiet, cbuWaits := some (reg, v) } }
        else k { t with model := { t.model with cbuStore := true, afterMb := false } }
      | .fault f => .fault f
      | .refused f => .refused f

end Sys2Proof.Machine
end

