-- ==== Sys2Proof/Machine/Access.lean ====
section
/-!
DEFINITION. Loads, stores, locked loads and conditional stores (20_memory.md sections 2, 6 and 8; 40_load_store.md
R501, R502).
-/

namespace Sys2Proof.Machine

/-! ## What a load asks for -/

/-- int4_valid_h of a load (R397, R399): the INT8 that it is in, or with ICSR<BSE> below eight bytes the size and the low
address bits. -/
def State.loadLanes (s : State) (n : Nat) (pa : PAddr) : Lanes :=
  bif !pa.getLsbD 39 then allLanes
  else bif s.byteWordEnabled && Nat.blt n 8 then
    ⟨bif n == 1 then 3 else bif n == 2 then 2 else 1, true, (pa.extractLsb' 0 4).setWidth 8⟩
  else .mask (BitVec.ofNat 8 (2 ^ (pa.toNat / 8 % 4)))

/-! ## What a load finds -/

/-- The low 8n bits, zero-extended. -/
def lowBytes (n : Nat) (v : Quad) : Quad := v <<< (64 - 8 * n) >>> (64 - 8 * n)

/-- How a load meets the Dcache: it is forced to hit (12_state_mtu_iprs.md R205), it hits a line, it meets a line that nothing
has written since reset, or it misses. -/
inductive DcacheCase where
  | forced
  | hit (stale : Bool)
  | unknown
  | miss
deriving DecidableEq, Repr

/-- The bank of the Dcache that a load reads (71_timing.md R1164: either pipe, freely). -/
def State.loadBank (s : State) (pa : PAddr) : Bool := Config.loadReadsBank1 s.model.draws pa.toNat

/-- The line of a bank that an address indexes. -/
def Caches.dcLine (bank1 : Bool) (a : Nat) (m : Caches) : Option DcLine :=
  m.dcache.find? fun l => l.index == a / 32 % 256 && l.bank1 == bank1

/-- The Dcache case of a load. A locked load misses (20_memory.md R351), and one that conflicts with a fill (71_timing.md
R1170), both also in force hit mode (DESIGN CHOICE, log entries 38 and 45); noncacheable data are in no cache (R296). -/
def State.dcacheCase (s : State) (r : DRef) (pa : PAddr) : DcacheCase :=
  bif r.lock || s.model.missNext then .miss
  else bif s.mtu.dcMode.getLsbD 1 then .forced
  else bif pa.getLsbD 39 || !s.mtu.dcMode.getLsbD 0 then .miss
  else match s.memsys.caches.dcLine (s.loadBank pa) pa.toNat with
    | some l => bif l.holds pa.toNat then .hit l.stale else .miss
    | none => bif s.memsys.caches.dcacheFlushed then .miss else .unknown

/-- A load goes on to the Scache. -/
def DcacheCase.misses : DcacheCase → Bool
  | .forced => false
  | .hit _ => false
  | .unknown => true
  | .miss => true

/-- The data may not be those of memory. -/
def DcacheCase.doubtful : DcacheCase → Bool
  | .forced => true
  | .hit stale => stale
  | .unknown => true
  | .miss => false

/-! ## Dcache parity (12_state_mtu_iprs.md R195, R205; 61_errors.md R1037, R1038) -/

/-- The line's tag parity is not the one that a fill writes; looked at in valid lines (DESIGN CHOICE, log entry 38). -/
def DcLine.tagBad (l : DcLine) : Bool := l.valid != 0 && l.parity != (eparity l.tag != Config.dcacheTagParityOdd)

/-- The errors of a bank as bits of DC_PERR_STAT<05:02>: data parity of the bytes read, on a hit or a forced one, and tag
parity. -/
def DcLine.errors (forced : Bool) (a : Nat) (bytes : BitVec 32) (l : DcLine) : BitVec 4 :=
  ((bif (forced || l.holds a) && (l.bad &&& bytes) != 0 then 1 else 0) ||| (bif l.tagBad then 4 else 0)) <<< l.bank1.toNat

/-- The Dcache looks up a reference: a load in one bank, whose data it reads, a store in both (12_state_mtu_iprs.md R221). A
load that is forced to miss is not looked up (DESIGN CHOICE, log entry 45). -/
def State.dcacheErrors (s : State) (r : DRef) (pa : PAddr) (m : Caches) : BitVec 4 :=
  let a := pa.toNat
  let forced := s.mtu.dcMode.getLsbD 1
  let errors (bank1 : Bool) (bytes : BitVec 32) : BitVec 4 :=
    ((m.dcLine bank1 a).map (DcLine.errors forced a bytes)).getD 0
  bif r.lock || (s.model.missNext && !r.write) || !(s.mtu.dcMode.getLsbD 0 || forced) || (pa.getLsbD 39 && !forced) then 0
  else bif r.write then errors false 0 ||| errors true 0
  else errors (s.loadBank pa) (bytesAt a r.size)

/-- The destination of a load: bit 5 marks a floating-point register (opcodes 20 to 23). -/
def DRef.dest (r : DRef) : BitVec 6 := BitVec.ofBool (r.opcode.extractLsb' 2 4 == 8) ++ r.ra

/-- The errors that the lookup meets are posted, unless DC_MODE<DC_PERR_DISABLE> is set. -/
def State.dcacheChecked (s : State) (r : DRef) (pa : PAddr) (m : Caches) : Caches :=
  let errors := s.dcacheErrors r pa m
  m.post (bif s.mtu.dcMode.getLsbD 3 || errors == 0 then []
    else [.dcacheParity errors r.va r.write r.ra r.opcode (bif r.write then .int 31 else s.slotOf r.dest)])

/-- A store that hits writes the data parity of its bytes, bad with DC_MODE<DC_BAD_PARITY> (R205; of floating-point stores too:
DESIGN CHOICE, log entry 38). Forced to hit it writes the lines at its index, also those that nothing has written, also with
DC_ENA clear (DESIGN CHOICE, log entry 38: which of the two bits comes first is not stated), and also from a store to a CBU
register ("all Dstream references"). -/
def State.dcacheWritten (s : State) (r : DRef) (pa : PAddr) (m : Caches) : Caches :=
  let bytes := bytesAt pa.toNat r.size
  let index := pa.toNat / 32 % 256
  let forced := s.mtu.dcMode.getLsbD 1
  let spoils := s.mtu.dcMode.getLsbD 2
  let enabled := s.mtu.dcMode.getLsbD 0 && !pa.getLsbD 39
  let write (l : DcLine) : DcLine :=
    { l with bad := bif spoils then l.bad ||| bytes else l.bad &&& ~~~bytes, stale := l.stale || forced }
  let hits (l : DcLine) : Bool := l.index == index && (forced || (enabled && l.holds pa.toNat))
  let t := bif forced || (enabled && !m.dcacheFlushed) then m.listLines index else m
  { t with dcache := t.dcache.map fun l => bif hits l then write l else l }

/-! ## Loads in the memory system -/

/-- The bytes of a load that satisfy a test of their addresses. -/
def loadMask (size : Nat) (pa : PAddr) (p : Nat → Bool) : BitVec 8 :=
  BitVec.ofNat 8 ((List.range size).foldl (fun v k => v + (p (pa.toNat + k)).toNat * 2 ^ k) 0)

/-- A byte that a load reads comes from an older store: one that waits, or, unless the load waits as well, one in the Scache. -/
def State.ownByte (s : State) (a : Nat) : Bool :=
  s.memsys.covers a || (!s.stopped && s.memsys.caches.storedByte s.cacheCfg a)

/-- The miss address file's entry of a load. -/
def State.mafEntryOf (s : State) (r : DRef) (pa : PAddr) : MafEntry :=
  let slot := s.slotOf r.dest
  { slot := slot, addr := pa, size := r.size, opcode := r.opcode, lock := r.lock, pc := s.pc, old := s.readSlot slot
    lanes := s.loadLanes r.size pa, waits := false, conflict := false, merged := false
    noMerge := s.mtu.mafMode.getLsbD 0 || s.mtu.mafMode.getLsbD 3, doubt := (s.dcacheCase r pa).doubtful
    own := loadMask r.size pa s.ownByte }

/-- The load issues in pipe E1, where locked loads do not go (71_timing.md R1164). -/
def State.inE1 (s : State) (r : DRef) (pa : PAddr) : Bool := !r.lock && s.loadBank pa

/-- With MAF_MODE<MAF_ARB_DISABLE> a load waits that needs an entry, or the bytes of an outstanding load, that the CBU has not
accepted (12_state_mtu_iprs.md R207; 71_timing.md R1176). -/
def State.loadHeld (s : State) (r : DRef) (pa : PAddr) : Bool :=
  let e := s.mafEntryOf r pa
  s.stopped && (s.memsys.makeWay true (s.inE1 r pa) s.cacheCfg e).holdsUp (s.inE1 r pa) e

/-- A load in the memory system: it has come through the miss address file, looks up the Dcache, and if it misses is outstanding
(70_reset_and_hazards.md R1137). -/
def State.readMemSys (s : State) (r : DRef) (pa : PAddr) (e : MafEntry) (c : CacheCfg) (m : MemSys) : MemSys :=
  let t := (m.makeWay s.stopped (s.inE1 r pa) c e).onCaches (s.dcacheChecked r pa)
  bif (s.dcacheCase r pa).misses then t.miss s.stopped c e else t

/-- The data of a load are free as a whole (R332): a test mode, or a Dcache or Bcache that nothing has initialized. -/
def State.loadDoubtful (s : State) (r : DRef) (pa : PAddr) : Bool :=
  (s.dcacheCase r pa).doubtful || (s.cbu.scCtl.getLsbD 0 && !pa.getLsbD 39)

/-- Byte k of the data of a load is free: all are, or nothing is known of this one. -/
def State.byteFree (s : State) (r : DRef) (pa : PAddr) (after : Caches) (k : Nat) : Bool :=
  s.loadDoubtful r pa || after.poisoned.elem (pa.toNat + k)

/-- A byte of the data of a load is a draw. -/
def State.loadDrawn (s : State) (r : DRef) (pa : PAddr) (after : Caches) : Bool :=
  (List.range r.size).any (s.byteFree r pa after)

/-- The bits of the free bytes. -/
def State.freeMask (s : State) (r : DRef) (pa : PAddr) (after : Caches) : Quad :=
  BitVec.ofNat 64 ((List.range r.size).foldl (fun v k => v + (s.byteFree r pa after k).toNat * 255 * 256 ^ k) 0)

/-- The model's fields after a load. -/
def Model.afterLoad (k : Model) (draws : Nat) : Model :=
  { k.carry with draws := k.draws + draws, afterMb := false, missNext := false }

/-- The memory system after a load. -/
def State.read (s : State) (r : DRef) (pa : PAddr) : State := s.withMemSys (s.readMemSys r pa (s.mafEntryOf r pa))

/-- The data of a load, zero-extended (00_scope.md R29). -/
def State.loadData (s : State) (r : DRef) (pa : PAddr) : Quad :=
  let after := (s.read r pa).memsys.caches
  bif s.loadDrawn r pa after then
    (lowBytes r.size s.drawValue &&& s.freeMask r pa after) ||| (Memory.read s.mem pa.toNat r.size &&& ~~~s.freeMask r pa after)
  else Memory.read s.mem pa.toNat r.size

/-- The load reads the Scache in force hit mode: at once, or with MAF_MODE<MAF_ARB_DISABLE> when it arbitrates
(`State.resumed`). -/
def State.readsForced (s : State) (r : DRef) (pa : PAddr) : Bool :=
  !s.stopped && s.cbu.scCtl.getLsbD 0 && !pa.getLsbD 39 && (s.dcacheCase r pa).misses

/-- The parity bits of the longwords that an Scache read in force hit mode reads, each the exclusive OR of its four byte parity
bits (13_state_cbu_iprs.md R246), which SC_CTL<SC_FB_DP> leaves as it is since it inverts all four (R245): of the longwords that
a load returns that of the data; of the others free, as their data are (R332). -/
def forcedParity (size : Nat) (pa : PAddr) (v : Quad) (free : BitVec 8) : BitVec 8 :=
  let first := pa.toNat % 32 / 4
  let known : BitVec 8 := bif size == 8 then 3 <<< first else bif size == 4 then 1 <<< first else 0
  let longs : BitVec 2 := BitVec.ofBool (eparity (slice v 32 32)) ++ BitVec.ofBool (eparity (slice v 0 32))
  let parity : BitVec 8 := longs.setWidth 8 <<< first
  (parity &&& known) ||| (free &&& ~~~known)

/-- SC_STAT after an Scache read in force hit mode, which loads SC_DPERR unless an earlier error has locked it (R246). SC_CMD
keeps its value (DESIGN CHOICE, log entry 38: the rule does not say whether it is written). -/
def Cbu.forcedRead (c : Cbu) (parity : BitVec 8) : Cbu :=
  bif c.scLocked then c else { c with scStat := (c.scStat &&& 0x1F807) ||| (parity.setWidth 17 <<< 3) }

/-- The state after a load has read its data. One free value is drawn, needed or not, so that the next load chooses its pipe
afresh, and another for the parity bits. -/
def State.loaded (s : State) (r : DRef) (pa : PAddr) : State :=
  let t := s.read r pa
  let forced := s.readsForced r pa
  { t with
    cbu := bif forced then s.cbu.forcedRead (forcedParity r.size pa (s.loadData r pa) (slice s.drawn.drawValue 0 8)) else s.cbu
    model := s.model.afterLoad (1 + forced.toNat) }

/-- The state after a load from a CBU register, which enters the miss address file, waiting or not. -/
def State.noteCbuLoad (s : State) (r : DRef) (pa : PAddr) (t : State) : State :=
  let e := { s.mafEntryOf r pa with waits := s.stopped }
  let u := t.withMemSys fun c m =>
    let v := m.makeWay s.stopped (s.inE1 r pa) c e
    { v with maf := v.maf ++ [e] }
  { u with model := u.model.afterLoad 1 }

/-- A load from a CBU register. With MAF_MODE<MAF_ARB_DISABLE> the register is read when the load arbitrates (`State.resumed`),
and until then, where no instruction can see it, the destination holds the register's present value. -/
def State.cbuLoaded (s : State) (r : DRef) (pa : PAddr) (t : State) : State :=
  s.noteCbuLoad r pa (bif s.stopped then s else t)

/-! ## Refusals -/

/-- A byte or word access to noncacheable space while BC_CONTROL<DIS_B_W_IO> is set (13_state_cbu_iprs.md R251). -/
def State.byteWordIoOff (s : State) (n : Nat) (pa : PAddr) : Bool :=
  Nat.ble n 2 && pa.getLsbD 39 && s.cbu.bcControl.getLsbD 33

/-- A load that fills the Scache without a Bcache while BC_SIZE names no set (20_memory.md R367). -/
def State.flushUndefined (s : State) (r : DRef) (pa : PAddr) : Bool :=
  !pa.getLsbD 39 && [3, 5, 6, 7].elem s.cbu.bcSize && !s.cbu.bcOn && s.cbu.fillSet.isNone && !s.cbu.scCtl.getLsbD 0 &&
    (s.dcacheCase r pa).misses && (s.memsys.caches.scFind s.cacheCfg pa.toNat).isNone && !Config.bcacheFitted

/-- After SC_FHIT or BC_FHIT has been cleared no store may come before an MB, a read of SC_STAT or EI_STAT, and an MB
(13_state_cbu_iprs.md R242). -/
def Owed.storesHeld (o : Owed) : Bool := o.scExit != 0 || o.bcExit != 0

/-! ## Accesses at a physical address -/

/-- A load at a physical address. Forced to hit the Dcache (12_state_mtu_iprs.md R205) it reaches no CBU register. -/
def loadAt (r : DRef) (pa : PAddr) (k : Quad → State → Result State) (s : State) : Result State :=
  bif s.model.cbuStore then .refused .cbuOrder
  else bif s.loadHeld r (s.busAddress pa) then .next s
  else bif inCbu pa && (s.dcacheCase r pa).misses then cbuLoad r pa (fun v t => k v (s.cbuLoaded r pa t)) s
  else bif s.byteWordIoOff r.size pa then .refused .byteWordIo
  else bif s.flushUndefined r pa then .refused .flushSize
  else k (s.loadData r (s.busAddress pa)) (s.loaded r (s.busAddress pa))

/-- What the Dcache does with a store. -/
def State.dcacheStore (s : State) (r : DRef) (pa : PAddr) (t : State) : State :=
  { t with memsys := t.memsys.onCaches fun m => s.dcacheWritten r pa (s.dcacheChecked r pa m) }

/-- With MAF_MODE<MAF_ARB_DISABLE> a store waits while all six entries of the write buffer are taken (71_timing.md R1176). It
has been translated: a trap comes first (DESIGN CHOICE, log entry 38: R1176 does not order the two). -/
def State.storeHeld (s : State) : Bool := s.stopped && Nat.ble 6 s.memsys.wb.length

/-- A store at a physical address. -/
def storeAt (r : DRef) (pa : PAddr) (v : Quad) (k : State → Result State) (s : State) : Result State :=
  bif s.model.cbuStore || s.model.owed.storesHeld then .refused .cbuOrder
  else bif inCbu pa then cbuStore r pa v (fun t => k (s.dcacheStore r (s.busAddress pa) t)) s
  else bif s.byteWordIoOff r.size pa then .refused .byteWordIo
  else bif s.storeHeld then .next s
  else k (s.dcacheStore r (s.busAddress pa) (s.stored r.size (s.busAddress pa) v))

/-! ## Conditional stores (20_memory.md R354, R355) -/

/-- The state when the entries before a conditional store have left the write buffer. -/
def State.drained (s : State) : State := s.withMemSys MemSys.sendAll

/-- The block of a conditional store is there, or comes with its lock still set. -/
def State.lockHolds (s : State) (pa : PAddr) : Bool :=
  s.pins.systemLock || (s.memsys.caches.scFind s.cacheCfg pa.toNat).isSome

/-- Whether a conditional store succeeds: the lock flag in cacheable space; in noncacheable space the flag is ignored and the
system answers, freely. -/
def State.condSucceeds (s : State) (pa : PAddr) : Bool :=
  bif pa.getLsbD 39 then s.drawChoice else s.drained.lockFlag && s.drained.lockHolds pa

/-- The memory system after a conditional store: sent if it is noncacheable or succeeds; a failing one that its lock flag does
not fail at once has read its block. -/
def MemSys.conditional (ok flag : Bool) (e : WbEntry) (c : CacheCfg) (m : MemSys) : MemSys :=
  bif e.addr.getLsbD 39 || ok then m.sendConditional c e
  else bif flag then m.onCaches fun m => (m.access c .conditional e.block.toNat allLanes).dropDcache e.block.toNat 32
  else m.failConditional c e

/-- Memory after a conditional store that succeeds. -/
def State.condWritten (s : State) (ok : Bool) (n : Nat) (pa : PAddr) (v : Quad) : State :=
  bif ok then (s.noteUnknown (longsOf pa.toNat n)).storeBytes pa.toNat n v else s

/-- The state after a conditional store (R352 a, R354): it updates the Dcache as any store, which is undone; the entries before
it leave the write buffer; it is done if it succeeds, and the lock flag is cleared. -/
def State.condStored (s : State) (r : DRef) (pa : PAddr) (v : Quad) : State :=
  let ok := s.condSucceeds pa
  let u := (s.dcacheStore r pa s).drained
  let d := bif pa.getLsbD 39 then u.drawn else u
  let t := (d.condWritten ok r.size pa v).withMemSys (MemSys.conditional ok d.lockFlag (d.wbEntryOf .conditional r.size pa v))
  { t with
    lockFlag := false
    memsys := t.memsys.onCaches fun m => bif ok then s.storeSeen r.size pa m else m
    model := { t.model with afterMb := false } }

/-- A conditional store at a physical address; `k` receives whether it succeeded. In a force hit mode there is none to
cacheable space (13_state_cbu_iprs.md R242). With MAF_MODE<MAF_ARB_DISABLE> it cannot leave the write buffer, and waits
(12_state_mtu_iprs.md R207). -/
def condAt (r : DRef) (pa : PAddr) (v : Quad) (k : Bool → State → Result State) (s : State) : Result State :=
  bif s.model.cbuStore || s.model.owed.storesHeld then .refused .cbuOrder
  else bif inCbu pa then cbuStore { r with lock := true } pa v (fun t => .next t) s
  else bif !pa.getLsbD 39 && (s.cacheCfg.scForced || s.cacheCfg.bcForced) then .refused .cbuOrder
  else bif s.stopped then .next s
  else k (s.condSucceeds (s.busAddress pa)) (s.condStored r (s.busAddress pa) v)

/-- Setting the lock (R351). -/
def State.setLock (s : State) (pa : PAddr) : State := { s with lockFlag := true, lockPa := pa }

/-- A locked load sets the lock when it reads the Scache or is filled (R351): at once, or with MAF_MODE<MAF_ARB_DISABLE> when it
arbitrates (`State.resumed`). -/
def State.locks (s : State) (pa : PAddr) : State := bif s.stopped then s else s.setLock pa

/-! ## Translated accesses -/

/-- Translate, or take the exception that translation raises (R327), or stop where the spec calls it UNDEFINED (R313). -/
def translated (r : DRef) (k : PAddr → State → Result State) (s : State) : Result State :=
  match s.translate r with
  | .ok pa => k pa s
  | .trap e c => .next (takeEntry e (recordMm r c) s)
  | .multiple => .fault .multipleTbMatch

/-- "MemRead" (00_scope.md R29; R501 step 3). -/
def load (r : DRef) (k : Quad → State → Result State) (s : State) : Result State :=
  translated r (fun pa => loadAt r pa k) s

/-- A locked load (R351): the lock is set when the read is made, after what its own fill does to the lock flag (R352 c; DESIGN
CHOICE, log entry 38: the order is not stated). -/
def loadLocked (r : DRef) (k : Quad → State → Result State) (s : State) : Result State :=
  translated r (fun pa => loadAt r pa (fun v t => k v (t.locks pa))) s

/-- "MemWrite" (00_scope.md R29; R502 step 4). -/
def store (r : DRef) (v : Quad) (k : State → Result State) (s : State) : Result State :=
  translated r (fun pa => storeAt r pa v k) s

/-- A conditional store (40_load_store.md R525). -/
def storeConditional (r : DRef) (v : Quad) (k : Bool → State → Result State) (s : State) : Result State :=
  translated r (fun pa => condAt r pa v k) s

end Sys2Proof.Machine
end

