-- ==== Sys2Proof/Machine/LoadStore.lean ====
section
/-!
DEFINITION. The load and store instructions (40_load_store.md).
-/

namespace Sys2Proof.Machine

/-- The reference of a load of n bytes (R501). -/
def loadRef (opcode : BitVec 6) (n : Nat) (ra rb : Reg) (disp : BitVec 16) (s : State) : DRef :=
  { write := false, size := n, va := s.address rb disp, ra := ra, opcode := opcode }

/-- The reference of a store of n bytes (R502). -/
def storeRef (opcode : BitVec 6) (n : Nat) (ra rb : Reg) (disp : BitVec 16) (s : State) : DRef :=
  { write := true, size := n, va := s.address rb disp, ra := ra, opcode := opcode }

/-- The reference of a locked load: forced to miss the Dcache (20_memory.md R351). -/
def lockedRef (opcode : BitVec 6) (n : Nat) (ra rb : Reg) (disp : BitVec 16) (s : State) : DRef :=
  { loadRef opcode n ra rb disp s with lock := true }

/-- A reference whose low three address bits are ignored (R514, R524); traps record them (60_exceptions.md R965 over R514:
DESIGN CHOICE, log entry 36). -/
def DRef.unaligned (r : DRef) : DRef := { r with masked := true }

/-- The low longword, sign-extended (R512). -/
def sextLong (v : Quad) : Quad := (v.setWidth 32).signExtend 64

/-! ## Addresses -/

/-- LDA (R505). -/
def execLda (ra rb : Reg) (disp : BitVec 16) (s : State) : Result State :=
  (s.writeReg ra (s.address rb disp)).done

/-- LDAH (R506). -/
def execLdah (ra rb : Reg) (disp : BitVec 16) (s : State) : Result State :=
  (s.writeReg ra (s.readReg rb + (disp.signExtend 64 <<< 16))).done

/-! ## Integer loads -/

/-- LDBU (R510). -/
def execLdbu (ra rb : Reg) (disp : BitVec 16) (s : State) : Result State :=
  whenByteWord (load (loadRef 0x0A 1 ra rb disp s) fun m t => (t.writeReg ra m).done) s

/-- LDWU (R511). -/
def execLdwu (ra rb : Reg) (disp : BitVec 16) (s : State) : Result State :=
  whenByteWord (load (loadRef 0x0C 2 ra rb disp s) fun m t => (t.writeReg ra m).done) s

/-- LDL (R512). -/
def execLdl (ra rb : Reg) (disp : BitVec 16) (s : State) : Result State :=
  load (loadRef 0x28 4 ra rb disp s) (fun m t => (t.writeReg ra (sextLong m)).done) s

/-- LDQ (R513). -/
def execLdq (ra rb : Reg) (disp : BitVec 16) (s : State) : Result State :=
  load (loadRef 0x29 8 ra rb disp s) (fun m t => (t.writeReg ra m).done) s

/-- LDQ_U (R514): with Ra = 31 no operation (R504). -/
def execLdqU (ra rb : Reg) (disp : BitVec 16) (s : State) : Result State :=
  bif ra == 31 then s.done
  else load (loadRef 0x0B 8 ra rb disp s).unaligned (fun m t => (t.writeReg ra m).done) s

/-- LDL_L (R515). -/
def execLdlL (ra rb : Reg) (disp : BitVec 16) (s : State) : Result State :=
  loadLocked (lockedRef 0x2A 4 ra rb disp s) (fun m t => (t.writeReg ra (sextLong m)).done) s

/-- LDQ_L (R516). -/
def execLdqL (ra rb : Reg) (disp : BitVec 16) (s : State) : Result State :=
  loadLocked (lockedRef 0x2B 8 ra rb disp s) (fun m t => (t.writeReg ra m).done) s

/-! ## Integer stores -/

/-- STB (R520). -/
def execStb (ra rb : Reg) (disp : BitVec 16) (s : State) : Result State :=
  whenByteWord (store (storeRef 0x0E 1 ra rb disp s) (s.readReg ra) State.done) s

/-- STW (R521). -/
def execStw (ra rb : Reg) (disp : BitVec 16) (s : State) : Result State :=
  whenByteWord (store (storeRef 0x0D 2 ra rb disp s) (s.readReg ra) State.done) s

/-- STL (R522). -/
def execStl (ra rb : Reg) (disp : BitVec 16) (s : State) : Result State :=
  store (storeRef 0x2C 4 ra rb disp s) (s.readReg ra) State.done s

/-- STQ (R523). -/
def execStq (ra rb : Reg) (disp : BitVec 16) (s : State) : Result State :=
  store (storeRef 0x2D 8 ra rb disp s) (s.readReg ra) State.done s

/-- STQ_U (R524). -/
def execStqU (ra rb : Reg) (disp : BitVec 16) (s : State) : Result State :=
  store (storeRef 0x0F 8 ra rb disp s).unaligned (s.readReg ra) State.done s

/-- STL_C (R525). -/
def execStlC (ra rb : Reg) (disp : BitVec 16) (s : State) : Result State :=
  storeConditional (storeRef 0x2E 4 ra rb disp s) (s.readReg ra)
    (fun ok t => (t.writeReg ra (quadOfBool ok)).done) s

/-- STQ_C (R526). -/
def execStqC (ra rb : Reg) (disp : BitVec 16) (s : State) : Result State :=
  storeConditional (storeRef 0x2F 8 ra rb disp s) (s.readReg ra)
    (fun ok t => (t.writeReg ra (quadOfBool ok)).done) s

/-! ## Floating-point loads and stores (R540) -/

/-- LDF (R530). -/
def execLdf (fa rb : Reg) (disp : BitVec 16) (s : State) : Result State :=
  whenFp (load (loadRef 0x20 4 fa rb disp s) fun m t => (t.writeFreg fa (loadF (m.setWidth 32))).done) s

/-- LDG (R531). -/
def execLdg (fa rb : Reg) (disp : BitVec 16) (s : State) : Result State :=
  whenFp (load (loadRef 0x21 8 fa rb disp s) fun m t => (t.writeFreg fa (swapG m)).done) s

/-- LDS (R532). -/
def execLds (fa rb : Reg) (disp : BitVec 16) (s : State) : Result State :=
  whenFp (load (loadRef 0x22 4 fa rb disp s) fun m t => (t.writeFreg fa (loadS (m.setWidth 32))).done) s

/-- LDT (R533). -/
def execLdt (fa rb : Reg) (disp : BitVec 16) (s : State) : Result State :=
  whenFp (load (loadRef 0x23 8 fa rb disp s) fun m t => (t.writeFreg fa m).done) s

/-- STF (R534). -/
def execStf (fa rb : Reg) (disp : BitVec 16) (s : State) : Result State :=
  whenFp (store (storeRef 0x24 4 fa rb disp s) ((storeF (s.readFreg fa)).setWidth 64) State.done) s

/-- STG (R535). -/
def execStg (fa rb : Reg) (disp : BitVec 16) (s : State) : Result State :=
  whenFp (store (storeRef 0x25 8 fa rb disp s) (swapG (s.readFreg fa)) State.done) s

/-- STS (R536). -/
def execSts (fa rb : Reg) (disp : BitVec 16) (s : State) : Result State :=
  whenFp (store (storeRef 0x26 4 fa rb disp s) ((storeS (s.readFreg fa)).setWidth 64) State.done) s

/-- STT (R537). -/
def execStt (fa rb : Reg) (disp : BitVec 16) (s : State) : Result State :=
  whenFp (store (storeRef 0x27 8 fa rb disp s) (s.readFreg fa) State.done) s

end Sys2Proof.Machine
end

