-- ==== Sys2Proof/Machine/Logical.lean ====
section
/-!
DEFINITION. Logical, conditional move, shift and byte instructions, AMASK and IMPLVER (43_logical_shift_byte.md).
-/

namespace Sys2Proof.Machine

/-! ## Logical (R652 to R657) -/

/-- AND (R652). -/
def execAnd (ra : Reg) (b : Operand) (rc : Reg) (s : State) : Result State :=
  operate (· &&& ·) ra b rc s

/-- BIC (R653). -/
def execBic (ra : Reg) (b : Operand) (rc : Reg) (s : State) : Result State :=
  operate (fun x y => x &&& ~~~y) ra b rc s

/-- BIS (R654). -/
def execBis (ra : Reg) (b : Operand) (rc : Reg) (s : State) : Result State :=
  operate (· ||| ·) ra b rc s

/-- ORNOT (R655). -/
def execOrnot (ra : Reg) (b : Operand) (rc : Reg) (s : State) : Result State :=
  operate (fun x y => x ||| ~~~y) ra b rc s

/-- XOR (R656). -/
def execXor (ra : Reg) (b : Operand) (rc : Reg) (s : State) : Result State :=
  operate (· ^^^ ·) ra b rc s

/-- EQV (R657). -/
def execEqv (ra : Reg) (b : Operand) (rc : Reg) (s : State) : Result State :=
  operate (fun x y => x ^^^ ~~~y) ra b rc s

/-! ## Conditional moves (R660 to R668) -/

/-- A conditional move (R660): R[Rc] keeps its value when the condition on R[Ra] is false. -/
def moveIf (cond : Quad → Bool) (ra : Reg) (b : Operand) (rc : Reg) (s : State) : Result State :=
  (bif cond (s.readReg ra) then s.writeReg rc (s.operand b) else s).done

/-- CMOVEQ (R661). -/
def execCmoveq (ra : Reg) (b : Operand) (rc : Reg) (s : State) : Result State :=
  moveIf (· == 0) ra b rc s

/-- CMOVNE (R662). -/
def execCmovne (ra : Reg) (b : Operand) (rc : Reg) (s : State) : Result State :=
  moveIf (· != 0) ra b rc s

/-- CMOVLT (R663). -/
def execCmovlt (ra : Reg) (b : Operand) (rc : Reg) (s : State) : Result State :=
  moveIf isNegative ra b rc s

/-- CMOVLE (R664). -/
def execCmovle (ra : Reg) (b : Operand) (rc : Reg) (s : State) : Result State :=
  moveIf (fun x => isNegative x || x == 0) ra b rc s

/-- CMOVGT (R665). -/
def execCmovgt (ra : Reg) (b : Operand) (rc : Reg) (s : State) : Result State :=
  moveIf (fun x => !isNegative x && x != 0) ra b rc s

/-- CMOVGE (R666). -/
def execCmovge (ra : Reg) (b : Operand) (rc : Reg) (s : State) : Result State :=
  moveIf (fun x => !isNegative x) ra b rc s

/-- CMOVLBS (R667). -/
def execCmovlbs (ra : Reg) (b : Operand) (rc : Reg) (s : State) : Result State :=
  moveIf (fun x => bit x 0) ra b rc s

/-- CMOVLBC (R668). -/
def execCmovlbc (ra : Reg) (b : Operand) (rc : Reg) (s : State) : Result State :=
  moveIf (fun x => !bit x 0) ra b rc s

/-! ## AMASK and IMPLVER (R716, R717) -/

/-- AMASK (R716). -/
def execAmask (b : Operand) (rc : Reg) (s : State) : Result State :=
  (s.writeReg rc (s.operand b &&& ~~~Config.amaskFeatures)).done

/-- IMPLVER (R717). -/
def execImplver (rc : Reg) (s : State) : Result State := (s.writeReg rc Config.implverValue).done

/-! ## Shifts (R670 to R672) -/

/-- The shift count b<5:0>. -/
def shiftCount (b : Quad) : Nat := (slice b 0 6).toNat

/-- SLL (R670). -/
def execSll (ra : Reg) (b : Operand) (rc : Reg) (s : State) : Result State :=
  operate (fun x y => x <<< shiftCount y) ra b rc s

/-- SRL (R671). -/
def execSrl (ra : Reg) (b : Operand) (rc : Reg) (s : State) : Result State :=
  operate (fun x y => x >>> shiftCount y) ra b rc s

/-- SRA (R672). -/
def execSra (ra : Reg) (b : Operand) (rc : Reg) (s : State) : Result State :=
  operate (fun x y => x.sshiftRight (shiftCount y)) ra b rc s

/-! ## Byte manipulation (R680 to R690) -/

/-- The quadword whose byte i is all ones where m<i> is 1. -/
def byteMask (m : BitVec 8) : Quad :=
  let half (n : Nat) : BitVec 8 := bif m.getLsbD n then 0xFF else 0
  half 7 ++ half 6 ++ half 5 ++ half 4 ++ half 3 ++ half 2 ++ half 1 ++ half 0

/-- BYTE_ZAP (R680). -/
def byteZap (v : Quad) (m : BitVec 8) : Quad := v &&& ~~~byteMask m

/-- The byte offset s (R680, R690): b<2:0>, inverted when MCSR<E_BIG_ENDIAN> is set. A new bit counts at once: the delays that
R690 mentions have no row for these instructions in Table 5-37 (DESIGN CHOICE, unsafe, log entry 42). -/
def State.byteOffset (s : State) (b : Quad) : BitVec 3 :=
  bif s.mtu.mcsr.getLsbD 4 then slice b 0 3 ^^^ 7 else slice b 0 3

/-- The 16-bit byte mask bm (R680) of a datum with SIZEMASK `size` at an offset. -/
def offsetMask (size : BitVec 8) (off : BitVec 3) : BitVec 16 := size.setWidth 16 <<< off.toNat

/-- The shift count (64 - 8*s) mod 64 of the high forms. -/
def highShift (off : BitVec 3) : Nat := (64 - 8 * off.toNat) % 64

/-- EXTxL (section 7). -/
def extractLow (size : BitVec 8) (a : Quad) (off : BitVec 3) : Quad := byteZap (a >>> (8 * off.toNat)) (~~~size)

/-- EXTxH. -/
def extractHigh (size : BitVec 8) (a : Quad) (off : BitVec 3) : Quad := byteZap (a <<< highShift off) (~~~size)

/-- INSxL (section 8). -/
def insertLow (size : BitVec 8) (a : Quad) (off : BitVec 3) : Quad :=
  byteZap (a <<< (8 * off.toNat)) (~~~(offsetMask size off).extractLsb' 0 8)

/-- INSxH. -/
def insertHigh (size : BitVec 8) (a : Quad) (off : BitVec 3) : Quad :=
  byteZap (a >>> highShift off) (~~~(offsetMask size off).extractLsb' 8 8)

/-- MSKxL (section 9). -/
def maskLow (size : BitVec 8) (a : Quad) (off : BitVec 3) : Quad := byteZap a ((offsetMask size off).extractLsb' 0 8)

/-- MSKxH. -/
def maskHigh (size : BitVec 8) (a : Quad) (off : BitVec 3) : Quad := byteZap a ((offsetMask size off).extractLsb' 8 8)

/-- CMPBGE (R681): bit i says whether byte i of a is at least byte i of b. -/
def compareBytes (a b : Quad) : Quad :=
  let ge (i : Nat) : Quad := quadOfBool ((slice b (8 * i) 8).ule (slice a (8 * i) 8)) <<< i
  ge 0 ||| ge 1 ||| ge 2 ||| ge 3 ||| ge 4 ||| ge 5 ||| ge 6 ||| ge 7

/-- An extract, insert or mask instruction: SIZEMASK 01, 03, 0F, FF for B, W, L, Q. -/
def byteOp (f : BitVec 8 → Quad → BitVec 3 → Quad) (size : BitVec 8) (ra : Reg) (b : Operand) (rc : Reg) (s : State) :
    Result State :=
  operate (fun x y => f size x (s.byteOffset y)) ra b rc s

/-- CMPBGE (R681). -/
def execCmpbge (ra : Reg) (b : Operand) (rc : Reg) (s : State) : Result State :=
  operate compareBytes ra b rc s

/-- ZAP (R682). -/
def execZap (ra : Reg) (b : Operand) (rc : Reg) (s : State) : Result State :=
  operate (fun x y => byteZap x (slice y 0 8)) ra b rc s

/-- ZAPNOT (R683). -/
def execZapnot (ra : Reg) (b : Operand) (rc : Reg) (s : State) : Result State :=
  operate (fun x y => byteZap x (~~~(slice y 0 8))) ra b rc s

/-- EXTBL (R691). -/
def execExtbl (ra : Reg) (b : Operand) (rc : Reg) (s : State) : Result State :=
  byteOp extractLow 0x01 ra b rc s

/-- EXTWL (R692). -/
def execExtwl (ra : Reg) (b : Operand) (rc : Reg) (s : State) : Result State :=
  byteOp extractLow 0x03 ra b rc s

/-- EXTLL (R693). -/
def execExtll (ra : Reg) (b : Operand) (rc : Reg) (s : State) : Result State :=
  byteOp extractLow 0x0F ra b rc s

/-- EXTQL (R694). -/
def execExtql (ra : Reg) (b : Operand) (rc : Reg) (s : State) : Result State :=
  byteOp extractLow 0xFF ra b rc s

/-- EXTWH (R695). -/
def execExtwh (ra : Reg) (b : Operand) (rc : Reg) (s : State) : Result State :=
  byteOp extractHigh 0x03 ra b rc s

/-- EXTLH (R696). -/
def execExtlh (ra : Reg) (b : Operand) (rc : Reg) (s : State) : Result State :=
  byteOp extractHigh 0x0F ra b rc s

/-- EXTQH (R697). -/
def execExtqh (ra : Reg) (b : Operand) (rc : Reg) (s : State) : Result State :=
  byteOp extractHigh 0xFF ra b rc s

/-- INSBL (R698). -/
def execInsbl (ra : Reg) (b : Operand) (rc : Reg) (s : State) : Result State :=
  byteOp insertLow 0x01 ra b rc s

/-- INSWL (R699). -/
def execInswl (ra : Reg) (b : Operand) (rc : Reg) (s : State) : Result State :=
  byteOp insertLow 0x03 ra b rc s

/-- INSLL (R700). -/
def execInsll (ra : Reg) (b : Operand) (rc : Reg) (s : State) : Result State :=
  byteOp insertLow 0x0F ra b rc s

/-- INSQL (R701). -/
def execInsql (ra : Reg) (b : Operand) (rc : Reg) (s : State) : Result State :=
  byteOp insertLow 0xFF ra b rc s

/-- INSWH (R702). -/
def execInswh (ra : Reg) (b : Operand) (rc : Reg) (s : State) : Result State :=
  byteOp insertHigh 0x03 ra b rc s

/-- INSLH (R703). -/
def execInslh (ra : Reg) (b : Operand) (rc : Reg) (s : State) : Result State :=
  byteOp insertHigh 0x0F ra b rc s

/-- INSQH (R704). -/
def execInsqh (ra : Reg) (b : Operand) (rc : Reg) (s : State) : Result State :=
  byteOp insertHigh 0xFF ra b rc s

/-- MSKBL (R705). -/
def execMskbl (ra : Reg) (b : Operand) (rc : Reg) (s : State) : Result State :=
  byteOp maskLow 0x01 ra b rc s

/-- MSKWL (R706). -/
def execMskwl (ra : Reg) (b : Operand) (rc : Reg) (s : State) : Result State :=
  byteOp maskLow 0x03 ra b rc s

/-- MSKLL (R707). -/
def execMskll (ra : Reg) (b : Operand) (rc : Reg) (s : State) : Result State :=
  byteOp maskLow 0x0F ra b rc s

/-- MSKQL (R708). -/
def execMskql (ra : Reg) (b : Operand) (rc : Reg) (s : State) : Result State :=
  byteOp maskLow 0xFF ra b rc s

/-- MSKWH (R709). -/
def execMskwh (ra : Reg) (b : Operand) (rc : Reg) (s : State) : Result State :=
  byteOp maskHigh 0x03 ra b rc s

/-- MSKLH (R710). -/
def execMsklh (ra : Reg) (b : Operand) (rc : Reg) (s : State) : Result State :=
  byteOp maskHigh 0x0F ra b rc s

/-- MSKQH (R711). -/
def execMskqh (ra : Reg) (b : Operand) (rc : Reg) (s : State) : Result State :=
  byteOp maskHigh 0xFF ra b rc s

/-! ## Sign extension (R714, R715) -/

/-- SEXTB (R714). -/
def execSextb (b : Operand) (rc : Reg) (s : State) : Result State :=
  whenByteWord (fun s => (s.writeReg rc ((slice (s.operand b) 0 8).signExtend 64)).done) s

/-- SEXTW (R715). -/
def execSextw (b : Operand) (rc : Reg) (s : State) : Result State :=
  whenByteWord (fun s => (s.writeReg rc ((slice (s.operand b) 0 16).signExtend 64)).done) s

end Sys2Proof.Machine
end

