-- ==== Sys2Proof/Machine/Misc.lean ====
section
/-!
DEFINITION. The instructions of opcode 18: barriers, prefetch hints, the cycle counter and the interrupt flag
(47_misc.md).
-/

namespace Sys2Proof.Machine

/-- TRAPB (R883): an owed ARITH entry is taken here. -/
def execTrapb (s : State) : Result State := afterArith s State.done

/-- EXCB (R884): as TRAPB. -/
def execExcb (s : State) : Result State := afterArith s State.done

/-- MB (R881). -/
def execMb (s : State) : Result State := s.barrier.done

/-- WMB (R882; 20_memory.md R343). -/
def execWmb (s : State) : Result State := { s with memsys := s.memsys.writeBarrier }.done

/-- A prefetch hint (R885): it is written into the write buffer and sent to the system; no register, memory or cache changes. It
is no store, so that it may follow the end of a force hit mode at once; between a store to a CBU control register and its MB
there is no MTU instruction (13_state_cbu_iprs.md R242; 70_reset_and_hazards.md R1110, R1113). -/
def prefetchHint (kind : WriteKind) (rb : Reg) (s : State) : Result State :=
  bif s.model.cbuStore then .refused .cbuOrder else (s.hinted kind (s.readReg rb)).done

/-- FETCH (R885). -/
def execFetch (rb : Reg) (s : State) : Result State := prefetchHint .fetch rb s

/-- FETCH_M (R886). -/
def execFetchM (rb : Reg) (s : State) : Result State := prefetchHint .fetchM rb s

/-- CC<31:00> as read (R887): a draw while the counter is enabled, the value written while it is not. -/
def State.cycleCount (s : State) : BitVec 32 := bif s.mtu.ccEnabled then slice s.drawValue 0 32 else s.mtu.ccCount

/-- RPCC (R887). -/
def execRpcc (ra : Reg) (s : State) : Result State :=
  ((bif s.mtu.ccEnabled then s.drawn else s).writeReg ra (s.mtu.ccOffset ++ s.cycleCount)).done

/-- RS and RC: R[Ra] receives the interrupt flag, which becomes `flag` (R888, R889). -/
def readIntrFlag (flag : Bool) (ra : Reg) (s : State) : Result State :=
  ({ s with intrFlag := flag }.writeReg ra (quadOfBool s.intrFlag)).done

/-- RS (R888). -/
def execRs (ra : Reg) (s : State) : Result State := readIntrFlag true ra s

/-- RC (R889). -/
def execRc (ra : Reg) (s : State) : Result State := readIntrFlag false ra s

end Sys2Proof.Machine
end

