-- ==== Sys2Proof/Machine/Interrupts.lean ====
section
/-!
DEFINITION. Interrupt requests: ISR, INTID, and whether an interrupt is deliverable (60_exceptions.md R985 to R990;
11_state_idu_iprs.md R151, R156).
-/

namespace Sys2Proof.Machine

/-- The AST requests that are enabled: ASTRR AND ASTER. -/
def Idu.astEnabled (i : Idu) : BitVec 4 := i.astrr &&& i.aster

/-- ISR<ATR> (R987): an enabled request for a mode that the current mode equals or is less privileged than. -/
def Idu.astPending (i : Idu) : Bool :=
  let e := i.astEnabled
  e.getLsbD 3 || (e.getLsbD 2 && (1 : BitVec 2).ule i.icm) || (e.getLsbD 1 && (2 : BitVec 2).ule i.icm) ||
    (e.getLsbD 0 && i.icm == 3)

/-- irq_h<n> asserted and not masked by ICSR<IMSK<n>> (R142). -/
def State.irqRequest (s : State) (n : Nat) : Bool := s.pins.irq.getLsbD n && !s.icsrBit (20 + n)

/-- The control field PMCTR<CTLn>, for counter 0, 1 or 2 (R160). -/
def Idu.counterControl (i : Idu) (n : Nat) : BitVec 2 := slice i.pmctr (14 - 2 * n) 2

/-- ICSR<PME> is not 00 (R141). -/
def State.countersOn (s : State) : Bool := s.icsrBit 8 || s.icsrBit 9

/-- The kill bits Ku, Kp, Kk of PMCTR stop the counters in the present mode (R162): Kk kills kernel, executive and
supervisor mode, or with all three set kernel mode alone. -/
def State.countersKilled (s : State) : Bool :=
  let ku := bit s.idu.pmctr 30
  let kp := bit s.idu.pmctr 9
  let kk := bit s.idu.pmctr 8
  bif s.palmode then kp else bif s.idu.icm == 3 then ku else kk && (s.kernel || !(ku && kp))

/-- Counter n counts (R163). -/
def State.counting (s : State) (n : Nat) : Bool := s.countersOn && s.idu.counterControl n != 0 && !s.countersKilled

/-- A latched request of counter n that passes its enables (R985). -/
def State.counterRequest (s : State) (n : Nat) : Bool :=
  s.idu.pcRequests.getLsbD n && s.countersOn && (s.idu.counterControl n).getLsbD 1

/-- The sources that have a target IPL, highest first, with whether each is requesting and enabled (R985). -/
def State.requests (s : State) : List (Nat × Bool) :=
  [ (31, s.pins.machineCheck || (s.idu.crdRequest && s.icsrBit 32)),
    (30, s.pins.powerFail),
    (29, s.counterRequest 0 || s.counterRequest 1 || s.counterRequest 2),
    (23, s.irqRequest 3), (22, s.irqRequest 2), (21, s.irqRequest 1), (20, s.irqRequest 0),
    (15, s.idu.sirr.getLsbD 14), (14, s.idu.sirr.getLsbD 13), (13, s.idu.sirr.getLsbD 12), (12, s.idu.sirr.getLsbD 11),
    (11, s.idu.sirr.getLsbD 10), (10, s.idu.sirr.getLsbD 9), (9, s.idu.sirr.getLsbD 8), (8, s.idu.sirr.getLsbD 7),
    (7, s.idu.sirr.getLsbD 6), (6, s.idu.sirr.getLsbD 5), (5, s.idu.sirr.getLsbD 4), (4, s.idu.sirr.getLsbD 3),
    (3, s.idu.sirr.getLsbD 2), (2, s.idu.sirr.getLsbD 1 || s.idu.astPending), (1, s.idu.sirr.getLsbD 0) ]

/-- INTID (R151, R988): the highest target IPL that is requested, 0 if none. -/
def State.intid (s : State) : BitVec 5 :=
  match s.requests.find? (·.2) with
  | some (ipl, _) => BitVec.ofNat 5 ipl
  | none => 0

/-- Delivery (R986), apart from the free postponement of R991. -/
def State.interruptDeliverable (s : State) : Bool :=
  !s.palmode && (s.idu.iplr.ult s.intid || s.pins.halt || (s.idu.sliRequest && s.icsrBit 33))

/-- ISR (R156), with the parameter of R990 for the sources that ICSR masks. -/
def State.isr (s : State) : Quad :=
  let shown (request masked : Bool) : Bool := bif Config.isrShowsMaskedIrq then request else masked
  place s.idu.astEnabled 0 ||| place s.idu.sirr 4 ||| place (BitVec.ofBool s.idu.astPending) 19 |||
    place (BitVec.ofBool (shown (s.pins.irq.getLsbD 0) (s.irqRequest 0))) 20 |||
    place (BitVec.ofBool (shown (s.pins.irq.getLsbD 1) (s.irqRequest 1))) 21 |||
    place (BitVec.ofBool (shown (s.pins.irq.getLsbD 2) (s.irqRequest 2))) 22 |||
    place (BitVec.ofBool (shown (s.pins.irq.getLsbD 3) (s.irqRequest 3))) 23 |||
    place s.idu.pcRequests 27 ||| place (BitVec.ofBool s.pins.powerFail) 30 |||
    place (BitVec.ofBool s.pins.machineCheck) 31 |||
    place (BitVec.ofBool (shown s.idu.crdRequest (s.idu.crdRequest && s.icsrBit 32))) 32 |||
    place (BitVec.ofBool s.idu.sliRequest) 33 ||| place (BitVec.ofBool s.pins.halt) 34

end Sys2Proof.Machine
end

