-- ==== Sys2Proof/Machine/Ipr.lean ====
section
/-!
DEFINITION. The internal processor registers that HW_MFPR and HW_MTPR reach (10_state.md R68; 11_state_idu_iprs.md;
12_state_mtu_iprs.md). Bits that no rule describes read as zero and are ignored (92_eei_decisions.md D4).
-/

namespace Sys2Proof.Machine

/-- The registers of Table 5-1 (R68). -/
inductive Ipr where
  | isr | itbTag | itbPte | itbAsn | itbPteTemp | itbIa | itbIap | itbIs | sirr | astrr | aster | excAddr | excSum | excMask
  | palBase | icm | iplr | intid | ifaultVaForm | ivptbr | hwintClr | slXmit | slRcv | icsr | icFlushCtl | icperrStat | pmctr
  | palTemp (n : Fin 24)
  | dtbAsn | dtbCm | dtbTag | dtbPte | dtbPteTemp | mmStat | va | vaForm | mvptbr | dtbIap | dtbIa | dtbIs | altMode | cc
  | ccCtl | mcsr | dcFlush | dcPerrStat | dcTestCtl | dcTestTag | dcTestTagTemp | dcMode | mafMode
deriving DecidableEq, Repr

/-- The register at an index (R68). -/
def iprAt (index : BitVec 16) : Option Ipr :=
  match index.toNat with
  | 0x100 => some .isr
  | 0x101 => some .itbTag
  | 0x102 => some .itbPte
  | 0x103 => some .itbAsn
  | 0x104 => some .itbPteTemp
  | 0x105 => some .itbIa
  | 0x106 => some .itbIap
  | 0x107 => some .itbIs
  | 0x108 => some .sirr
  | 0x109 => some .astrr
  | 0x10A => some .aster
  | 0x10B => some .excAddr
  | 0x10C => some .excSum
  | 0x10D => some .excMask
  | 0x10E => some .palBase
  | 0x10F => some .icm
  | 0x110 => some .iplr
  | 0x111 => some .intid
  | 0x112 => some .ifaultVaForm
  | 0x113 => some .ivptbr
  | 0x115 => some .hwintClr
  | 0x116 => some .slXmit
  | 0x117 => some .slRcv
  | 0x118 => some .icsr
  | 0x119 => some .icFlushCtl
  | 0x11A => some .icperrStat
  | 0x11C => some .pmctr
  | 0x200 => some .dtbAsn
  | 0x201 => some .dtbCm
  | 0x202 => some .dtbTag
  | 0x203 => some .dtbPte
  | 0x204 => some .dtbPteTemp
  | 0x205 => some .mmStat
  | 0x206 => some .va
  | 0x207 => some .vaForm
  | 0x208 => some .mvptbr
  | 0x209 => some .dtbIap
  | 0x20A => some .dtbIa
  | 0x20B => some .dtbIs
  | 0x20C => some .altMode
  | 0x20D => some .cc
  | 0x20E => some .ccCtl
  | 0x20F => some .mcsr
  | 0x210 => some .dcFlush
  | 0x212 => some .dcPerrStat
  | 0x213 => some .dcTestCtl
  | 0x214 => some .dcTestTag
  | 0x215 => some .dcTestTagTemp
  | 0x216 => some .dcMode
  | 0x217 => some .mafMode
  | n => bif Nat.ble 0x140 n && Nat.blt n 0x158 then some (.palTemp (Fin.ofNat 24 (n - 0x140))) else none

/-! ## Translation buffers -/

/-- By how many steps more than one the ITB pointer advances: any number where an MTU instruction or WMB before may have been
replayed and have repeated the access (R121, R122; 71_timing.md R1175). -/
def State.extraSteps (s : State) : Nat := bif Nat.blt s.model.sinceMtu 7 then s.drawValue.toNat else 0

/-- The draw of `extraSteps`. -/
def State.noteSteps (s : State) : State := bif Nat.blt s.model.sinceMtu 7 then s.drawn else s

/-- Write the entry that the pointer names and advance the pointer (R121, R182; 92_eei_decisions.md D5). -/
def Idu.fillItb (i : Idu) (extra : Nat) (pte : ItbPte) : Idu :=
  { i with itb := i.itb.set i.itbPtr ⟨true, i.itbTag, i.itbAsn, pte⟩, itbPtr := (i.itbPtr + 1 + extra) % 48 }

/-- The ITB_PTE write format (R121). -/
def itbPteOf (v : Quad) : ItbPte := { asm := bit v 4, gh := slice v 5 2, re := slice v 8 4, pfn := slice v 32 27 }

/-- The ITB_PTE_TEMP format (R124), with GHD<31:29> decoded from the granularity hint (Table 5-2). -/
def ItbPte.read (p : ItbPte) : Quad :=
  place p.re 9 ||| place (BitVec.ofBool p.asm) 13 ||| place (BitVec.ofBool (p.gh != 0)) 29 |||
    place (BitVec.ofBool (p.gh.getLsbD 1)) 30 ||| place (BitVec.ofBool (p.gh == 3)) 31 ||| place p.pfn 32

/-- Reading ITB_PTE (R122): the entry goes to ITB_PTE_TEMP and the pointer advances. -/
def Idu.readItb (i : Idu) (extra : Nat) : Idu :=
  { i with itbPteTemp := (i.itb.map (·.pte)).getD i.itbPtr .zero, itbPtr := (i.itbPtr + 1 + extra) % 48 }

/-- Invalidate the entries that satisfy a test. -/
def Idu.invalidateItb (i : Idu) (p : ItbEntry → Bool) : Idu :=
  { i with itb := i.itb.map fun e => bif p e then { e with valid := false } else e }

/-- What the translation of fetches depends on now (20_memory.md R330). -/
def State.fetchState (s : State) : FetchState := ⟨s.idu.icm, s.idu.icsr.extractLsb' 28 2, s.idu.itbAsn, s.idu.itb⟩

/-- Fetches may go on using the present translation state: until HW_REI_STALL, or for so many more instructions after this one.
-/
def State.keepFetching (s : State) (stall : Bool) (left : Nat) : Model :=
  { s.model with former := ⟨s.fetchState, stall, left + 1⟩ :: s.model.former }

/-- A change of the ITB, which fetches follow surely after HW_REI_STALL (R330). The Icache keeps what was fetched through the
entries that go (R362). -/
def State.withItb (s : State) (i : Idu) : State :=
  let k := s.keepFetching true 0
  { s with
    idu := i
    model := { k with stale := { k.stale with
      mappings := s.idu.itb.filter (fun e => e.valid && !i.itb.elem e) ++ k.stale.mappings } } }

/-- Write the entry that the pointer names and advance the pointer (R182). -/
def Mtu.fillDtb (m : Mtu) (tag : BitVec 30) : Mtu :=
  { m with dtb := m.dtb.set m.dtbPtr ⟨true, tag, m.dtbAsn, m.dtbPte⟩, dtbPtr := (m.dtbPtr + 1) % 64 }

/-- The DTB_PTE write format (R183). -/
def dtbPteOf (v : Quad) : DtbPte :=
  { fault_on_read := bit v 1, fault_on_write := bit v 2, asm := bit v 4, gh := slice v 5 2, re := slice v 8 4,
    we := slice v 12 4, pfn := slice v 32 27 }

/-- The stored bits of an entry. -/
def DtbPte.packed (p : DtbPte) : BitVec 40 :=
  BitVec.ofBool p.fault_on_read ++ BitVec.ofBool p.fault_on_write ++ BitVec.ofBool p.asm ++ p.gh ++ p.re ++ p.we ++ p.pfn

/-- DTB_PTE_TEMP as read (R185): each stored bit in the place that `DTB_PTE_TEMP_LAYOUT` gives it, zero elsewhere. -/
def DtbPte.read (p : DtbPte) : Quad :=
  BitVec.ofNat 64
    ((List.finRange 64).foldl (fun v k => v + (p.packed.getLsbD k.val).toNat * 2 ^ (Config.dtbPteTempPlaces k).val) 0)

/-- Reading DTB_PTE (R184): the entry goes to DTB_PTE_TEMP and the pointer advances. -/
def Mtu.readDtb (m : Mtu) : Mtu :=
  { m with dtbPteTemp := (m.dtb.map (·.pte)).getD m.dtbPtr .zero, dtbPtr := (m.dtbPtr + 1) % 64 }

/-- Invalidate the entries that satisfy a test. -/
def Mtu.invalidateDtb (m : Mtu) (p : DtbEntry → Bool) : Mtu :=
  { m with dtb := m.dtb.map fun e => bif p e then { e with valid := false } else e }

/-! ## Instruction cache maintenance (20_memory.md R361, R365) -/

/-- IC_FLUSH_CTL (11_state_idu_iprs.md R131): what fetch may still return, and what stores replaced before a completed MB, is
gone when 44 inline instructions from an INT16 boundary on have run. -/
def Model.flushIcache (m : Model) : Model :=
  { m with
    stale := { m.stale with
      settled := []
      draining := m.stale.settled ++ m.stale.draining
      mappings := []
      drainingMappings := m.stale.mappings ++ m.stale.drainingMappings
      sromWhole := false
      held := []
      drainingHeld := m.stale.held ++ m.stale.drainingHeld
      superpages := 0
      drainingSuperpages := m.stale.superpages ||| m.stale.drainingSuperpages }
    owed := { m.owed with inline := 44, drain := 45, speFlush := false } }

/-! ## The Dcache's test registers (12_state_mtu_iprs.md R220 to R222) -/

/-- DC_TEST_CTL<INDEX> as the index of a 32-byte line. -/
def Mtu.testIndex (m : Mtu) : Nat := (m.dcTestCtl.extractLsb' 5 8).toNat

/-- What a read of DC_TEST_TAG loads into DC_TEST_TAG_TEMP: the tag, its parity and the valid bits of the line in the bank of
DC_TEST_CTL<BANK0>, and in <10:03> which bytes of the quadword that INDEX<4:3> names have bad parity, bit k for byte k (DESIGN
CHOICE, log entry 38: R222 does not say which eight of the line's 32 bits DATA_PAR shows); everything of a line that nothing has
written is free. -/
def State.dcTestTagRead (s : State) : Quad :=
  let free := s.drawn.drawValue
  let m := s.memsys.caches
  match m.dcache.find? (fun l => l.bank1 != s.mtu.dcTestCtl.getLsbD 0 && l.index == s.mtu.testIndex) with
  | some l => place (BitVec.ofBool l.parity) 2 |||
      place (l.bad.extractLsb' (8 * (s.mtu.dcTestCtl.extractLsb' 3 2).toNat) 8) 3 ||| place l.valid 11 ||| place l.tag 13
  | none => free &&& (bif m.dcacheFlushed then maskOf 2 9 ||| maskOf 13 26 else maskOf 2 37)

/-- A write of DC_TEST_TAG: tag, parity and valid bits of the line, in the banks that DC_TEST_CTL selects. The line's data are
not those of the tag; their parity bits stay, good in a line that nothing has written (DESIGN CHOICE, log entry 38). -/
def Caches.writeTestTag (ctl : BitVec 13) (index : Nat) (v : Quad) (m : Caches) : Caches :=
  let line (bank1 : Bool) : DcLine :=
    { bank1 := bank1, index := index, tag := slice v 13 26, parity := bit v 2, valid := slice v 11 2,
      bad := ((m.dcache.find? fun k => k.index == index && k.bank1 == bank1).map (·.bad)).getD 0, stale := true }
  let put (chosen bank1 : Bool) (l : List DcLine) : List DcLine :=
    bif chosen then line bank1 :: l.filter (fun k => k.bank1 != bank1 || k.index != index) else l
  { m with dcache := put (ctl.getLsbD 1) true (put (ctl.getLsbD 0) false m.dcache) }

/-! ## Performance counters (R160 to R164) -/

/-- Counter n's value is not known (R164). -/
def State.counterFree (s : State) (n : Nat) : Bool := s.counting n || s.model.counted.getLsbD n

/-- Counters as bits. -/
def State.countersFree (s : State) : BitVec 3 :=
  BitVec.ofBool (s.counterFree 2) ++ BitVec.ofBool (s.counterFree 1) ++ BitVec.ofBool (s.counterFree 0)

/-- The bits of PMCTR whose value is known. -/
def State.pmctrKnown (s : State) : Quad :=
  ~~~((bif s.counterFree 0 then maskOf 48 16 else 0) ||| (bif s.counterFree 1 then maskOf 32 16 else 0) |||
    (bif s.counterFree 2 then maskOf 16 14 else 0))

/-- PMCTR as read. -/
def State.pmctrRead (s : State) : Quad := s.withFree s.pmctrKnown s.idu.pmctr

/-! ## Reading -/

/-- EXC_MASK (R137). -/
def Idu.excMask (i : Idu) : Quad :=
  bif Config.excMaskIntegerLow then i.excMaskFp ++ i.excMaskInt else i.excMaskInt ++ i.excMaskFp

/-- MAF_MODE<07:06> (R207): whether loads and stores are outstanding. -/
def State.mafPending (s : State) : Quad :=
  (bif s.memsys.maf.isEmpty then 0 else 0x40) ||| (bif s.memsys.wb.isEmpty && s.model.cbuWaits.isNone then 0 else 0x80)

/-- HW_MFPR (48_palcode.md R940): the value and the state after the read; none for a write-only register. -/
def readIpr (s : State) : Ipr → Option (Quad × State)
  | .isr => some (s.isr, s)
  | .itbTag => none
  | .itbPte => some (0, { s.noteSteps with idu := s.idu.readItb s.extraSteps })
  | .itbAsn => some (place s.idu.itbAsn 4, s)
  | .itbPteTemp => some (s.idu.itbPteTemp.read, s)
  | .itbIa => none
  | .itbIap => none
  | .itbIs => none
  | .sirr => some (place s.idu.sirr 4, s)
  | .astrr => some (place s.idu.astrr 0, s)
  | .aster => some (place s.idu.aster 0, s)
  | .excAddr => some (s.idu.excAddr, s)
  | .excSum => some (place s.idu.excSum 10, s)
  | .excMask => some (s.idu.excMask, s)
  | .palBase => some (place s.idu.palBase 14, s)
  | .icm => some (place s.idu.icm 3, s)
  | .iplr => some (place s.idu.iplr 0, s)
  | .intid => some (place s.intid 0, s)
  | .ifaultVaForm => some (s.idu.ifaultVaForm, s)
  | .ivptbr =>
    bif s.icsrBit 28 then some (place s.idu.ivptbr 30, s)
    else some (s.withFree (~~~maskOf 30 3) (place s.idu.ivptbr 30), s.drawn)
  | .hwintClr => none
  | .slXmit => none
  | .slRcv => some (place (BitVec.ofBool s.pins.serialData) 6, s)
  | .icsr => some (s.idu.icsr ||| place (BitVec.ofBool Config.icacheBistPassed) 38, s)
  | .icFlushCtl => none
  | .icperrStat => some (place s.idu.icperrStat 11, s)
  | .pmctr => some (s.pmctrRead,
      { s with idu := { s.idu with pmctr := s.pmctrRead }, model := { s.drawn.model with counted := 0 } })
  | .palTemp n => some (s.idu.palTemp.get n, s)
  | .dtbAsn => none
  | .dtbCm => none
  | .dtbTag => none
  | .dtbPte => some (0, { s with mtu := s.mtu.readDtb })
  | .dtbPteTemp => some (s.mtu.dtbPteTemp.read, s)
  | .mmStat => some (place s.mtu.mmStat 0, s)
  | .va => some (s.mtu.va, { s with mtu := { s.mtu with mmLock := false } })
  | .vaForm => some (State.vaFormOf s.mtu.mvptbr (s.mtu.mcsr.getLsbD 1) s.mtu.va, s)
  | .mvptbr => none
  | .dtbIap => none
  | .dtbIa => none
  | .dtbIs => none
  | .altMode => none
  | .cc => none
  | .ccCtl => none
  | .mcsr => some (place s.mtu.mcsr 0, s)
  | .dcFlush => none
  | .dcPerrStat => some (place s.mtu.dcPerrStat 0, s)
  | .dcTestCtl => some (place s.mtu.dcTestCtl 0, s)
  | .dcTestTag => some (s.drawValue,
      { s.drawn.drawn with mtu := { s.mtu with dcTestTagTemp := s.dcTestTagRead } })
  | .dcTestTagTemp => some (s.mtu.dcTestTagTemp, s)
  | .dcMode => some (place s.mtu.dcMode 0, s)
  | .mafMode => some (place s.mtu.mafMode 0 ||| s.mafPending, s)

/-! ## Writing -/

/-- The bits that ICSR stores (R140). -/
def icsrMask : Quad := maskOf 8 2 ||| maskOf 17 1 ||| maskOf 20 11 ||| maskOf 32 6 ||| maskOf 39 1

/-- Writing ICSR (R140 to R149): <18> must be zero and <37> one. Fetches surely follow a change of SPE when the window of
70_reset_and_hazards.md R1129 has passed (20_memory.md R330). -/
def State.writeIcsr (s : State) (v : Quad) : Result State :=
  bif bit v 18 || !bit v 37 then .refused .reservedBit
  else
    let old : BitVec 2 := slice s.idu.icsr 28 2
    let changed := slice v 28 2 != old
    let k := bif changed then s.keepFetching false 19 else s.model
    .next { s with
      idu := { s.idu with icsr := v &&& icsrMask }
      model := { k with
        owed := { k.owed with speFlush := k.owed.speFlush || changed }
        stale := { k.stale with superpages := bif changed then k.stale.superpages ||| old else k.stale.superpages } } }

/-- Writing ICM (R139). Out of kernel mode no fetch goes through the superpages any more, and the Icache keeps what was fetched
through them (20_memory.md R362). -/
def State.writeIcm (s : State) (v : Quad) : State :=
  let k := s.keepFetching false 11
  { s with
    idu := { s.idu with icm := slice v 3 2 }
    model := { k with stale := { k.stale with
      superpages := k.stale.superpages ||| (bif s.kernel then slice s.idu.icsr 28 2 else 0) } } }

/-- A load, or a store to a CBU register, waits for the stopped arbiter. -/
def State.mustResume (s : State) : Bool := s.stopped && (s.memsys.maf.any (·.waits) || s.model.cbuWaits.isSome)

/-- Writing MAF_MODE (R207). Where MAF_ARB_DISABLE is cleared, these arbitrate again before the next instruction. -/
def State.writeMafMode (s : State) (v : Quad) : State :=
  { s with
    mtu := { s.mtu with mafMode := slice v 0 6 }
    memsys := s.memsys.onCaches (Caches.post (bif !bit v 5 && s.mustResume then [.resume] else [])) }

/-- Clear the bits of a status field where 1 is written (R130, R155). -/
def clearOnes {n : Nat} (field written : BitVec n) : BitVec n := field &&& ~~~written

/-- Writing DC_PERR_STAT (R195): <00> clears SEO; <01> clears LOCK and with it <05:02>. -/
def dcPerrWritten (old : BitVec 6) (v : Quad) : BitVec 6 :=
  (bif bit v 1 then old &&& 0x01 else old) &&& (bif bit v 0 then 0x3E else 0x3F)

/-- HW_MTPR (48_palcode.md R941): refused for a read-only register. -/
def writeIpr (s : State) (v : Quad) : Ipr → Result State
  | .isr => .refused .undefinedIpr
  | .itbTag => .next { s with idu := { s.idu with itbTag := slice v 13 30 } }
  | .itbPte => .next (s.noteSteps.withItb (s.idu.fillItb s.extraSteps (itbPteOf v)))
  | .itbAsn => .next { s with idu := { s.idu with itbAsn := slice v 4 7 }, model := s.keepFetching true 0 }
  | .itbPteTemp => .refused .undefinedIpr
  | .itbIa => .next (s.withItb { s.idu.invalidateItb (fun _ => true) with itbPtr := 0 })
  | .itbIap => .next (s.withItb (s.idu.invalidateItb (fun e => !e.pte.asm)))
  | .itbIs => .next (s.withItb (s.idu.invalidateItb (ItbEntry.hits s.idu.itbAsn (vpnOf v))))
  | .sirr => .next { s with idu := { s.idu with sirr := slice v 4 15 } }
  | .astrr => .next { s with idu := { s.idu with astrr := slice v 0 4 } }
  | .aster => .next { s with idu := { s.idu with aster := slice v 0 4 } }
  | .excAddr => .next { s with idu := { s.idu with excAddr := v &&& ~~~2 } }
  | .excSum => .next { s with idu := { s.idu with excSum := 0, swcKilled := false, excMaskInt := 0, excMaskFp := 0 } }
  | .excMask => .refused .undefinedIpr
  | .palBase => .next { s with idu := { s.idu with palBase := slice v 14 50 } }
  | .icm => .next (s.writeIcm v)
  | .iplr => .next { s with idu := { s.idu with iplr := slice v 0 5 } }
  | .intid => .refused .undefinedIpr
  | .ifaultVaForm => .refused .undefinedIpr
  | .ivptbr => .next { s with idu := { s.idu with ivptbr := slice v 30 34 } }
  | .hwintClr => .next { s with idu := { s.idu with
      pcRequests := clearOnes s.idu.pcRequests (slice v 27 3)
      crdRequest := s.idu.crdRequest && !bit v 32
      sliRequest := s.idu.sliRequest && !bit v 33 } }
  | .slXmit => .next { s with idu := { s.idu with slXmit := bit v 7 } }
  | .slRcv => .refused .undefinedIpr
  | .icsr => s.writeIcsr v
  | .icFlushCtl => .next { s with model := s.model.flushIcache }
  | .icperrStat => .next { s with idu := { s.idu with icperrStat := clearOnes s.idu.icperrStat (slice v 11 3) } }
  | .pmctr => .next { s with idu := { s.idu with pmctr := v }, model := { s.model with counted := 0 } }
  | .palTemp n => .next { s with idu := { s.idu with palTemp := s.idu.palTemp.set n v } }
  | .dtbAsn => .next { s with mtu := { s.mtu with dtbAsn := slice v 57 7 } }
  | .dtbCm => .next { s with mtu := { s.mtu with dtbCm := slice v 3 2 } }
  | .dtbTag => .next { s with mtu := s.mtu.fillDtb (slice v 13 30) }
  | .dtbPte => .next { s with mtu := { s.mtu with dtbPte := dtbPteOf v } }
  | .dtbPteTemp => .refused .undefinedIpr
  | .mmStat => .refused .undefinedIpr
  | .va => .refused .undefinedIpr
  | .vaForm => .refused .undefinedIpr
  | .mvptbr => .next { s with mtu := { s.mtu with mvptbr := slice v 30 34 } }
  | .dtbIap => .next { s with mtu := s.mtu.invalidateDtb (fun e => !e.pte.asm) }
  | .dtbIa => .next { s with mtu := { s.mtu.invalidateDtb (fun _ => true) with dtbPtr := 0 } }
  | .dtbIs => .next { s with mtu := s.mtu.invalidateDtb (DtbEntry.hits s.mtu.dtbAsn (vpnOf v)) }
  | .altMode => .next { s with mtu := { s.mtu with altMode := slice v 3 2 } }
  | .cc => .next { s with mtu := { s.mtu with ccOffset := slice v 32 32 } }
  | .ccCtl => .next { s with mtu := { s.mtu with
      ccCount := (slice v 4 28 : BitVec 28) ++ (0 : BitVec 4)
      ccEnabled := bit v 32 } }
  | .mcsr =>
    bif bit v 3 || bit v 5 then .refused .reservedBit else .next { s with mtu := { s.mtu with mcsr := slice v 0 6 } }
  | .dcFlush => .next { s with memsys := s.memsys.onCaches Caches.flushDcache }
  | .dcPerrStat => .next { s with mtu := { s.mtu with dcPerrStat := dcPerrWritten s.mtu.dcPerrStat v } }
  | .dcTestCtl => .next { s with mtu := { s.mtu with dcTestCtl := slice v 0 13 &&& ~~~4 } }
  | .dcTestTag => .next
      { s with memsys := s.memsys.onCaches (Caches.writeTestTag s.mtu.dcTestCtl s.mtu.testIndex v) }
  | .dcTestTagTemp => .refused .undefinedIpr
  | .dcMode => .next { s with mtu := { s.mtu with dcMode := slice v 0 4 } }
  | .mafMode => .next (s.writeMafMode v)

end Sys2Proof.Machine
end

