-- ==== Sys2Proof/Machine/Pal.lean ====
section
/-!
DEFINITION. CALL_PAL and the PALcode-only instructions (48_palcode.md).
-/

namespace Sys2Proof.Machine

/-! ## CALL_PAL (R920) -/

/-- The function codes that raise OPCDEC: 40 to 7F, above BF, and below 40 outside kernel mode. -/
def callPalIllegal (fn : BitVec 26) (kernel : Bool) : Bool :=
  (BitVec.ule 0x40 fn && fn.ule 0x7F) || BitVec.ult 0xBF fn || (fn.ule 0x3F && !kernel)

/-- The offset of a CALL_PAL entry: 1 ++ fn<7> ++ fn<5:0> ++ 000000. -/
def callPalOffset (fn : BitVec 26) : BitVec 14 :=
  (1 : BitVec 1) ++ (fn.extractLsb' 7 1 : BitVec 1) ++ (fn.extractLsb' 0 6 : BitVec 6) ++ (0 : BitVec 6)

/-- CALL_PAL (R920). -/
def execCallPal (fn : BitVec 26) (s : State) : Result State :=
  afterArith s fun s =>
    bif callPalIllegal fn s.kernel then raise .opcdec s
    else .next (enterPal .callPal (s.pc + 4) (callPalOffset fn) s)

/-! ## HW_REI (R912, R913) -/

/-- Both forms: an owed ARITH entry is taken first in PALmode (60_exceptions.md R971 d); bits <13:0> must be zero. -/
def leavePal (mbz : BitVec 14) (s : State) : Result State :=
  whenPal (fun s =>
    bif mbz != 0 then .refused .mustBeZeroField
    else bif s.palmode then afterArith s fun s => .next (returnFromPal s)
    else .next (returnFromPal s)) s

/-- HW_REI (R912). -/
def execHwRei (mbz : BitVec 14) (s : State) : Result State := leavePal mbz s

/-- HW_REI_STALL (R913). -/
def execHwReiStall (mbz : BitVec 14) (s : State) : Result State := leavePal mbz s

/-! ## HW_LD and HW_ST (R931 to R936) -/

/-- The access length of HW_LD and HW_ST. -/
def hwSize (quad : Bool) : Nat := bif quad then 8 else 4

/-- The reference of HW_LD. -/
def hwLoadRef (ra rb : Reg) (phys alt wrtck quad vpte lock : Bool) (disp : BitVec 10) (s : State) : DRef :=
  { write := false, size := hwSize quad, phys := phys, alt := alt, wrtck := wrtck, vpte := vpte, hw := true, lock := lock,
    va := s.hwAddress rb disp, ra := ra, opcode := 0x1B }

/-- The reference of HW_ST. -/
def hwStoreRef (ra rb : Reg) (phys alt quad : Bool) (disp : BitVec 10) (s : State) : DRef :=
  { write := true, size := hwSize quad, phys := phys, alt := alt, hw := true, va := s.hwAddress rb disp, ra := ra,
    opcode := 0x1F }

/-- HW_LD (R932). -/
def execHwLd (ra rb : Reg) (phys alt wrtck quad vpte lock : Bool) (disp : BitVec 10) (s : State) : Result State :=
  whenPal (fun s =>
    let r := hwLoadRef ra rb phys alt wrtck quad vpte lock disp s
    let k (m : Quad) (t : State) : Result State := (t.writeReg ra (bif quad then m else sextLong m)).done
    bif lock then loadLocked r k s else load r k s) s

/-- HW_ST (R935, R936): bits <13> and <11> must be zero. -/
def execHwSt (ra rb : Reg) (phys alt mbz13 quad mbz11 cond : Bool) (disp : BitVec 10) (s : State) : Result State :=
  whenPal (fun s =>
    bif mbz13 || mbz11 then .refused .mustBeZeroField
    else
      let r := hwStoreRef ra rb phys alt quad disp s
      bif cond then storeConditional r (s.readReg ra) (fun ok t => (t.writeReg ra (quadOfBool ok)).done) s
      else store r (s.readReg ra) State.done s) s

/-! ## HW_MFPR and HW_MTPR (R940, R941) -/

/-- HW_MFPR of an MTU register shows that an MB before it has completed (20_memory.md R342). -/
def State.afterMfpr (s : State) (index : BitVec 16) : State :=
  bif index.extractLsb' 8 8 == 2 then { s with model := s.model.carry } else s

/-- HW_MFPR (R940). -/
def execHwMfpr (ra rb : Reg) (index : BitVec 16) (s : State) : Result State :=
  whenPal (fun s =>
    bif ra != rb then .refused .unequalRegisterFields
    else match (iprAt index).bind (readIpr s) with
      | none => .refused .undefinedIpr
      | some (v, t) => ((t.afterMfpr index).writeReg ra v).done) s

/-- HW_MTPR (R941). -/
def execHwMtpr (ra rb : Reg) (index : BitVec 16) (s : State) : Result State :=
  whenPal (fun s =>
    bif ra != rb then .refused .unequalRegisterFields
    else match iprAt index with
      | none => .refused .undefinedIpr
      | some i =>
        match writeIpr s (s.readReg ra) i with
        | .next t => t.done
        | .fault f => .fault f
        | .refused f => .refused f) s

end Sys2Proof.Machine
end

