-- ==== Sys2Proof/Machine/Dispatch.lean ====
section
/-! DEFINITION. The meaning of every instruction, one arm per constructor. -/

namespace Sys2Proof.Machine

def exec (i : Instr) (s : State) : Host.Outcome State Fault Refusal :=
  match i with
  | .lda ra rb disp => Sys2Proof.Machine.execLda ra rb disp s
  | .ldah ra rb disp => Sys2Proof.Machine.execLdah ra rb disp s
  | .ldbu ra rb disp => Sys2Proof.Machine.execLdbu ra rb disp s
  | .ldq_u ra rb disp => Sys2Proof.Machine.execLdqU ra rb disp s
  | .ldwu ra rb disp => Sys2Proof.Machine.execLdwu ra rb disp s
  | .stw ra rb disp => Sys2Proof.Machine.execStw ra rb disp s
  | .stb ra rb disp => Sys2Proof.Machine.execStb ra rb disp s
  | .stq_u ra rb disp => Sys2Proof.Machine.execStqU ra rb disp s
  | .ldl ra rb disp => Sys2Proof.Machine.execLdl ra rb disp s
  | .ldq ra rb disp => Sys2Proof.Machine.execLdq ra rb disp s
  | .ldl_l ra rb disp => Sys2Proof.Machine.execLdlL ra rb disp s
  | .ldq_l ra rb disp => Sys2Proof.Machine.execLdqL ra rb disp s
  | .stl ra rb disp => Sys2Proof.Machine.execStl ra rb disp s
  | .stq ra rb disp => Sys2Proof.Machine.execStq ra rb disp s
  | .stl_c ra rb disp => Sys2Proof.Machine.execStlC ra rb disp s
  | .stq_c ra rb disp => Sys2Proof.Machine.execStqC ra rb disp s
  | .ldf fa rb disp => Sys2Proof.Machine.execLdf fa rb disp s
  | .ldg fa rb disp => Sys2Proof.Machine.execLdg fa rb disp s
  | .lds fa rb disp => Sys2Proof.Machine.execLds fa rb disp s
  | .ldt fa rb disp => Sys2Proof.Machine.execLdt fa rb disp s
  | .stf fa rb disp => Sys2Proof.Machine.execStf fa rb disp s
  | .stg fa rb disp => Sys2Proof.Machine.execStg fa rb disp s
  | .sts fa rb disp => Sys2Proof.Machine.execSts fa rb disp s
  | .stt fa rb disp => Sys2Proof.Machine.execStt fa rb disp s
  | .br ra disp => Sys2Proof.Machine.execBr ra disp s
  | .bsr ra disp => Sys2Proof.Machine.execBsr ra disp s
  | .blbc ra disp => Sys2Proof.Machine.execBlbc ra disp s
  | .beq ra disp => Sys2Proof.Machine.execBeq ra disp s
  | .blt ra disp => Sys2Proof.Machine.execBlt ra disp s
  | .ble ra disp => Sys2Proof.Machine.execBle ra disp s
  | .blbs ra disp => Sys2Proof.Machine.execBlbs ra disp s
  | .bne ra disp => Sys2Proof.Machine.execBne ra disp s
  | .bge ra disp => Sys2Proof.Machine.execBge ra disp s
  | .bgt ra disp => Sys2Proof.Machine.execBgt ra disp s
  | .fbeq fa disp => Sys2Proof.Machine.execFbeq fa disp s
  | .fblt fa disp => Sys2Proof.Machine.execFblt fa disp s
  | .fble fa disp => Sys2Proof.Machine.execFble fa disp s
  | .fbne fa disp => Sys2Proof.Machine.execFbne fa disp s
  | .fbge fa disp => Sys2Proof.Machine.execFbge fa disp s
  | .fbgt fa disp => Sys2Proof.Machine.execFbgt fa disp s
  | .jmp ra rb hint => Sys2Proof.Machine.execJmp ra rb hint s
  | .jsr ra rb hint => Sys2Proof.Machine.execJsr ra rb hint s
  | .ret ra rb hint => Sys2Proof.Machine.execRet ra rb hint s
  | .jsr_coroutine ra rb hint => Sys2Proof.Machine.execJsrCoroutine ra rb hint s
  | .addl ra b rc => Sys2Proof.Machine.execAddl ra b rc s
  | .addl_v ra b rc => Sys2Proof.Machine.execAddlV ra b rc s
  | .addq ra b rc => Sys2Proof.Machine.execAddq ra b rc s
  | .addq_v ra b rc => Sys2Proof.Machine.execAddqV ra b rc s
  | .subl ra b rc => Sys2Proof.Machine.execSubl ra b rc s
  | .subl_v ra b rc => Sys2Proof.Machine.execSublV ra b rc s
  | .subq ra b rc => Sys2Proof.Machine.execSubq ra b rc s
  | .subq_v ra b rc => Sys2Proof.Machine.execSubqV ra b rc s
  | .s4addl ra b rc => Sys2Proof.Machine.execS4addl ra b rc s
  | .s8addl ra b rc => Sys2Proof.Machine.execS8addl ra b rc s
  | .s4addq ra b rc => Sys2Proof.Machine.execS4addq ra b rc s
  | .s8addq ra b rc => Sys2Proof.Machine.execS8addq ra b rc s
  | .s4subl ra b rc => Sys2Proof.Machine.execS4subl ra b rc s
  | .s8subl ra b rc => Sys2Proof.Machine.execS8subl ra b rc s
  | .s4subq ra b rc => Sys2Proof.Machine.execS4subq ra b rc s
  | .s8subq ra b rc => Sys2Proof.Machine.execS8subq ra b rc s
  | .cmpeq ra b rc => Sys2Proof.Machine.execCmpeq ra b rc s
  | .cmplt ra b rc => Sys2Proof.Machine.execCmplt ra b rc s
  | .cmple ra b rc => Sys2Proof.Machine.execCmple ra b rc s
  | .cmpult ra b rc => Sys2Proof.Machine.execCmpult ra b rc s
  | .cmpule ra b rc => Sys2Proof.Machine.execCmpule ra b rc s
  | .cmpbge ra b rc => Sys2Proof.Machine.execCmpbge ra b rc s
  | .and ra b rc => Sys2Proof.Machine.execAnd ra b rc s
  | .bic ra b rc => Sys2Proof.Machine.execBic ra b rc s
  | .bis ra b rc => Sys2Proof.Machine.execBis ra b rc s
  | .ornot ra b rc => Sys2Proof.Machine.execOrnot ra b rc s
  | .xor ra b rc => Sys2Proof.Machine.execXor ra b rc s
  | .eqv ra b rc => Sys2Proof.Machine.execEqv ra b rc s
  | .cmoveq ra b rc => Sys2Proof.Machine.execCmoveq ra b rc s
  | .cmovne ra b rc => Sys2Proof.Machine.execCmovne ra b rc s
  | .cmovlt ra b rc => Sys2Proof.Machine.execCmovlt ra b rc s
  | .cmovle ra b rc => Sys2Proof.Machine.execCmovle ra b rc s
  | .cmovgt ra b rc => Sys2Proof.Machine.execCmovgt ra b rc s
  | .cmovge ra b rc => Sys2Proof.Machine.execCmovge ra b rc s
  | .cmovlbs ra b rc => Sys2Proof.Machine.execCmovlbs ra b rc s
  | .cmovlbc ra b rc => Sys2Proof.Machine.execCmovlbc ra b rc s
  | .amask b rc => Sys2Proof.Machine.execAmask b rc s
  | .implver rc => Sys2Proof.Machine.execImplver rc s
  | .sll ra b rc => Sys2Proof.Machine.execSll ra b rc s
  | .srl ra b rc => Sys2Proof.Machine.execSrl ra b rc s
  | .sra ra b rc => Sys2Proof.Machine.execSra ra b rc s
  | .zap ra b rc => Sys2Proof.Machine.execZap ra b rc s
  | .zapnot ra b rc => Sys2Proof.Machine.execZapnot ra b rc s
  | .extbl ra b rc => Sys2Proof.Machine.execExtbl ra b rc s
  | .extwl ra b rc => Sys2Proof.Machine.execExtwl ra b rc s
  | .extll ra b rc => Sys2Proof.Machine.execExtll ra b rc s
  | .extql ra b rc => Sys2Proof.Machine.execExtql ra b rc s
  | .extwh ra b rc => Sys2Proof.Machine.execExtwh ra b rc s
  | .extlh ra b rc => Sys2Proof.Machine.execExtlh ra b rc s
  | .extqh ra b rc => Sys2Proof.Machine.execExtqh ra b rc s
  | .insbl ra b rc => Sys2Proof.Machine.execInsbl ra b rc s
  | .inswl ra b rc => Sys2Proof.Machine.execInswl ra b rc s
  | .insll ra b rc => Sys2Proof.Machine.execInsll ra b rc s
  | .insql ra b rc => Sys2Proof.Machine.execInsql ra b rc s
  | .inswh ra b rc => Sys2Proof.Machine.execInswh ra b rc s
  | .inslh ra b rc => Sys2Proof.Machine.execInslh ra b rc s
  | .insqh ra b rc => Sys2Proof.Machine.execInsqh ra b rc s
  | .mskbl ra b rc => Sys2Proof.Machine.execMskbl ra b rc s
  | .mskwl ra b rc => Sys2Proof.Machine.execMskwl ra b rc s
  | .mskll ra b rc => Sys2Proof.Machine.execMskll ra b rc s
  | .mskql ra b rc => Sys2Proof.Machine.execMskql ra b rc s
  | .mskwh ra b rc => Sys2Proof.Machine.execMskwh ra b rc s
  | .msklh ra b rc => Sys2Proof.Machine.execMsklh ra b rc s
  | .mskqh ra b rc => Sys2Proof.Machine.execMskqh ra b rc s
  | .mull ra b rc => Sys2Proof.Machine.execMull ra b rc s
  | .mull_v ra b rc => Sys2Proof.Machine.execMullV ra b rc s
  | .mulq ra b rc => Sys2Proof.Machine.execMulq ra b rc s
  | .mulq_v ra b rc => Sys2Proof.Machine.execMulqV ra b rc s
  | .umulh ra b rc => Sys2Proof.Machine.execUmulh ra b rc s
  | .sextb b rc => Sys2Proof.Machine.execSextb b rc s
  | .sextw b rc => Sys2Proof.Machine.execSextw b rc s
  | .cvtlq fb fc => Sys2Proof.Machine.execCvtlq fb fc s
  | .cpys fa fb fc => Sys2Proof.Machine.execCpys fa fb fc s
  | .cpysn fa fb fc => Sys2Proof.Machine.execCpysn fa fb fc s
  | .cpyse fa fb fc => Sys2Proof.Machine.execCpyse fa fb fc s
  | .mt_fpcr fa fb fc => Sys2Proof.Machine.execMtFpcr fa fb fc s
  | .mf_fpcr fa fb fc => Sys2Proof.Machine.execMfFpcr fa fb fc s
  | .fcmoveq fa fb fc => Sys2Proof.Machine.execFcmoveq fa fb fc s
  | .fcmovne fa fb fc => Sys2Proof.Machine.execFcmovne fa fb fc s
  | .fcmovlt fa fb fc => Sys2Proof.Machine.execFcmovlt fa fb fc s
  | .fcmovge fa fb fc => Sys2Proof.Machine.execFcmovge fa fb fc s
  | .fcmovle fa fb fc => Sys2Proof.Machine.execFcmovle fa fb fc s
  | .fcmovgt fa fb fc => Sys2Proof.Machine.execFcmovgt fa fb fc s
  | .cvtql fb fc => Sys2Proof.Machine.execCvtql fb fc s
  | .cvtql_v fb fc => Sys2Proof.Machine.execCvtqlV fb fc s
  | .cvtql_sv fb fc => Sys2Proof.Machine.execCvtqlSv fb fc s
  | .adds fa fb fc => Sys2Proof.Machine.execAdds fa fb fc s
  | .adds_c fa fb fc => Sys2Proof.Machine.execAddsC fa fb fc s
  | .adds_m fa fb fc => Sys2Proof.Machine.execAddsM fa fb fc s
  | .adds_d fa fb fc => Sys2Proof.Machine.execAddsD fa fb fc s
  | .adds_u fa fb fc => Sys2Proof.Machine.execAddsU fa fb fc s
  | .adds_uc fa fb fc => Sys2Proof.Machine.execAddsUc fa fb fc s
  | .adds_um fa fb fc => Sys2Proof.Machine.execAddsUm fa fb fc s
  | .adds_ud fa fb fc => Sys2Proof.Machine.execAddsUd fa fb fc s
  | .adds_su fa fb fc => Sys2Proof.Machine.execAddsSu fa fb fc s
  | .adds_suc fa fb fc => Sys2Proof.Machine.execAddsSuc fa fb fc s
  | .adds_sum fa fb fc => Sys2Proof.Machine.execAddsSum fa fb fc s
  | .adds_sud fa fb fc => Sys2Proof.Machine.execAddsSud fa fb fc s
  | .adds_sui fa fb fc => Sys2Proof.Machine.execAddsSui fa fb fc s
  | .adds_suic fa fb fc => Sys2Proof.Machine.execAddsSuic fa fb fc s
  | .adds_suim fa fb fc => Sys2Proof.Machine.execAddsSuim fa fb fc s
  | .adds_suid fa fb fc => Sys2Proof.Machine.execAddsSuid fa fb fc s
  | .addt fa fb fc => Sys2Proof.Machine.execAddt fa fb fc s
  | .addt_c fa fb fc => Sys2Proof.Machine.execAddtC fa fb fc s
  | .addt_m fa fb fc => Sys2Proof.Machine.execAddtM fa fb fc s
  | .addt_d fa fb fc => Sys2Proof.Machine.execAddtD fa fb fc s
  | .addt_u fa fb fc => Sys2Proof.Machine.execAddtU fa fb fc s
  | .addt_uc fa fb fc => Sys2Proof.Machine.execAddtUc fa fb fc s
  | .addt_um fa fb fc => Sys2Proof.Machine.execAddtUm fa fb fc s
  | .addt_ud fa fb fc => Sys2Proof.Machine.execAddtUd fa fb fc s
  | .addt_su fa fb fc => Sys2Proof.Machine.execAddtSu fa fb fc s
  | .addt_suc fa fb fc => Sys2Proof.Machine.execAddtSuc fa fb fc s
  | .addt_sum fa fb fc => Sys2Proof.Machine.execAddtSum fa fb fc s
  | .addt_sud fa fb fc => Sys2Proof.Machine.execAddtSud fa fb fc s
  | .addt_sui fa fb fc => Sys2Proof.Machine.execAddtSui fa fb fc s
  | .addt_suic fa fb fc => Sys2Proof.Machine.execAddtSuic fa fb fc s
  | .addt_suim fa fb fc => Sys2Proof.Machine.execAddtSuim fa fb fc s
  | .addt_suid fa fb fc => Sys2Proof.Machine.execAddtSuid fa fb fc s
  | .subs fa fb fc => Sys2Proof.Machine.execSubs fa fb fc s
  | .subs_c fa fb fc => Sys2Proof.Machine.execSubsC fa fb fc s
  | .subs_m fa fb fc => Sys2Proof.Machine.execSubsM fa fb fc s
  | .subs_d fa fb fc => Sys2Proof.Machine.execSubsD fa fb fc s
  | .subs_u fa fb fc => Sys2Proof.Machine.execSubsU fa fb fc s
  | .subs_uc fa fb fc => Sys2Proof.Machine.execSubsUc fa fb fc s
  | .subs_um fa fb fc => Sys2Proof.Machine.execSubsUm fa fb fc s
  | .subs_ud fa fb fc => Sys2Proof.Machine.execSubsUd fa fb fc s
  | .subs_su fa fb fc => Sys2Proof.Machine.execSubsSu fa fb fc s
  | .subs_suc fa fb fc => Sys2Proof.Machine.execSubsSuc fa fb fc s
  | .subs_sum fa fb fc => Sys2Proof.Machine.execSubsSum fa fb fc s
  | .subs_sud fa fb fc => Sys2Proof.Machine.execSubsSud fa fb fc s
  | .subs_sui fa fb fc => Sys2Proof.Machine.execSubsSui fa fb fc s
  | .subs_suic fa fb fc => Sys2Proof.Machine.execSubsSuic fa fb fc s
  | .subs_suim fa fb fc => Sys2Proof.Machine.execSubsSuim fa fb fc s
  | .subs_suid fa fb fc => Sys2Proof.Machine.execSubsSuid fa fb fc s
  | .subt fa fb fc => Sys2Proof.Machine.execSubt fa fb fc s
  | .subt_c fa fb fc => Sys2Proof.Machine.execSubtC fa fb fc s
  | .subt_m fa fb fc => Sys2Proof.Machine.execSubtM fa fb fc s
  | .subt_d fa fb fc => Sys2Proof.Machine.execSubtD fa fb fc s
  | .subt_u fa fb fc => Sys2Proof.Machine.execSubtU fa fb fc s
  | .subt_uc fa fb fc => Sys2Proof.Machine.execSubtUc fa fb fc s
  | .subt_um fa fb fc => Sys2Proof.Machine.execSubtUm fa fb fc s
  | .subt_ud fa fb fc => Sys2Proof.Machine.execSubtUd fa fb fc s
  | .subt_su fa fb fc => Sys2Proof.Machine.execSubtSu fa fb fc s
  | .subt_suc fa fb fc => Sys2Proof.Machine.execSubtSuc fa fb fc s
  | .subt_sum fa fb fc => Sys2Proof.Machine.execSubtSum fa fb fc s
  | .subt_sud fa fb fc => Sys2Proof.Machine.execSubtSud fa fb fc s
  | .subt_sui fa fb fc => Sys2Proof.Machine.execSubtSui fa fb fc s
  | .subt_suic fa fb fc => Sys2Proof.Machine.execSubtSuic fa fb fc s
  | .subt_suim fa fb fc => Sys2Proof.Machine.execSubtSuim fa fb fc s
  | .subt_suid fa fb fc => Sys2Proof.Machine.execSubtSuid fa fb fc s
  | .muls fa fb fc => Sys2Proof.Machine.execMuls fa fb fc s
  | .muls_c fa fb fc => Sys2Proof.Machine.execMulsC fa fb fc s
  | .muls_m fa fb fc => Sys2Proof.Machine.execMulsM fa fb fc s
  | .muls_d fa fb fc => Sys2Proof.Machine.execMulsD fa fb fc s
  | .muls_u fa fb fc => Sys2Proof.Machine.execMulsU fa fb fc s
  | .muls_uc fa fb fc => Sys2Proof.Machine.execMulsUc fa fb fc s
  | .muls_um fa fb fc => Sys2Proof.Machine.execMulsUm fa fb fc s
  | .muls_ud fa fb fc => Sys2Proof.Machine.execMulsUd fa fb fc s
  | .muls_su fa fb fc => Sys2Proof.Machine.execMulsSu fa fb fc s
  | .muls_suc fa fb fc => Sys2Proof.Machine.execMulsSuc fa fb fc s
  | .muls_sum fa fb fc => Sys2Proof.Machine.execMulsSum fa fb fc s
  | .muls_sud fa fb fc => Sys2Proof.Machine.execMulsSud fa fb fc s
  | .muls_sui fa fb fc => Sys2Proof.Machine.execMulsSui fa fb fc s
  | .muls_suic fa fb fc => Sys2Proof.Machine.execMulsSuic fa fb fc s
  | .muls_suim fa fb fc => Sys2Proof.Machine.execMulsSuim fa fb fc s
  | .muls_suid fa fb fc => Sys2Proof.Machine.execMulsSuid fa fb fc s
  | .mult fa fb fc => Sys2Proof.Machine.execMult fa fb fc s
  | .mult_c fa fb fc => Sys2Proof.Machine.execMultC fa fb fc s
  | .mult_m fa fb fc => Sys2Proof.Machine.execMultM fa fb fc s
  | .mult_d fa fb fc => Sys2Proof.Machine.execMultD fa fb fc s
  | .mult_u fa fb fc => Sys2Proof.Machine.execMultU fa fb fc s
  | .mult_uc fa fb fc => Sys2Proof.Machine.execMultUc fa fb fc s
  | .mult_um fa fb fc => Sys2Proof.Machine.execMultUm fa fb fc s
  | .mult_ud fa fb fc => Sys2Proof.Machine.execMultUd fa fb fc s
  | .mult_su fa fb fc => Sys2Proof.Machine.execMultSu fa fb fc s
  | .mult_suc fa fb fc => Sys2Proof.Machine.execMultSuc fa fb fc s
  | .mult_sum fa fb fc => Sys2Proof.Machine.execMultSum fa fb fc s
  | .mult_sud fa fb fc => Sys2Proof.Machine.execMultSud fa fb fc s
  | .mult_sui fa fb fc => Sys2Proof.Machine.execMultSui fa fb fc s
  | .mult_suic fa fb fc => Sys2Proof.Machine.execMultSuic fa fb fc s
  | .mult_suim fa fb fc => Sys2Proof.Machine.execMultSuim fa fb fc s
  | .mult_suid fa fb fc => Sys2Proof.Machine.execMultSuid fa fb fc s
  | .divs fa fb fc => Sys2Proof.Machine.execDivs fa fb fc s
  | .divs_c fa fb fc => Sys2Proof.Machine.execDivsC fa fb fc s
  | .divs_m fa fb fc => Sys2Proof.Machine.execDivsM fa fb fc s
  | .divs_d fa fb fc => Sys2Proof.Machine.execDivsD fa fb fc s
  | .divs_u fa fb fc => Sys2Proof.Machine.execDivsU fa fb fc s
  | .divs_uc fa fb fc => Sys2Proof.Machine.execDivsUc fa fb fc s
  | .divs_um fa fb fc => Sys2Proof.Machine.execDivsUm fa fb fc s
  | .divs_ud fa fb fc => Sys2Proof.Machine.execDivsUd fa fb fc s
  | .divs_su fa fb fc => Sys2Proof.Machine.execDivsSu fa fb fc s
  | .divs_suc fa fb fc => Sys2Proof.Machine.execDivsSuc fa fb fc s
  | .divs_sum fa fb fc => Sys2Proof.Machine.execDivsSum fa fb fc s
  | .divs_sud fa fb fc => Sys2Proof.Machine.execDivsSud fa fb fc s
  | .divs_sui fa fb fc => Sys2Proof.Machine.execDivsSui fa fb fc s
  | .divs_suic fa fb fc => Sys2Proof.Machine.execDivsSuic fa fb fc s
  | .divs_suim fa fb fc => Sys2Proof.Machine.execDivsSuim fa fb fc s
  | .divs_suid fa fb fc => Sys2Proof.Machine.execDivsSuid fa fb fc s
  | .divt fa fb fc => Sys2Proof.Machine.execDivt fa fb fc s
  | .divt_c fa fb fc => Sys2Proof.Machine.execDivtC fa fb fc s
  | .divt_m fa fb fc => Sys2Proof.Machine.execDivtM fa fb fc s
  | .divt_d fa fb fc => Sys2Proof.Machine.execDivtD fa fb fc s
  | .divt_u fa fb fc => Sys2Proof.Machine.execDivtU fa fb fc s
  | .divt_uc fa fb fc => Sys2Proof.Machine.execDivtUc fa fb fc s
  | .divt_um fa fb fc => Sys2Proof.Machine.execDivtUm fa fb fc s
  | .divt_ud fa fb fc => Sys2Proof.Machine.execDivtUd fa fb fc s
  | .divt_su fa fb fc => Sys2Proof.Machine.execDivtSu fa fb fc s
  | .divt_suc fa fb fc => Sys2Proof.Machine.execDivtSuc fa fb fc s
  | .divt_sum fa fb fc => Sys2Proof.Machine.execDivtSum fa fb fc s
  | .divt_sud fa fb fc => Sys2Proof.Machine.execDivtSud fa fb fc s
  | .divt_sui fa fb fc => Sys2Proof.Machine.execDivtSui fa fb fc s
  | .divt_suic fa fb fc => Sys2Proof.Machine.execDivtSuic fa fb fc s
  | .divt_suim fa fb fc => Sys2Proof.Machine.execDivtSuim fa fb fc s
  | .divt_suid fa fb fc => Sys2Proof.Machine.execDivtSuid fa fb fc s
  | .cvtts fb fc => Sys2Proof.Machine.execCvtts fb fc s
  | .cvtts_c fb fc => Sys2Proof.Machine.execCvttsC fb fc s
  | .cvtts_m fb fc => Sys2Proof.Machine.execCvttsM fb fc s
  | .cvtts_d fb fc => Sys2Proof.Machine.execCvttsD fb fc s
  | .cvtts_u fb fc => Sys2Proof.Machine.execCvttsU fb fc s
  | .cvtts_uc fb fc => Sys2Proof.Machine.execCvttsUc fb fc s
  | .cvtts_um fb fc => Sys2Proof.Machine.execCvttsUm fb fc s
  | .cvtts_ud fb fc => Sys2Proof.Machine.execCvttsUd fb fc s
  | .cvtts_su fb fc => Sys2Proof.Machine.execCvttsSu fb fc s
  | .cvtts_suc fb fc => Sys2Proof.Machine.execCvttsSuc fb fc s
  | .cvtts_sum fb fc => Sys2Proof.Machine.execCvttsSum fb fc s
  | .cvtts_sud fb fc => Sys2Proof.Machine.execCvttsSud fb fc s
  | .cvtts_sui fb fc => Sys2Proof.Machine.execCvttsSui fb fc s
  | .cvtts_suic fb fc => Sys2Proof.Machine.execCvttsSuic fb fc s
  | .cvtts_suim fb fc => Sys2Proof.Machine.execCvttsSuim fb fc s
  | .cvtts_suid fb fc => Sys2Proof.Machine.execCvttsSuid fb fc s
  | .cvtqs fb fc => Sys2Proof.Machine.execCvtqs fb fc s
  | .cvtqs_c fb fc => Sys2Proof.Machine.execCvtqsC fb fc s
  | .cvtqs_m fb fc => Sys2Proof.Machine.execCvtqsM fb fc s
  | .cvtqs_d fb fc => Sys2Proof.Machine.execCvtqsD fb fc s
  | .cvtqs_sui fb fc => Sys2Proof.Machine.execCvtqsSui fb fc s
  | .cvtqs_suic fb fc => Sys2Proof.Machine.execCvtqsSuic fb fc s
  | .cvtqs_suim fb fc => Sys2Proof.Machine.execCvtqsSuim fb fc s
  | .cvtqs_suid fb fc => Sys2Proof.Machine.execCvtqsSuid fb fc s
  | .cvtqt fb fc => Sys2Proof.Machine.execCvtqt fb fc s
  | .cvtqt_c fb fc => Sys2Proof.Machine.execCvtqtC fb fc s
  | .cvtqt_m fb fc => Sys2Proof.Machine.execCvtqtM fb fc s
  | .cvtqt_d fb fc => Sys2Proof.Machine.execCvtqtD fb fc s
  | .cvtqt_sui fb fc => Sys2Proof.Machine.execCvtqtSui fb fc s
  | .cvtqt_suic fb fc => Sys2Proof.Machine.execCvtqtSuic fb fc s
  | .cvtqt_suim fb fc => Sys2Proof.Machine.execCvtqtSuim fb fc s
  | .cvtqt_suid fb fc => Sys2Proof.Machine.execCvtqtSuid fb fc s
  | .cmptun fa fb fc => Sys2Proof.Machine.execCmptun fa fb fc s
  | .cmptun_su fa fb fc => Sys2Proof.Machine.execCmptunSu fa fb fc s
  | .cmpteq fa fb fc => Sys2Proof.Machine.execCmpteq fa fb fc s
  | .cmpteq_su fa fb fc => Sys2Proof.Machine.execCmpteqSu fa fb fc s
  | .cmptlt fa fb fc => Sys2Proof.Machine.execCmptlt fa fb fc s
  | .cmptlt_su fa fb fc => Sys2Proof.Machine.execCmptltSu fa fb fc s
  | .cmptle fa fb fc => Sys2Proof.Machine.execCmptle fa fb fc s
  | .cmptle_su fa fb fc => Sys2Proof.Machine.execCmptleSu fa fb fc s
  | .cvtst fb fc => Sys2Proof.Machine.execCvtst fb fc s
  | .cvtst_s fb fc => Sys2Proof.Machine.execCvtstS fb fc s
  | .cvttq fb fc => Sys2Proof.Machine.execCvttq fb fc s
  | .cvttq_c fb fc => Sys2Proof.Machine.execCvttqC fb fc s
  | .cvttq_m fb fc => Sys2Proof.Machine.execCvttqM fb fc s
  | .cvttq_d fb fc => Sys2Proof.Machine.execCvttqD fb fc s
  | .cvttq_v fb fc => Sys2Proof.Machine.execCvttqV fb fc s
  | .cvttq_vc fb fc => Sys2Proof.Machine.execCvttqVc fb fc s
  | .cvttq_vm fb fc => Sys2Proof.Machine.execCvttqVm fb fc s
  | .cvttq_vd fb fc => Sys2Proof.Machine.execCvttqVd fb fc s
  | .cvttq_sv fb fc => Sys2Proof.Machine.execCvttqSv fb fc s
  | .cvttq_svc fb fc => Sys2Proof.Machine.execCvttqSvc fb fc s
  | .cvttq_svm fb fc => Sys2Proof.Machine.execCvttqSvm fb fc s
  | .cvttq_svd fb fc => Sys2Proof.Machine.execCvttqSvd fb fc s
  | .cvttq_svi fb fc => Sys2Proof.Machine.execCvttqSvi fb fc s
  | .cvttq_svic fb fc => Sys2Proof.Machine.execCvttqSvic fb fc s
  | .cvttq_svim fb fc => Sys2Proof.Machine.execCvttqSvim fb fc s
  | .cvttq_svid fb fc => Sys2Proof.Machine.execCvttqSvid fb fc s
  | .addf fa fb fc => Sys2Proof.Machine.execAddf fa fb fc s
  | .addf_c fa fb fc => Sys2Proof.Machine.execAddfC fa fb fc s
  | .addf_u fa fb fc => Sys2Proof.Machine.execAddfU fa fb fc s
  | .addf_uc fa fb fc => Sys2Proof.Machine.execAddfUc fa fb fc s
  | .addf_s fa fb fc => Sys2Proof.Machine.execAddfS fa fb fc s
  | .addf_sc fa fb fc => Sys2Proof.Machine.execAddfSc fa fb fc s
  | .addf_su fa fb fc => Sys2Proof.Machine.execAddfSu fa fb fc s
  | .addf_suc fa fb fc => Sys2Proof.Machine.execAddfSuc fa fb fc s
  | .addg fa fb fc => Sys2Proof.Machine.execAddg fa fb fc s
  | .addg_c fa fb fc => Sys2Proof.Machine.execAddgC fa fb fc s
  | .addg_u fa fb fc => Sys2Proof.Machine.execAddgU fa fb fc s
  | .addg_uc fa fb fc => Sys2Proof.Machine.execAddgUc fa fb fc s
  | .addg_s fa fb fc => Sys2Proof.Machine.execAddgS fa fb fc s
  | .addg_sc fa fb fc => Sys2Proof.Machine.execAddgSc fa fb fc s
  | .addg_su fa fb fc => Sys2Proof.Machine.execAddgSu fa fb fc s
  | .addg_suc fa fb fc => Sys2Proof.Machine.execAddgSuc fa fb fc s
  | .subf fa fb fc => Sys2Proof.Machine.execSubf fa fb fc s
  | .subf_c fa fb fc => Sys2Proof.Machine.execSubfC fa fb fc s
  | .subf_u fa fb fc => Sys2Proof.Machine.execSubfU fa fb fc s
  | .subf_uc fa fb fc => Sys2Proof.Machine.execSubfUc fa fb fc s
  | .subf_s fa fb fc => Sys2Proof.Machine.execSubfS fa fb fc s
  | .subf_sc fa fb fc => Sys2Proof.Machine.execSubfSc fa fb fc s
  | .subf_su fa fb fc => Sys2Proof.Machine.execSubfSu fa fb fc s
  | .subf_suc fa fb fc => Sys2Proof.Machine.execSubfSuc fa fb fc s
  | .subg fa fb fc => Sys2Proof.Machine.execSubg fa fb fc s
  | .subg_c fa fb fc => Sys2Proof.Machine.execSubgC fa fb fc s
  | .subg_u fa fb fc => Sys2Proof.Machine.execSubgU fa fb fc s
  | .subg_uc fa fb fc => Sys2Proof.Machine.execSubgUc fa fb fc s
  | .subg_s fa fb fc => Sys2Proof.Machine.execSubgS fa fb fc s
  | .subg_sc fa fb fc => Sys2Proof.Machine.execSubgSc fa fb fc s
  | .subg_su fa fb fc => Sys2Proof.Machine.execSubgSu fa fb fc s
  | .subg_suc fa fb fc => Sys2Proof.Machine.execSubgSuc fa fb fc s
  | .mulf fa fb fc => Sys2Proof.Machine.execMulf fa fb fc s
  | .mulf_c fa fb fc => Sys2Proof.Machine.execMulfC fa fb fc s
  | .mulf_u fa fb fc => Sys2Proof.Machine.execMulfU fa fb fc s
  | .mulf_uc fa fb fc => Sys2Proof.Machine.execMulfUc fa fb fc s
  | .mulf_s fa fb fc => Sys2Proof.Machine.execMulfS fa fb fc s
  | .mulf_sc fa fb fc => Sys2Proof.Machine.execMulfSc fa fb fc s
  | .mulf_su fa fb fc => Sys2Proof.Machine.execMulfSu fa fb fc s
  | .mulf_suc fa fb fc => Sys2Proof.Machine.execMulfSuc fa fb fc s
  | .mulg fa fb fc => Sys2Proof.Machine.execMulg fa fb fc s
  | .mulg_c fa fb fc => Sys2Proof.Machine.execMulgC fa fb fc s
  | .mulg_u fa fb fc => Sys2Proof.Machine.execMulgU fa fb fc s
  | .mulg_uc fa fb fc => Sys2Proof.Machine.execMulgUc fa fb fc s
  | .mulg_s fa fb fc => Sys2Proof.Machine.execMulgS fa fb fc s
  | .mulg_sc fa fb fc => Sys2Proof.Machine.execMulgSc fa fb fc s
  | .mulg_su fa fb fc => Sys2Proof.Machine.execMulgSu fa fb fc s
  | .mulg_suc fa fb fc => Sys2Proof.Machine.execMulgSuc fa fb fc s
  | .divf fa fb fc => Sys2Proof.Machine.execDivf fa fb fc s
  | .divf_c fa fb fc => Sys2Proof.Machine.execDivfC fa fb fc s
  | .divf_u fa fb fc => Sys2Proof.Machine.execDivfU fa fb fc s
  | .divf_uc fa fb fc => Sys2Proof.Machine.execDivfUc fa fb fc s
  | .divf_s fa fb fc => Sys2Proof.Machine.execDivfS fa fb fc s
  | .divf_sc fa fb fc => Sys2Proof.Machine.execDivfSc fa fb fc s
  | .divf_su fa fb fc => Sys2Proof.Machine.execDivfSu fa fb fc s
  | .divf_suc fa fb fc => Sys2Proof.Machine.execDivfSuc fa fb fc s
  | .divg fa fb fc => Sys2Proof.Machine.execDivg fa fb fc s
  | .divg_c fa fb fc => Sys2Proof.Machine.execDivgC fa fb fc s
  | .divg_u fa fb fc => Sys2Proof.Machine.execDivgU fa fb fc s
  | .divg_uc fa fb fc => Sys2Proof.Machine.execDivgUc fa fb fc s
  | .divg_s fa fb fc => Sys2Proof.Machine.execDivgS fa fb fc s
  | .divg_sc fa fb fc => Sys2Proof.Machine.execDivgSc fa fb fc s
  | .divg_su fa fb fc => Sys2Proof.Machine.execDivgSu fa fb fc s
  | .divg_suc fa fb fc => Sys2Proof.Machine.execDivgSuc fa fb fc s
  | .cvtdg fb fc => Sys2Proof.Machine.execCvtdg fb fc s
  | .cvtdg_c fb fc => Sys2Proof.Machine.execCvtdgC fb fc s
  | .cvtdg_u fb fc => Sys2Proof.Machine.execCvtdgU fb fc s
  | .cvtdg_uc fb fc => Sys2Proof.Machine.execCvtdgUc fb fc s
  | .cvtdg_s fb fc => Sys2Proof.Machine.execCvtdgS fb fc s
  | .cvtdg_sc fb fc => Sys2Proof.Machine.execCvtdgSc fb fc s
  | .cvtdg_su fb fc => Sys2Proof.Machine.execCvtdgSu fb fc s
  | .cvtdg_suc fb fc => Sys2Proof.Machine.execCvtdgSuc fb fc s
  | .cvtgf fb fc => Sys2Proof.Machine.execCvtgf fb fc s
  | .cvtgf_c fb fc => Sys2Proof.Machine.execCvtgfC fb fc s
  | .cvtgf_u fb fc => Sys2Proof.Machine.execCvtgfU fb fc s
  | .cvtgf_uc fb fc => Sys2Proof.Machine.execCvtgfUc fb fc s
  | .cvtgf_s fb fc => Sys2Proof.Machine.execCvtgfS fb fc s
  | .cvtgf_sc fb fc => Sys2Proof.Machine.execCvtgfSc fb fc s
  | .cvtgf_su fb fc => Sys2Proof.Machine.execCvtgfSu fb fc s
  | .cvtgf_suc fb fc => Sys2Proof.Machine.execCvtgfSuc fb fc s
  | .cvtgd fb fc => Sys2Proof.Machine.execCvtgd fb fc s
  | .cvtgd_c fb fc => Sys2Proof.Machine.execCvtgdC fb fc s
  | .cvtgd_u fb fc => Sys2Proof.Machine.execCvtgdU fb fc s
  | .cvtgd_uc fb fc => Sys2Proof.Machine.execCvtgdUc fb fc s
  | .cvtgd_s fb fc => Sys2Proof.Machine.execCvtgdS fb fc s
  | .cvtgd_sc fb fc => Sys2Proof.Machine.execCvtgdSc fb fc s
  | .cvtgd_su fb fc => Sys2Proof.Machine.execCvtgdSu fb fc s
  | .cvtgd_suc fb fc => Sys2Proof.Machine.execCvtgdSuc fb fc s
  | .cvtgq fb fc => Sys2Proof.Machine.execCvtgq fb fc s
  | .cvtgq_c fb fc => Sys2Proof.Machine.execCvtgqC fb fc s
  | .cvtgq_v fb fc => Sys2Proof.Machine.execCvtgqV fb fc s
  | .cvtgq_vc fb fc => Sys2Proof.Machine.execCvtgqVc fb fc s
  | .cvtgq_s fb fc => Sys2Proof.Machine.execCvtgqS fb fc s
  | .cvtgq_sc fb fc => Sys2Proof.Machine.execCvtgqSc fb fc s
  | .cvtgq_sv fb fc => Sys2Proof.Machine.execCvtgqSv fb fc s
  | .cvtgq_svc fb fc => Sys2Proof.Machine.execCvtgqSvc fb fc s
  | .cvtqf fb fc => Sys2Proof.Machine.execCvtqf fb fc s
  | .cvtqf_c fb fc => Sys2Proof.Machine.execCvtqfC fb fc s
  | .cvtqg fb fc => Sys2Proof.Machine.execCvtqg fb fc s
  | .cvtqg_c fb fc => Sys2Proof.Machine.execCvtqgC fb fc s
  | .cmpgeq fa fb fc => Sys2Proof.Machine.execCmpgeq fa fb fc s
  | .cmpgeq_s fa fb fc => Sys2Proof.Machine.execCmpgeqS fa fb fc s
  | .cmpglt fa fb fc => Sys2Proof.Machine.execCmpglt fa fb fc s
  | .cmpglt_s fa fb fc => Sys2Proof.Machine.execCmpgltS fa fb fc s
  | .cmpgle fa fb fc => Sys2Proof.Machine.execCmpgle fa fb fc s
  | .cmpgle_s fa fb fc => Sys2Proof.Machine.execCmpgleS fa fb fc s
  | .trapb => Sys2Proof.Machine.execTrapb s
  | .excb => Sys2Proof.Machine.execExcb s
  | .mb => Sys2Proof.Machine.execMb s
  | .wmb => Sys2Proof.Machine.execWmb s
  | .fetch rb => Sys2Proof.Machine.execFetch rb s
  | .fetch_m rb => Sys2Proof.Machine.execFetchM rb s
  | .rpcc ra => Sys2Proof.Machine.execRpcc ra s
  | .rc ra => Sys2Proof.Machine.execRc ra s
  | .rs ra => Sys2Proof.Machine.execRs ra s
  | .call_pal fn => Sys2Proof.Machine.execCallPal fn s
  | .hw_mfpr ra rb index => Sys2Proof.Machine.execHwMfpr ra rb index s
  | .hw_ld ra rb phys alt wrtck quad vpte lock disp => Sys2Proof.Machine.execHwLd ra rb phys alt wrtck quad vpte lock disp s
  | .hw_mtpr ra rb index => Sys2Proof.Machine.execHwMtpr ra rb index s
  | .hw_rei mbz => Sys2Proof.Machine.execHwRei mbz s
  | .hw_rei_stall mbz => Sys2Proof.Machine.execHwReiStall mbz s
  | .hw_st ra rb phys alt mbz13 quad mbz11 cond disp => Sys2Proof.Machine.execHwSt ra rb phys alt mbz13 quad mbz11 cond disp s

end Sys2Proof.Machine
end

