-- ==== Sys2Proof/Machine/Srom.lean ====
section
/-!
DEFINITION. The serial ROM image that a chip reset may load into the Icache (70_reset_and_hazards.md R1088, R1089): one
record of 200 bits per 16 bytes; bit n of a record is position n of the fill scan path.
-/

namespace Sys2Proof.Machine

/-- A record. -/
abbrev SromRecord := BitVec 200

/-- The field whose bit k is at the position f k. -/
def scanField (r : SromRecord) (n : Nat) (f : Nat → Nat) : BitVec n :=
  BitVec.ofNat n ((List.range n).foldl (fun v k => v + (r.getLsbD (f k)).toNat * 2 ^ k) 0)

/-- Tag bit 13 + k at 29 - k. -/
def sromTag (r : SromRecord) : BitVec 30 := scanField r 30 (fun k => 29 - k)

def sromAsm (r : SromRecord) : Bool := r.getLsbD 30

def sromAsn (r : SromRecord) : BitVec 7 := scanField r 7 (fun k => 37 - k)

def sromPhysical (r : SromRecord) : Bool := r.getLsbD 38

def sromTagParity (r : SromRecord) : Bool := r.getLsbD 41

/-- Instruction j of the four. -/
def sromInstr (r : SromRecord) (j : Nat) : Long :=
  scanField r 32 (fun k => (bif Nat.blt j 2 then 42 else 128) + 2 * k + j % 2)

/-- The 20 predecode bits. -/
def sromPredecode (r : SromRecord) : BitVec 20 :=
  scanField r 20 (fun k => (bif Nat.blt k 10 then 106 else 118) + 2 * (k % 5) + k / 5 % 2)

def sromPredecodeParity (r : SromRecord) : Bool := r.getLsbD 116

def sromDataParity (r : SromRecord) : Bool := r.getLsbD 117

/-! ## The predecode function of Appendix C (R1089) -/

/-- `instrpredecode`: out4 ++ out3 ++ out2 ++ out1 ++ out0. -/
def instrPredecode (w : Long) : BitVec 5 :=
  let op := (w.extractLsb' 26 6).toNat
  let ra31 := (w.extractLsb' 21 5).toNat == 31
  let fn := (w.extractLsb' 5 8).toNat
  let jt := (w.extractLsb' 14 2).toNat
  let idu := w.getLsbD 8
  let is (l : List Nat) : Bool := l.elem op
  let ipr := is [0x1D, 0x19]
  let e0Only := is [0x24, 0x25, 0x26, 0x27, 0x0F, 0x2A, 0x2B, 0x2C, 0x2D, 0x2E, 0x2F, 0x1F, 0x18, 0x12, 0x13] ||
    (ipr && !idu) || is [0x01, 0x02, 0x03, 0x04, 0x05, 0x06, 0x07, 0x0A, 0x0C, 0x0D, 0x0E, 0x14, 0x1C]
  let e1Only := is [0x30, 0x34, 0x38, 0x39, 0x3A, 0x3B, 0x3C, 0x3D, 0x3E, 0x3F, 0x1A, 0x1E, 0x00] || (ipr && idu)
  let ee := is [0x10, 0x11, 0x28, 0x29, 0x08, 0x09, 0x20, 0x21, 0x22, 0x23, 0x1B] || (op == 0x0B && !ra31)
  let lnoop := op == 0x0B && ra31
  let fadd := (op == 0x17 && fn != 0x20) || (is [0x15, 0x16] && fn % 16 != 2) || is [0x31, 0x32, 0x33, 0x35, 0x36, 0x37]
  let fmul := op == 0x16 && fn % 16 == 2
  let fe := op == 0x17 && fn == 0x20
  let brType := Nat.ble 0x30 op || is [0x1A, 0x00, 0x1E]
  let ld := is [0x28, 0x29, 0x0B, 0x20, 0x21, 0x22, 0x23, 0x1B]
  let store := is [0x24, 0x25, 0x26, 0x27, 0x0F, 0x2C, 0x2D, 0x2E, 0x2F, 0x18, 0x1F, 0x2A, 0x2B]
  let bsr := op == 0x34
  let retRei := (op == 0x1A && jt == 2) || (op == 0x1E && jt != 3)
  let jmp := op == 0x1A && jt == 0
  let jsr := op == 0x1A && jt == 1
  let jsrCor := op == 0x1A && jt == 3
  let condBr := is [0x31, 0x32, 0x33, 0x35, 0x36, 0x37, 0x38, 0x39, 0x3A, 0x3B, 0x3C, 0x3D, 0x3E, 0x3F]
  let out0 := op == 0x30 || bsr || jmp || jsr || (ee && !ld) || (e0Only && !store)
  let out1 := retRei || (e1Only && !brType) || jmp || jsrCor || jsr || lnoop || (fadd && !brType) || fe
  let out2 := op == 0x00 || bsr || jsrCor || e0Only || jsr || fmul || fe
  let out3 := (e1Only && condBr) || (e1Only && !brType) || fadd || fmul || fe
  let out4 := ee || lnoop || e0Only || fadd || fmul || fe
  BitVec.ofBool out4 ++ BitVec.ofBool out3 ++ BitVec.ofBool out2 ++ BitVec.ofBool out1 ++ BitVec.ofBool out0

/-- The predecode bits of the four instructions as stored, bit 2 of each inverted (R1089). -/
def expectedPredecode (r : SromRecord) : BitVec 20 :=
  (4 ^^^ instrPredecode (sromInstr r 3)) ++ (4 ^^^ instrPredecode (sromInstr r 2)) ++
    (4 ^^^ instrPredecode (sromInstr r 1)) ++ (4 ^^^ instrPredecode (sromInstr r 0))

/-- The record fills its octaword: both tag valid bits are set. With one alone nothing is taken to be valid (DESIGN CHOICE, log
entry 29). -/
def sromValid (r : SromRecord) : Bool := r.getLsbD 39 && r.getLsbD 40

/-- A record is well formed (93_implementation_defined.md U47): the predecode bits are those of Appendix C. -/
def sromRecordOk (r : SromRecord) : Bool := !sromValid r || sromPredecode r == expectedPredecode r

/-- Which parity is wrong (R1089): bit 0 that of the data or of the predecode bits, bit 1 that of the tag. A fetch of the block
meets it (61_errors.md R1032). -/
def sromBad (r : SromRecord) : BitVec 2 :=
  let tag := sromTagParity r != xor (eparity (sromTag r)) (xor (sromPhysical r) (eparity (sromAsn r)))
  let data := sromDataParity r != xor (xor (eparity (sromInstr r 0)) (eparity (sromInstr r 1)))
    (xor (eparity (sromInstr r 2)) (eparity (sromInstr r 3)))
  BitVec.ofBool tag ++ BitVec.ofBool (data || sromPredecodeParity r != eparity (sromPredecode r))

/-- The words of record i: Icache byte offsets 16i to 16i + 15 of the page that the tag names (R1088). -/
def sromWords (i : Nat) (r : SromRecord) : List SromWord :=
  bif !sromValid r then []
  else (List.range 4).map fun j =>
    { physical := sromPhysical r, asm := sromAsm r, asn := sromAsn r,
      addr := (sromTag r).toNat * 8192 + 16 * i + 4 * j, word := sromInstr r j, bad := sromBad r }

/-- The words of the records from record i on. -/
def sromImageFrom : Nat → List SromRecord → List SromWord
  | _, [] => []
  | i, r :: rest => sromWords i r ++ sromImageFrom (i + 1) rest

/-- An image is absent, or 512 well-formed records (R1088). -/
def sromImageOk (l : List SromRecord) : Bool := l.isEmpty || (l.length == 512 && l.all sromRecordOk)

end Sys2Proof.Machine
end

