-- ==== Sys2Proof/Machine/Errors.lean ====
section
/-!
DEFINITION. What an error records, and the bad data that it leaves (61_errors.md; 12_state_mtu_iprs.md R195;
13_state_cbu_iprs.md R246 to R268). The machine check that it raises is owed from then on, and instructions before it may use the
bad data (60_exceptions.md R974).
-/

namespace Sys2Proof.Machine

/-! ## Data for waiting loads -/

/-- What a load writes to its register for the bytes that it reads (40_load_store.md R510 to R516, R530 to R533; 48_palcode.md
R932). -/
def loadFormat (opcode : BitVec 6) (size : Nat) (v : Quad) : Quad :=
  match opcode.toNat with
  | 0x20 => loadF (v.setWidth 32)
  | 0x21 => swapG v
  | 0x22 => loadS (v.setWidth 32)
  | 0x23 => v
  | _ => bif size == 4 then sextLong v else v

/-- The bytes that a load has read, from what it has written to its register. -/
def loadedBytes (opcode : BitVec 6) (v : Quad) : Quad :=
  match opcode.toNat with
  | 0x20 => (storeF v).setWidth 64
  | 0x21 => swapG v
  | 0x22 => (storeS v).setWidth 64
  | _ => v

/-- Bytes for a load, but those that come from older stores: what was read there before came before the stores
(20_memory.md R333). -/
def MafEntry.keepOwn (s : State) (e : MafEntry) (v : Quad) : Quad :=
  let own : Quad := (bitsOf (e.own.setWidth 32)).setWidth 64
  (loadedBytes e.opcode (s.readSlot e.slot) &&& own) ||| (v &&& ~~~own)

/-- A waiting load receives bytes that are not the ones it has written to its register (61_errors.md R1040). -/
def MafEntry.deliver (s : State) (e : MafEntry) (v : Quad) : State :=
  s.writeSlot (loadFormat e.opcode e.size (lowBytes e.size v)) e.slot

/-- The loads that satisfy a test have returned. -/
def State.returned (s : State) (p : MafEntry → Bool) : State :=
  { s with memsys := { s.memsys with maf := s.memsys.maf.filter (fun e => !p e) } }

/-- The waiting loads that satisfy a test receive data, and have returned. -/
def State.deliver (s : State) (p : MafEntry → Bool) (data : MafEntry → Quad) : State :=
  ((s.memsys.maf.filter p).foldl (fun t e => e.deliver t (data e)) s).returned p

/-- The waiting loads that satisfy a test receive free values, and have returned. -/
def State.deliverFree (s : State) (p : MafEntry → Bool) : State :=
  ((s.memsys.maf.filter p).foldl (fun t e => (e.deliver t t.drawValue).drawn) s).returned p

/-- The load has been accepted and reads from n bytes at an address. The CBU registers are on no bus (13_state_cbu_iprs.md
R240). -/
def MafEntry.readsFrom (a n : Nat) (e : MafEntry) : Bool := !e.waits && !inCbu e.addr && within a n e.addr.toNat

/-- A machine check is owed; `now` says that it comes before the next instruction (R974). -/
def State.oweCheck (now : Bool) (s : State) : State := { s with machineChecks := s.machineChecks ++ [now] }

/-- Longwords that the Icache may hold instead of memory's, until it is flushed. -/
def State.fetchable (s : State) (l : Longs) : State :=
  { s with model := { s.model with stale := { s.model.stale with settled := l ++ s.model.stale.settled } } }

/-- The Icache may hold free words for the longwords of n bytes. -/
def State.fetchableFree (s : State) (a n : Nat) : State :=
  let l := longsIn a n
  let t := s.fetchable (freeLongs s.model.draws l)
  { t with model := { t.model with draws := s.model.draws + l.length } }

/-- Nothing is known of n bytes of cacheable memory. -/
def State.poison (s : State) (a n : Nat) : State := { s with memsys := s.memsys.onCaches (·.poison (bytesIn a n)) }

/-! ## Internal errors -/

/-- An Icache parity error in ICPERR_STAT (11_state_idu_iprs.md R130): bit 0 DPE, 1 TPE. They lock on the first error
(10_state.md R77), whatever TMR holds. -/
def State.setIcperr (s : State) (bits : BitVec 3) : State :=
  { s with idu := { s.idu with
      icperrStat := bif s.idu.icperrStat &&& 3 == 0 then s.idu.icperrStat ||| bits else s.idu.icperrStat } }

/-- SC_STAT<SC_CMD> of a transaction (13_state_cbu_iprs.md R247, Table 5-28); x is the bit that the table leaves open. -/
def ScacheOp.code (x : Bool) : ScacheOp → BitVec 5
  | .setShared => (1 : BitVec 1) ++ BitVec.ofBool x ++ (6 : BitVec 3)
  | .readDirty => (1 : BitVec 1) ++ BitVec.ofBool x ++ (5 : BitVec 3)
  | .invalidate => (1 : BitVec 1) ++ BitVec.ofBool x ++ (4 : BitVec 3)
  | .victim => (1 : BitVec 1) ++ BitVec.ofBool x ++ (1 : BitVec 3)
  | .iread => 0x01
  | .dread => 0x09
  | .dwrite => 0x0B

/-- An Scache parity error in SC_STAT and SC_ADDR (R246, R248): loaded and locked, or SC_SCND_ERR. -/
def State.scacheError (s : State) (tperr : BitVec 3) (dperr : BitVec 8) (op : ScacheOp) (a : PAddr) : State :=
  bif s.cbu.scLocked then { s with cbu := { s.cbu with scStat := s.cbu.scStat ||| 0x10000 } }
  else
    { s.drawn with cbu := { s.cbu with
        scStat := (0 : BitVec 1) ++ op.code (bit s.drawValue 0) ++ dperr ++ tperr
        scLocked := true
        scAddr := a } }

/-- What an Scache parity error leaves (61_errors.md R1033 to R1036): for an Istream read words that the Icache may hold; for
anything else a block of which nothing is known, and free values for the loads that wait for it. -/
def State.scacheDamage (s : State) (op : ScacheOp) (a : PAddr) : State :=
  let block := s.cacheCfg.block a.toNat
  let n := s.cacheCfg.blockSize
  bif op == .iread then s.fetchableFree block n
  else (s.deliverFree (·.readsFrom block n)).poison block n

/-- A Dcache parity error in DC_PERR_STAT (12_state_mtu_iprs.md R195), and in VA and MM_STAT (61_errors.md R1037, R1038). The
errors of one reference fall in one cycle; those of two neighbouring loads are taken as of two cycles, so that the second sets
SEO (DESIGN CHOICE, log entry 27: R195 has two errors of one cycle, one in each pipe, set no SEO, and cycles are not modelled).
-/
def State.dcacheError (s : State) (which : BitVec 4) (va : Quad) (wr : Bool) (ra : Reg) (opcode : BitVec 6) : State :=
  let stat := bif s.mtu.dcPerrStat.getLsbD 1 then s.mtu.dcPerrStat ||| 1
    else which ++ (1 : BitVec 1) ++ s.mtu.dcPerrStat.extractLsb' 0 1
  { s with mtu := { s.mtu with dcPerrStat := stat } }.latchMm va (mmStatOf opcode ra { wr := wr })

/-- What a Dcache parity error leaves (R1037, R1038): a free value in the register of the load; lines at the index that may
differ from the Scache. -/
def State.dcacheDamage (s : State) (va : Quad) (wr : Bool) (slot : RegSlot) : State :=
  let t := bif wr then s else s.drawn.writeSlot s.drawValue slot
  { t with memsys := t.memsys.onCaches (·.staleDcache va.toNat) }

/-! ## External errors (13_state_cbu_iprs.md R262 to R267) -/

/-- BC_CONTROL<EI_DIS_ERR>: external errors are not reported (R253). -/
def State.eiErrorsOff (s : State) : Bool := s.cbu.bcControl.getLsbD 15

/-- The Bcache tag probe of an error is kept, if the Bcache is enabled (R260; 61_errors.md R1040), of noncacheable transactions
too (DESIGN CHOICE, log entry 27: the spec does not say whether it is enabled for them). -/
def Cbu.tagProbed (c : Cbu) (probe : BitVec 27) : Cbu :=
  bif c.bcOn then { c with bcTagAddr := probe, bcTagLocked := true } else c

/-- A hard external error (R263): SEO_HRD_ERR if one is already recorded, otherwise loaded and locked. `bits` are the
bits of EI_STAT<35:28> that the error sets; COR_ECC_ERR stays. -/
def Cbu.hardError (c : Cbu) (bits : BitVec 8) (a : PAddr) (syndrome : BitVec 16) (probe : BitVec 27) : Cbu :=
  bif c.uncorrectable then { c with eiStat := c.eiStat ||| 0x80 }
  else { c with eiStat := (c.eiStat &&& 0x08) ||| bits, eiLocked := true, eiAddr := a, fillSyn := syndrome }.tagProbed probe

/-- The Bcache tag that an address indexes, as BC_TAG_ADDR has it. -/
def State.tagProbe (s : State) (a : PAddr) : BitVec 27 := (s.memsys.caches.bcLine s.cacheCfg a.toNat).shown s.cacheCfg a.toNat

/-- EI_ES and FIL_IRD as bits of EI_STAT<35:28>. -/
def eiSource (system istream : Bool) : BitVec 8 := (bif system then 0x04 else 0) ||| (bif istream then 0x40 else 0)

/-- A correctable error on a fill (R263; 61_errors.md R1070): the request CRD, the registers if they hold no error, and without
BC_CONTROL<CORR_FILL_DAT> a flushed Dcache. BC_TAG_ADDR is unpredictable. -/
def State.correctableError (s : State) (system istream : Bool) (a : PAddr) (syn : BitVec 16) : State :=
  { s with
    idu := { s.idu with crdRequest := true }
    cbu := bif s.cbu.correctable || s.cbu.uncorrectable then s.cbu
      else { s.cbu with eiStat := 0x08 ||| eiSource system istream, eiAddr := a, fillSyn := syn }
    memsys := s.memsys.onCaches fun m =>
      let m' := bif s.cbu.bcControl.getLsbD 4 then m else m.flushDcache
      { m' with bcSeen := none } }

/-- The Bcache probe of a fill: for one of the system the probe that missed when its block was read (61_errors.md R1040). -/
def State.fillProbe (s : State) (system : Bool) (a : PAddr) : BitVec 27 :=
  let b := s.memsys.caches.bcLine s.cacheCfg a.toNat
  bif system && b.base s.cacheCfg == s.cacheCfg.block a.toNat then b.missed.getD (s.tagProbe a) else s.tagProbe a

/-- The free bits EI_ES and FIL_IRD of an error that leaves them undefined (90_conflicts.md C28). -/
def State.freeSource (s : State) : BitVec 8 := eiSource (bit s.drawValue 0) (bit s.drawValue 1)

/-- An uncorrectable error on a fill (61_errors.md R1040). -/
def State.fillFailed (s : State) (system istream : Bool) (a : PAddr) (syn : BitVec 16) : State :=
  { s with cbu := s.cbu.hardError (0x10 ||| eiSource system istream) a syn (s.fillProbe system a) }

/-- An octaword below the write buffer, free where nothing is known of it. -/
def State.belowOctaword (s : State) (a : Nat) : BitVec 128 := s.memsys.caches.busOctaword s.cacheCfg a

/-- The longword at an address of an octaword that begins at a. -/
def longOfOctaword (a : Nat) (data : BitVec 128) (x : Nat) : Long := (data >>> (8 * (x - a))).setWidth 32

/-- The longwords of an octaword below the write buffer, as received: `receive` gives what comes of the one sent from an
address. -/
def State.receivedLongs (s : State) (a : Nat) (receive : Nat → Long → Long) : Longs :=
  (longsIn a 16).map fun x => (x, receive x (s.memsys.caches.busLong s.cacheCfg x))

/-- The block of an address is valid in the Scache. -/
def State.inScache (s : State) (a : PAddr) : Bool := (s.memsys.caches.scFind s.cacheCfg a.toNat).isSome

/-- Stores to a block have gone on to the level below behind its fill, by WRITE BLOCK: so have the data that were filled. -/
def Caches.writtenThrough (c : CacheCfg) (a : Nat) (m : Caches) : Bool :=
  let through (b : SubBlock) : Bool := b.stored != 0 && !b.dirty
  (m.scFind c a).any fun l => bif c.blockSize == 64 then through l.sub0 || through l.sub1 else through (l.sub a)

/-- The bits of a longword that this processor has stored since the fill. -/
def State.storedBits (s : State) (a : Nat) : Long :=
  BitVec.ofNat 32 ((bytesIn a 4).foldr (fun x v => 256 * v + 255 * (s.memsys.caches.storedByte s.cacheCfg x).toNat) 0)

/-- A longword as it was sent: what lies under the stores that the Scache holds. -/
def State.sentLong (s : State) (a : Nat) : Long :=
  ((s.memsys.caches.underScache.find? fun p => p.1 == a).map (·.2)).getD (s.memsys.caches.busLong s.cacheCfg a)

/-- The caches hold an octaword as received, behind what stores have written there since, for the fill came before; the level
below them holds what was sent: below the Scache, and for a fill of the system below the Bcache (R1040, R1050;
21_external_interface.md R401, R414, R431, R434). -/
def State.cacheReceived (s : State) (system : Bool) (a : Nat) (receive : Nat → Long → Long) : State :=
  let mixed := fun x w => (s.belowLong x &&& s.storedBits x) ||| (receive x w &&& ~~~s.storedBits x)
  let sent := bif s.memsys.caches.writtenThrough s.cacheCfg a then [] else (longsIn a 16).map fun x => (x, s.sentLong x)
  let t := State.discard (s.receivedLongs a mixed) s
  { t with memsys := t.memsys.onCaches fun m =>
      bif system && s.cbu.bcOn then
        { m with
          underScache := m.underScache.map fun p => bif within a 16 p.1 then (p.1, receive p.1 p.2) else p
          underBcache := Longs.add sent m.underBcache }
      else { m with underScache := Longs.add sent m.underScache } }

/-- The bytes of a load in an octaword at an address. -/
def MafEntry.part (e : MafEntry) (a : Nat) (data : BitVec 128) : Quad := (data >>> (8 * (e.addr.toNat - a))).setWidth 64

/-- An octaword of fill data arrives as received: the loads that wait for it get what it gives each of them, but for what older
stores give them; the Icache may keep it; the caches hold it, if they hold the block. -/
def State.fillDelivered (s : State) (system istream : Bool) (addr : PAddr) (receive : Nat → Long → Long)
    (load : MafEntry → Quad) : State :=
  let a := (clearLow addr 4).toNat
  let t := bif istream then s.fetchable (s.receivedLongs a receive)
    else s.deliver (·.readsFrom a 16) fun e => e.keepOwn s (load e)
  bif !addr.getLsbD 39 && s.inScache addr then t.cacheReceived system a receive else t

/-- The data of a fill arrive with fill_error_h as the system drives them (R1050). -/
def State.fillDriven (s : State) (istream : Bool) (addr : PAddr) (data : BitVec 128) : State :=
  let a := (clearLow addr 4).toNat
  s.fillDelivered true istream addr (fun x _ => longOfOctaword a data x) (·.part a data)

/-- The data of a fill arrive with some bits inverted: a load receives what it has read with these bits inverted, whatever later
stores have written there (21_external_interface.md R431). -/
def State.fillInverted (s : State) (system istream : Bool) (addr : PAddr) (flip : BitVec 128) : State :=
  let a := (clearLow addr 4).toNat
  s.fillDelivered system istream addr (fun x w => w ^^^ longOfOctaword a flip x) fun e =>
    loadedBytes e.opcode (s.readSlot e.slot) ^^^ e.part a flip

/-- The Bcache's copy of an octaword of a fill goes on holding wrong bits (61_errors.md R1070): those that it gave, or that it
received from the system; of data that this processor takes as they are, only the check bits are wrong then. A block that has
been written through since has been written anew. -/
def State.keepFlip (s : State) (corrected system : Bool) (addr : PAddr) (flip : BitVec 128) (flipCheck : BitVec 16) : State :=
  let c := s.cacheCfg
  let asIs := !corrected && system && s.inScache addr
  let check := bif asIs then checkBits c.ecc flip ^^^ checkBits c.ecc 0 ^^^ flipCheck else flipCheck
  { s with memsys := s.memsys.onCaches fun m =>
      bif addr.getLsbD 39 || m.writtenThrough c addr.toNat then m
      else m.noteFlip c addr.toNat (bif asIs then 0 else flip) check }

/-- A parity error of a Bcache tag or of its status bits (R1042): EI_ES and FIL_IRD are free. FILL_SYN keeps its value (DESIGN
CHOICE, log entry 27). -/
def State.bcacheTagError (s : State) (tag control : Bool) (a : PAddr) (probe : BitVec 27) : State :=
  let bits : BitVec 8 := (bif tag then 1 else 0) ||| (bif control then 2 else 0) ||| s.freeSource
  { s.drawn with cbu := s.cbu.hardError bits a s.cbu.fillSyn probe }

/-- What a false tag leaves (R1042): the entry as read decides hits and victims, so nothing is known of the blocks that it
stands for and stood for, and of the address's; the loads that wait for it get free values. -/
def State.bcacheTagDamage (s : State) (istream : Bool) (addr : PAddr) (flip : BitVec 24) : State :=
  let c := s.cacheCfg
  let n := c.blockSize
  let block := c.block addr.toNat
  let old := s.memsys.caches.bcLine c addr.toNat
  let new := { BcLine.ofBits old.index (old.bits ^^^ flip) with flips := old.flips, missed := old.missed }
  let t := bif istream then s.fetchableFree block n else s.deliverFree (·.readsFrom block n)
  bif flip == 0 then s
  else { t with memsys := t.memsys.onCaches fun m =>
      let m' := m.poison (bytesIn block n ++ bytesIn (old.base c) n ++ bytesIn (new.base c) n)
      { m' with bcache := putBcLine new m.bcache, bcSeen := some (new.shown c addr.toNat) } }

/-- A parity error of a system command or address (R1052): EI_ES is set, FIL_IRD free; FILL_SYN keeps its value (DESIGN CHOICE,
log entry 27). -/
def State.commandError (s : State) (a : PAddr) : State :=
  { s.drawn with cbu := s.cbu.hardError (0x24 ||| (s.freeSource &&& 0x40)) a s.cbu.fillSyn (s.tagProbe a) }

end Sys2Proof.Machine
end

