-- ==== Sys2Proof/Machine/System.lean ====
section
/-!
DEFINITION. The system's side of the bus: its commands and their answers (21_external_interface.md R415 to R421), writes of
other agents (20_memory.md R352), and blocks that the Istream reads.
-/

namespace Sys2Proof.Machine

/-! ## Blocks that the system changes (R415, R416) -/

/-- The Bcache entry of an address gets a status without a probe. What else the entry held is lost; of the same block the data
stay, wrong bits included, unless they are `written`. -/
def Caches.markBcache (c : CacheCfg) (a : Nat) (valid shared dirty written : Bool) (m : Caches) : Caches :=
  bif c.bcSize == 0 then m
  else
    let old := m.bcLine c a
    let same := old.base c == c.block a
    let m' := bif same then m else m.poisonLongs (m.underBcache.inside (old.base c) c.blockSize)
    let entry : BcLine := { BcLine.good (c.bcIndex a) (c.bcTag a) valid shared dirty with
      flips := bif !valid then [] else bif written then c.badFlips else bif same then old.flips else []
      missed := bif same then old.missed else none }
    { m' with bcache := putBcLine entry m'.bcache }

/-- SET SHARED (R415). A dirty block of the Bcache becomes clean, which the system is assumed not to ask for: its data are not
known then. -/
def Caches.setShared (c : CacheCfg) (a : Nat) (m : Caches) : Caches :=
  let block := c.block a
  let lost := bif (m.bcLine c a).dirty then m.underBcache.inside block c.blockSize else []
  let m' := bif c.bcSize == 0 then m else m.poisonLongs lost
  (m'.onBlock c a fun b => { b with shared := true }).markBcache c a true true false false

/-- The Bcache has answered with a block, clean or dirty: of what its receiver cannot correct nothing is known from then on
(R430; DESIGN CHOICE, log entry 13: what the receiver does with such data is its own). -/
def Caches.answered (c : CacheCfg) (dirtyOnly : Bool) (a : Nat) (m : Caches) : Caches :=
  let b := m.bcLine c a
  bif c.bcSize == 0 || m.scDirty c a || !b.hit c a || (dirtyOnly && !b.dirty) then m
  else m.poison (c.spoiled (c.block a) b.flips)

/-- READ DIRTY (R415): the block becomes shared, with BC_CONTROL<KEEP_CLN_SHR> also clean, memory having the data as they were
driven; the Bcache gets data and tag. Also a clean one becomes shared (DESIGN CHOICE, log entry 39). -/
def Caches.readDirty (c : CacheCfg) (a : Nat) (m : Caches) : Caches :=
  let block := c.block a
  let dirty := !c.keepClean && (m.scDirty c a || (m.bcLine c a).dirty)
  let m' := bif c.keepClean then (m.answered c false a).release block c.blockSize else bif c.bcSize == 0 then m else m.writeBack c block c.blockSize
  (m'.onBlock c a fun b => { b with shared := true, dirty := b.dirty && !c.keepClean }).markBcache c a true true
    (dirty && c.bcSize != 0) (m.scDirty c a)

/-- The block is dirty in the Scache or, where it hits, in the Bcache. -/
def Caches.dirtyAnywhere (c : CacheCfg) (a : Nat) (m : Caches) : Bool :=
  let b := m.bcLine c a
  m.scDirty c a || (c.bcSize != 0 && b.hit c a && b.dirty)

/-- A block leaves the Scache, the Dcache and the record of the levels below: the system has the data of a dirty one, and of a
clean one the level below shows. -/
def Caches.giveUp (c : CacheCfg) (a : Nat) (m : Caches) : Caches :=
  let t := m.remove c a
  bif m.dirtyAnywhere c a then t.release (c.block a) c.blockSize else t.leave (c.block a) c.blockSize

/-- The block leaves every cache. -/
def Caches.dropBlock (c : CacheCfg) (a : Nat) (m : Caches) : Caches := (m.giveUp c a).markBcache c a false false false false

/-- READ DIRTY/INVALIDATE: the block leaves every cache, and the system has it as it was driven. -/
def Caches.takeBlock (c : CacheCfg) (a : Nat) (m : Caches) : Caches := (m.answered c false a).dropBlock c a

/-- FLUSH, and a write of another agent: the Bcache is probed, and a dirty block is in memory then as it was driven (R416). -/
def Caches.flushBlock (c : CacheCfg) (a : Nat) (m : Caches) : Caches :=
  let t := m.answered c true a
  bif c.bcSize == 0 || (m.bcLine c a).hit c a then t.dropBlock c a else t.giveUp c a

/-! ## Other agents -/

/-- The block that a state's configuration gives an address. -/
def State.block (s : State) (a : PAddr) : Nat := s.cacheCfg.block a.toNat

/-- Two physical addresses in one block (13_state_cbu_iprs.md R243). -/
def State.sameBlock (s : State) (a b : PAddr) : Bool := s.block a == s.block b

/-- A write of another agent to the locked block clears the lock (20_memory.md R352 b). -/
def State.probed (s : State) (a : PAddr) : State :=
  bif s.sameBlock a s.lockPa then { s with lockFlag := false } else s

/-- Changing the caches without a fill. -/
def State.onCaches (s : State) (f : Caches → Caches) : State := { s with memsys := s.memsys.onCaches f }

/-- The system's probes are seen in SC_ADDR, and those of READ and FLUSH in BC_TAG_ADDR; what is read is checked. FLUSH and READ
count as READ DIRTY in SC_CMD (DESIGN CHOICE, log entry 27: Table 5-28 has no code for them). -/
def State.probeSeen (s : State) (op : ScacheOp) (reads bcache : Bool) (a : PAddr) : State :=
  s.onCaches fun m =>
    let m' := m.probe s.cacheCfg op reads a.toNat
    bif bcache && s.cbu.bcOn then m'.seeBcache s.cacheCfg false true a.toNat else m'

/-- A write of another agent reaches the caches: its block leaves them, memory having the data. -/
def State.busFlush (s : State) (a : PAddr) : State :=
  (bif a.getLsbD 39 then s
   else (s.probeSeen .readDirty true true a).onCaches (Caches.flushBlock s.cacheCfg a.toNat)).probed a

/-- Bytes at rising addresses in the level below. The CBU registers are not on the bus (20_memory.md R292). -/
def State.busBytes : List Byte → PAddr → State → State
  | [], _, s => s
  | b :: rest, a, s => State.busBytes rest (a + 1) (bif inCbu a then s else s.lowerByte a.toNat b)

/-- The addresses outside the CBU region of n bytes. -/
def busAddresses (a : PAddr) (n : Nat) : List PAddr :=
  ((List.range n).map fun k => a + BitVec.ofNat 40 k).filter fun x => !inCbu x

/-- Bytes written by another agent at rising addresses. The Icache may keep free words for those of which nothing was known
(R360). -/
def State.busWrite (bytes : List Byte) (a : PAddr) (s : State) : State :=
  let at_ := busAddresses a bytes.length
  let longs := at_.map fun x => x.toNat / 4 * 4
  ((at_.foldl State.busFlush s).noteUnknown longs).lowered longs (State.busBytes bytes a)

/-! ## The Istream -/

/-- A block that the Icache and the refill buffer may hold now, with the bad parity that ICSR<FBT> and <FBD> ask for
(11_state_idu_iprs.md R149). -/
def State.holdBlock (s : State) (a : Nat) : State :=
  let st := s.model.stale
  let block : Nat × BitVec 2 := (a / 32, BitVec.ofBool (s.icsrBit 35) ++ BitVec.ofBool (s.icsrBit 36))
  { s with model := { s.model with stale := { st with
      held := bif st.held.elem block then st.held else block :: st.held
      sromWhole := false } } }

/-- The parity bits of a read in Scache force hit mode: free where they are not known. -/
def State.forcedBits (s : State) (parity unknown : BitVec 8) : BitVec 8 :=
  (parity &&& ~~~unknown) ||| (slice s.drawValue 0 8 &&& unknown)

/-- What a read in Scache force hit mode has posted. -/
def Event.forced : Event → Option (BitVec 8 × BitVec 8)
  | .scacheForced parity unknown => some (parity, unknown)
  | _ => none

/-- Reads in Scache force hit mode that have been posted stand in SC_STAT, the last one (13_state_cbu_iprs.md R246): no
instruction waits for them. -/
def State.takeForced (s : State) : State :=
  let reads := s.memsys.caches.posted.filterMap Event.forced
  { s with
    cbu := match reads.getLast? with
      | none => s.cbu
      | some p => s.cbu.forcedRead (s.forcedBits p.1 p.2)
    memsys := s.memsys.onCaches fun m => { m with posted := m.posted.filter fun e => e.forced.isNone }
    model := { s.model with draws := s.model.draws + reads.length } }

/-- The block of an address is read for the Istream (41_control.md R591; 20_memory.md R293), with int4_valid_h 0
(21_external_interface.md R397); it may replace blocks of the SROM image. -/
def State.istreamRead (s : State) (pa : PAddr) : State :=
  (s.withMemSys fun c m =>
    { m with
      imaf := m.imaf.filter fun x => x.toNat / 32 != pa.toNat / 32
      caches := bif pa.getLsbD 39 then m.caches.drive (.readMiss .istream) pa (.mask 0) [] [] none false
        else m.caches.access c .istream pa.toNat (.mask 0) }).takeForced.holdBlock pa.toNat

/-- The prefetcher asks for a block, if one of the four Istream entries of the miss address file is free (10_state.md R74). -/
def State.istreamRequest (s : State) (addr : PAddr) : State :=
  bif inCbu addr || Nat.ble 4 s.memsys.imaf.length then s
  else { s with memsys := { s.memsys with imaf := s.memsys.imaf ++ [s.busAddress addr] } }

/-- The n-th request is filled. -/
def State.istreamReturns (s : State) (n : Nat) : State :=
  match s.memsys.imaf[n]? with
  | none => s
  | some pa => s.istreamRead pa

/-! ## Answers (R421) -/

/-- addr_res_h<1:0>. -/
inductive Answer where
  | noAck | ackScache | ackBcache
deriving DecidableEq, Repr

def Answer.code : Answer → BitVec 2
  | .noAck => 1
  | .ackScache => 2
  | .ackBcache => 3

/-- What is wrong in what the Bcache answers: data that its check bits do not match (R430). -/
def State.answerFlips (s : State) (r : Answer) (a : PAddr) : List BcFlip :=
  bif r == .ackBcache then (s.memsys.caches.bcLine s.cacheCfg a.toNat).flips else []

/-- An answer is driven: `present` is addr_res_h<2>; the data, in wrap order (R396), follow an acknowledge that carries them. -/
def State.answer (s : State) (present data : Bool) (r : Answer) (a : PAddr) : State :=
  let carried := data && r != .noAck
  let flips := s.answerFlips r a
  s.onCaches fun m =>
    { m with
      bus := { m.bus with
        response := BitVec.ofBool present ++ r.code
        data := bif carried then m.busBlock s.cacheCfg flips (a.toNat / 16) (s.block a) else []
        check := bif carried then m.busCheck s.cacheCfg flips (a.toNat / 16) (s.block a) else [] }
      driven := m.driven + 1 }

/-! ## What a command finds -/

/-- The block of an address is dirty in the Scache. -/
def State.dirtyInScache (s : State) (a : PAddr) : Bool := s.memsys.caches.scDirty s.cacheCfg a.toNat

/-- The block of an address is valid and dirty in the Bcache. -/
def State.dirtyInBcache (s : State) (a : PAddr) : Bool :=
  let b := s.memsys.caches.bcLine s.cacheCfg a.toNat
  s.cbu.bcOn && b.hit s.cacheCfg a.toNat && b.dirty

/-- addr_res_h<2>: in the Scache, or the block of the lock register (R421). -/
def State.present (s : State) (a : PAddr) : Bool := s.inScache a || s.sameBlock a s.lockPa

/-- The answer to FLUSH and READ (R416, Table 4-15). A block dirty in the Bcache alone is answered from there also where the
Scache holds it clean (DESIGN CHOICE, log entry 39: the table has no such row). -/
def State.flushAnswer (s : State) (a : PAddr) : Answer :=
  bif s.dirtyInScache a then .ackScache else bif s.dirtyInBcache a then .ackBcache else .noAck

/-- The answer to INVALIDATE and SET SHARED (R415, Table 4-11). -/
def State.invalidateAnswer (s : State) (a : PAddr) : Answer :=
  bif s.cbu.bcOn then .ackBcache else bif s.inScache a then .ackScache else .noAck

/-- The answer to READ DIRTY (R415, Table 4-11). With a Bcache a block that the Scache holds clean is answered from the Bcache
(DESIGN CHOICE, log entry 39: the table has no such row). -/
def State.readDirtyAnswer (s : State) (a : PAddr) : Answer :=
  bif s.dirtyInScache a then .ackScache else bif s.cbu.bcOn then .ackBcache else .noAck

/-! ## What a command does -/

/-- INVALIDATE (R415): the block leaves every cache, and its modified data are lost. -/
def State.invalidateBlock (s : State) (a : PAddr) : State :=
  let c := s.cacheCfg
  let t := s.discard (s.memsys.caches.memoryLongs (s.block a) c.blockSize)
  t.onCaches fun m => (((m.remove c a.toNat).release (s.block a) c.blockSize).markBcache c a.toNat false false false false)

/-! ## Commands (R418) -/

/-- A system command with good parity. -/
def State.command (s : State) (code : BitVec 4) (a : PAddr) : Result State :=
  let c := s.cacheCfg
  let p := s.present a
  match code.toNat with
  | 0 => .next s
  | 1 => .next
      ((((s.answer p true (s.flushAnswer a) a).probeSeen .readDirty true true a).onCaches (Caches.flushBlock c a.toNat)).probed a)
  | 2 => .next
      (((s.drawn.answer s.drawChoice false (s.invalidateAnswer a) a).probeSeen .invalidate false false a).invalidateBlock a
        |>.probed a)
  | 3 => .next
      (((s.answer p false (s.invalidateAnswer a) a).probeSeen .setShared false false a).onCaches (Caches.setShared c a.toNat))
  | 4 => .next ((s.answer p true (s.flushAnswer a) a).probeSeen .readDirty true true a)
  | 5 => .next
      (((s.answer p true (s.readDirtyAnswer a) a).probeSeen .readDirty true false a).onCaches (Caches.readDirty c a.toNat))
  | 7 => .next
      ((((s.answer p true (s.readDirtyAnswer a) a).probeSeen .readDirty true false a).onCaches
        (Caches.takeBlock c a.toNat)).probed a)
  | _ => .refused .systemCommand

/-- addr_cmd_par_h is odd parity over addr_h<39:4> and cmd_h<3:0> (R433). -/
def commandParityOk (code : BitVec 4) (a : PAddr) (parity : Bool) : Bool := xor (eparity (clearLow a 4)) (xor (eparity code) parity)

/-- A system command is turned away: NOACK (61_errors.md R1052). addr_res_h<2> is free then (R421 does not give it). -/
def State.notAcknowledged (s : State) (a : PAddr) : State := s.drawn.answer s.drawChoice false .noAck a

/-- A command right after a NOP with bad parity at sysclk ratio 3 may not be acknowledged, freely (R1052). -/
def State.commandHeard (s : State) (code : BitVec 4) (a : PAddr) : Result State :=
  bif s.model.deaf && code != 0 then
    bif s.drawChoice then .next (s.drawn.notAcknowledged a) else s.drawn.command code a
  else s.command code a

/-- Whether the next command may go unacknowledged. -/
def State.afterCommand (s : State) (bad : Bool) (code : BitVec 4) : State :=
  { s with model := { s.model with deaf := bad && code == 0 && Config.sysclkRatioAbove3 == 0 } }

end Sys2Proof.Machine
end

