-- ==== Sys2Proof/Machine/Events.lean ====
section
/-!
DEFINITION. What reaches the processor from outside between two instructions: pins, errors and machine checks
(61_errors.md), other agents (20_memory.md R352, R360), resets (70_reset_and_hazards.md R1080 to R1092).
-/

namespace Sys2Proof.Machine

/-! ## Fills (R1040, R1070; 21_external_interface.md R430, R431) -/

/-- An octaword of fill data, received with some bits inverted. Nothing is checked with fill_nocheck_h or
BC_CONTROL<EI_DIS_ERR>, and what is wrong then goes unseen. An uncorrectable error owes a machine check, for the Istream before
the next instruction. -/
def State.fillArrives (s : State) (system istream nocheck : Bool) (addr : PAddr) (flip : BitVec 128)
    (flipCheck : BitVec 16) : State :=
  let sent := s.belowOctaword (clearLow addr 4).toNat
  let ecc := s.cbu.bcControl.getLsbD 6
  let taken (t : State) : State := (t.fillInverted system istream addr flip).keepFlip false system addr flip flipCheck
  bif (!system && !s.cbu.bcOn) || (flip == 0 && flipCheck == 0) then s
  else bif nocheck || s.eiErrorsOff then taken s
  else match checkFill ecc (sent ^^^ flip) (checkBits ecc sent ^^^ flipCheck) with
    | .good => taken s
    | .correctable syn => (s.correctableError system istream addr syn).keepFlip true system addr flip flipCheck
    | .uncorrectable syn => (taken (s.fillFailed system istream addr syn)).oweCheck istream

/-- A Bcache tag has been read with bad parity (R1042), if errors are reported; read for a system command it does not come to
BC_TAG_ADDR, which is free then (13_state_cbu_iprs.md R260). -/
def State.bcacheTagSeen (s : State) (istream system : Bool) (addr : PAddr) (tag control : Bool) (probe : BitVec 27) : State :=
  let known := bif system then slice s.drawValue 0 27 else probe
  bif s.eiErrorsOff then s
  else ((bif system then s.drawn else s).bcacheTagError tag control addr known).oweCheck istream

/-- A Bcache tag is read with some bits inverted. -/
def State.bcacheTagRead (s : State) (istream system : Bool) (addr : PAddr) (flip : BitVec 24) : State :=
  let c := s.cacheCfg
  let old := s.memsys.caches.bcLine c addr.toNat
  let new := BcLine.ofBits old.index (old.bits ^^^ flip)
  let t := bif new.tagOk c && new.controlOk then s
    else s.bcacheTagSeen istream system addr (!new.tagOk c) (!new.controlOk) (new.shown c addr.toNat)
  bif s.cbu.bcOn then t.bcacheTagDamage istream addr flip else s

/-! ## Partial reset (70_reset_and_hazards.md R1092) -/

/-- The bytes that an entry of the write buffer writes. -/
def WbEntry.written (e : WbEntry) : List Nat :=
  ((List.range 32).filter fun k => e.bytes.getLsbD k).map fun k => e.block.toNat + k

/-- The timeout reset and the cfail_h reset: ICPERR_STAT<TMR>, MAF_MODE<05>; outstanding loads leave their registers as they
were, and a locked one has set no lock; of the bytes that stores had not written nothing is known (93_implementation_defined.md
U14); the MCHK entry is taken at once, for the oldest outstanding load or, without one, for the next instruction (61_errors.md
R1060). It stands for machine checks that were owed before (DESIGN CHOICE, log entry 43). -/
def State.partialReset (s : State) : State :=
  let t := s.memsys.maf.foldr (fun e t => t.writeSlot e.old e.slot) s
  let pc := match s.memsys.maf with
    | e :: _ => e.pc
    | [] => s.pc
  enterPal .mchk pc Entry.mchk.offset
    { t with
      pc := pc
      arithPending := false
      machineChecks := []
      idu := { t.idu with icperrStat := t.idu.icperrStat ||| 4 }
      mtu := { t.mtu with mafMode := t.mtu.mafMode &&& 0x1F }
      memsys := ({ t.memsys with wb := [], wmbNext := false, maf := [], imaf := [] } : MemSys).onCaches
        (·.poison (s.memsys.wb.map WbEntry.written).flatten)
      model := { t.model with cbuWaits := none } }

/-! ## Chip reset (R1080 to R1090) -/

/-- The CBU registers that a reset does not clear or unlock (13_state_cbu_iprs.md R246, R248, R260, R262, R267). -/
def Cbu.afterReset (c : Cbu) : Cbu :=
  { Cbu.reset with
    scStat := c.scStat
    scLocked := c.scLocked
    scAddr := c.scAddr
    bcTagAddr := c.bcTagAddr
    bcTagLocked := c.bcTagLocked
    eiStat := c.eiStat
    eiLocked := c.eiLocked
    eiAddr := c.eiAddr
    fillSyn := c.fillSyn }

/-- The MTU registers that a reset does not clear (10_state.md R67: it only disables the cycle counter; 12_state_mtu_iprs.md
R190, R195). CC<31:00> reads then as CC_CTL last wrote it, also where the reset has stopped a counter that ran (DESIGN CHOICE,
unsafe, log entry 34). -/
def Mtu.afterReset (m : Mtu) : Mtu :=
  { Mtu.reset with
    va := m.va
    mmStat := m.mmStat
    mmLock := m.mmLock
    ccOffset := m.ccOffset
    ccCount := m.ccCount
    dcPerrStat := m.dcPerrStat }

/-- The caches after a reset (R1086): nothing but what SC_ADDR and BC_TAG_ADDR have seen. -/
def Caches.afterReset (m : Caches) : Caches :=
  { Caches.reset with
    fills := m.fills, dcacheFills := m.dcacheFills + 1, driven := m.driven, scSeen := m.scSeen, bcSeen := m.bcSeen
    poisoned := m.poisoned }

/-- The state of R1090: memory is kept, but data that had not left the write buffer and the caches are lost; the PALtemps
(10_state.md R69) and the pins keep their values. -/
def State.chipReset (s : State) (image : List SromRecord) : State :=
  let held := Longs.add (s.memsys.caches.underScache) s.memsys.caches.underBcache
  let t := (State.discard s.memsys.waiting { s with memsys := { s.memsys with wb := [] } }).discard held
  { State.reset with
    idu := { Idu.reset with palTemp := s.idu.palTemp }
    mtu := s.mtu.afterReset
    cbu := s.cbu.afterReset
    mem := t.mem
    memsys := { MemSys.reset with caches := s.memsys.caches.afterReset }
    pins := s.pins
    model := { Model.reset with
      draws := s.model.draws
      lastEntry := some .reset
      inbox := s.model.inbox
      stale := { Model.reset.stale with srom := sromImageFrom 0 image, sromWhole := !image.isEmpty } } }

/-! ## Events -/

/-- The continuation of a result. -/
def andThen (r : Result State) (k : State → Result State) : Result State :=
  match r with
  | .next t => k t
  | .fault f => .fault f
  | .refused f => .refused f

/-! ## The arbiter goes on (12_state_mtu_iprs.md R207) -/

/-- A byte below the write buffer. -/
def State.belowByte (s : State) (a : Nat) : Byte := (s.belowLong (a / 4 * 4)).extractLsb' (8 * (a % 4)) 8

/-- The bytes that a load finds in the levels below the write buffer. -/
def State.belowLoad (s : State) (e : MafEntry) : Quad :=
  BitVec.ofNat 64 ((List.range e.size).foldl (fun v k => v + (s.belowByte (e.addr.toNat + k)).toNat * 256 ^ k) 0)

/-- The load reads the Scache in force hit mode (13_state_cbu_iprs.md R244). -/
def State.entryForced (s : State) (e : MafEntry) : Bool :=
  s.cbu.scCtl.getLsbD 0 && !e.addr.getLsbD 39

/-- The bits of the data of a load that are free when it arbitrates: all of them (R332), or those of bytes of which nothing is
known. -/
def State.entryFree (s t : State) (e : MafEntry) : Quad :=
  let free (a : Nat) : Bool :=
    e.doubt || s.entryForced e || s.memsys.caches.poisoned.elem a || t.memsys.caches.poisoned.elem a
  (bitsOf ((loadMask e.size e.addr free).setWidth 32)).setWidth 64

/-- What a load reads that has waited, in a state and after the loads have been accepted: what the level below the write buffer
gives now (20_memory.md R352, R360), but for the bytes of stores that were waiting when it issued (R333). -/
def State.resumeData (s t : State) (e : MafEntry) : Quad :=
  let free := s.entryFree t e
  let v := e.keepOwn t (s.belowLoad e)
  bif free == 0 then v else (t.drawValue &&& free) ||| (v &&& ~~~free)

/-- A load that has waited arbitrates: one of a CBU register reads it; another one reads memory, in Scache force hit mode with
its parity bits (13_state_cbu_iprs.md R246), and if it is locked sets the lock (20_memory.md R351). -/
def State.resumeLoad (s t : State) (e : MafEntry) : State :=
  match bif inCbu e.addr then (cbuReg e.addr).bind t.cbuRead else none with
  | some (v, u) => e.deliver u v
  | none =>
    let v := s.resumeData t e
    let u := e.deliver t.drawn v
    let w :=
      bif s.entryForced e then
        { u.drawn with cbu := u.cbu.forcedRead (forcedParity e.size e.addr v (slice u.drawValue 0 8)) }
      else u
    bif e.lock then w.setLock e.addr else w

/-- The loads that wait will find the bytes that older stores have left in the Scache. -/
def State.ownStored (s : State) : State :=
  { s with memsys := { s.memsys with maf := s.memsys.maf.map fun e =>
      bif e.waits then { e with own := e.own ||| loadMask e.size e.addr (s.memsys.caches.storedByte s.cacheCfg) } else e } }

/-- MAF_MODE<MAF_ARB_DISABLE> has been cleared: the loads that have waited are accepted in order and read their data, and the
store to a CBU register that has waited is done. -/
def State.resumed (s : State) : Result State :=
  let loads := s.memsys.maf.filter (·.waits)
  let t := loads.foldl (State.resumeLoad s) (s.ownStored.withMemSys fun c m => m.issueThrough c loads.length)
  match s.model.cbuWaits with
  | none => .next t
  | some (reg, v) =>
    andThen (t.cbuWrite v reg) fun u => .next { u with model := { u.model with cbuWaits := none } }

/-- The Scache transaction is one of the Istream or of the system. -/
def ScacheOp.foreign : ScacheOp → Bool
  | .iread => true
  | .setShared => true
  | .readDirty => true
  | .invalidate => true
  | .victim => false
  | .dread => false
  | .dwrite => false

/-- One event. With a store to a CBU control register awaiting its MB there are neither cacheable requests and reads of the
Istream nor commands of the system (13_state_cbu_iprs.md R242; 93_implementation_defined.md U34: refuse). -/
def handleEvent (e : Event) (s : State) : Result State :=
  match e with
  | .irqPins level => .next { s with pins := { s.pins with irq := level } }
  | .haltPin level => .next { s with pins := { s.pins with halt := level } }
  | .powerFailPin level => .next { s with pins := { s.pins with powerFail := level } }
  | .machineCheckPin level => .next { s with pins := { s.pins with machineCheck := level } }
  | .serialPin level => .next
      { s with
        pins := { s.pins with serialData := level }
        idu := { s.idu with sliRequest := s.idu.sliRequest || (s.icsrBit 33 && s.pins.serialData != level) } }
  | .systemPins tagShared tagDirty shared systemLock => .next
      { s with pins := { s.pins with tagShared := tagShared, tagDirty := tagDirty, shared := shared, systemLock := systemLock } }
  | .counterOverflow n =>
      bif Nat.blt n 3 && s.counting n && (s.idu.counterControl n).getLsbD 1 then
        .next { s with idu := { s.idu with pcRequests := s.idu.pcRequests ||| (1 <<< n) } }
      else .next s
  | .fillError istream addr data =>
      bif inCbu addr then .next s
      else bif istream && s.model.cbuQuiet && !addr.getLsbD 39 then .refused .cbuOrder
      else .next ((s.fillDriven istream addr data).oweCheck istream)
  | .icacheParity tag => .next ((s.setIcperr (bif tag then 2 else 1)).oweCheck true)
  | .scacheParity tperr dperr op addr =>
      bif (tperr == 0 && dperr == 0) || s.cbu.scCtl.getLsbD 0 || addr.getLsbD 39 then .next s
      else bif s.model.cbuQuiet && op.foreign then .refused .cbuOrder
      else .next (((s.scacheError tperr dperr op addr).scacheDamage op addr).oweCheck (op == .iread))
  | .dcacheParity which va write ra opcode slot =>
      bif which == 0 || s.mtu.dcMode.getLsbD 3 then .next s
      else .next (((s.dcacheError which va write ra opcode).dcacheDamage va write slot).oweCheck false)
  | .fill system istream nocheck addr flip flipCheck =>
      bif inCbu addr || (!system && addr.getLsbD 39) then .next s
      else bif istream && s.model.cbuQuiet && !addr.getLsbD 39 then .refused .cbuOrder
      else .next (s.fillArrives system istream nocheck addr flip flipCheck)
  | .bcacheTag istream system addr flip =>
      bif addr.getLsbD 39 then .next s
      else bif s.model.cbuQuiet && (istream || system) then .refused .cbuOrder
      else .next (s.bcacheTagRead istream system addr flip)
  | .bcacheTagSeen istream system addr tag control probe => .next (s.bcacheTagSeen istream system addr tag control probe)
  | .scacheForced parity unknown =>
      .next { s.drawn with cbu := s.cbu.forcedRead (s.forcedBits parity unknown) }
  | .resume => s.resumed
  | .systemCommand code addr parity =>
      let after (bad : Bool) (r : Result State) : Result State := andThen r fun t => .next (t.afterCommand bad code)
      bif s.model.cbuQuiet && code != 0 then .refused .cbuOrder
      else bif commandParityOk code addr parity || s.cbu.bcControl.getLsbD 28 then after false (s.commandHeard code addr)
      else bif s.eiErrorsOff then after true (.next (s.notAcknowledged addr))
      else after true (.next (((s.commandError addr).notAcknowledged addr).oweCheck false))
  | .writeCompletes n =>
      bif s.stopped then .next s else .next (s.withMemSys (fun c m => m.complete c n))
  | .loadIssues n =>
      bif s.stopped then .next s
      else .next (s.withMemSys fun c m => m.issueThrough c ((m.maf.take (n + 1)).filter (·.waits)).length)
  | .loadReturns n =>
      .next (s.withMemSys fun c m => m.finish s.stopped c fun x => m.maf[n]?.any fun e => e.block == x.block)
  | .istreamRequest addr =>
      bif s.model.cbuQuiet && !addr.getLsbD 39 then .refused .cbuOrder else .next (s.istreamRequest addr)
  | .istreamReturns n =>
      bif s.model.cbuQuiet && s.memsys.imaf[n]?.any (fun a => !a.getLsbD 39) then .refused .cbuOrder
      else .next (s.istreamReturns n)
  | .loadMisses => .next { s with model := { s.model with missNext := true } }
  | .restore below => .next (s.discard below)
  | .quiet => .next s
  | .iduTimeout => bif s.icsrBit 25 then .next s else .next s.partialReset
  | .cfailNoCack => .next s.partialReset
  | .busWrite addr bytes =>
      bif s.model.cbuQuiet && (busAddresses addr bytes.length).any (fun a => !a.getLsbD 39) then .refused .cbuOrder
      else .next ((s.busWrite bytes addr).onCaches (·.clean (within addr.toNat bytes.length)))
  | .chipReset image =>
      bif sromImageOk image then .next (s.chipReset image) else .refused .sromImage

end Sys2Proof.Machine
end

