-- ==== Sys2Proof/WellFormed.lean ====
section
/-!
DEFINITION. Which instruction terms the spec gives a meaning to (30_encoding.md R482 to R484; 44_fp_common.md R762,
R763). Every other constraint on a field is in its type.
-/

namespace Sys2Proof

/-- The must-be-zero and must-be-the-same rules of the encodings, one line per rule. Every other instruction is
well-formed with any field values. -/
def Instr.wf : Instr → Bool
  | .hw_st _ _ _ _ mbz13 _ mbz11 _ _ => !mbz13 && !mbz11   -- R482: "HW_ST<13,11> must be zero"
  | .hw_rei mbz => mbz == 0                                 -- R483: "HW_REI<13:00> must be zero"
  | .hw_rei_stall mbz => mbz == 0                           -- R483
  | .hw_mfpr ra rb _ => ra == rb                            -- R484: RA and RB "Must be the same"
  | .hw_mtpr ra rb _ => ra == rb                            -- R484
  | .mt_fpcr fa fb fc => fa == fb && fb == fc               -- R763
  | .mf_fpcr fa fb fc => fa == fb && fb == fc               -- R762
  | _ => true

end Sys2Proof
end

