-- ==== Sys2Proof/Decode.lean ====
section
/-!
DEFINITION. Decoding and encoding of one 32-bit instruction word (30_encoding.md). The function-code tables are those of
R463 to R473; `decode` follows the order of R461; `encode` writes 31 into register fields and 0 into other bits that no
rule gives a meaning (R452, R456, R468, R470, R486; DESIGN CHOICE, safe, log entry 3). What builds an instruction is `noncomputable` because Lean's compiler has no room for
more than 244 constructor tags; the kernel evaluates it all the same.
-/

namespace Sys2Proof

/-- Why a word names no instruction. -/
inductive Reject where
  /-- fewer than four bytes (R450) -/
  | tooFewBytes
  /-- opcodes 01 to 07 and 14 (R476) -/
  | reservedOpcode (opcode : BitVec 6)
  /-- a valid opcode whose function code no table lists (R475); HW_REI with TYP 00 or 01 (R483) -/
  | unusedFunction (opcode : BitVec 6)
deriving DecidableEq, Repr

/-- What a word decodes to. -/
inductive Decoded where
  | instr (i : Instr)
  | rejected (why : Reject)
deriving DecidableEq, Repr

/-- Instruction bits <lo+n-1:lo>. -/
def field (w : Long) (lo n : Nat) : BitVec n := w.extractLsb' lo n

/-- The opcode, w<31:26> (R452). -/
def opcodeOf (w : Long) : BitVec 6 := field w 26 6

/-- Ra or Fa, w<25:21> (R452). -/
def raOf (w : Long) : Reg := field w 21 5

/-- Rb or Fb, w<20:16> (R452). -/
def rbOf (w : Long) : Reg := field w 16 5

/-- Rc or Fc, w<4:0> (R452). -/
def rcOf (w : Long) : Reg := field w 0 5

/-- The second source of the Operate format (R455): w<12> selects the literal w<20:13>. -/
def operandOf (w : Long) : Operand :=
  bif w.getLsbD 12 then .lit (field w 13 8) else .reg (rbOf w)

/-- The entry of a function-code table. -/
def lookupCode {α : Type} (code : Nat) : List (Nat × α) → Option α
  | [] => none
  | (c, a) :: rest => bif c == code then some a else lookupCode code rest

/-- Opcode 10, w<11:5> (R463). -/
def intaTable : List (Nat × (Reg → Operand → Reg → Instr)) :=
  [(0x000, .addl), (0x040, .addl_v), (0x020, .addq), (0x060, .addq_v), (0x009, .subl), (0x049, .subl_v),
   (0x029, .subq), (0x069, .subq_v), (0x002, .s4addl), (0x012, .s8addl), (0x022, .s4addq), (0x032, .s8addq),
   (0x00B, .s4subl), (0x01B, .s8subl), (0x02B, .s4subq), (0x03B, .s8subq), (0x02D, .cmpeq), (0x04D, .cmplt),
   (0x06D, .cmple), (0x01D, .cmpult), (0x03D, .cmpule), (0x00F, .cmpbge)]

/-- Opcode 11, w<11:5> (R464). -/
def intlTable : List (Nat × (Reg → Operand → Reg → Instr)) :=
  [(0x000, .and), (0x008, .bic), (0x020, .bis), (0x028, .ornot), (0x040, .xor), (0x048, .eqv),
   (0x024, .cmoveq), (0x026, .cmovne), (0x044, .cmovlt), (0x064, .cmovle), (0x066, .cmovgt), (0x046, .cmovge),
   (0x014, .cmovlbs), (0x016, .cmovlbc), (0x061, fun _ => .amask), (0x06C, fun _ _ => .implver)]

/-- Opcode 12, w<11:5> (R465). -/
def intsTable : List (Nat × (Reg → Operand → Reg → Instr)) :=
  [(0x039, .sll), (0x034, .srl), (0x03C, .sra), (0x030, .zap), (0x031, .zapnot), (0x006, .extbl),
   (0x016, .extwl), (0x026, .extll), (0x036, .extql), (0x05A, .extwh), (0x06A, .extlh), (0x07A, .extqh),
   (0x00B, .insbl), (0x01B, .inswl), (0x02B, .insll), (0x03B, .insql), (0x057, .inswh), (0x067, .inslh),
   (0x077, .insqh), (0x002, .mskbl), (0x012, .mskwl), (0x022, .mskll), (0x032, .mskql), (0x052, .mskwh),
   (0x062, .msklh), (0x072, .mskqh)]

/-- Opcode 13, w<11:5> (R466). -/
def intmTable : List (Nat × (Reg → Operand → Reg → Instr)) :=
  [(0x000, .mull), (0x040, .mull_v), (0x020, .mulq), (0x060, .mulq_v), (0x030, .umulh)]

/-- Opcode 1C, w<11:5> (R470). -/
def sextTable : List (Nat × (Reg → Operand → Reg → Instr)) :=
  [(0x000, fun _ => .sextb), (0x001, fun _ => .sextw)]

/-- Opcode 17, w<15:5> (R467). -/
def fltlTable : List (Nat × (Reg → Reg → Reg → Instr)) :=
  [(0x010, fun _ => .cvtlq), (0x020, .cpys), (0x021, .cpysn), (0x022, .cpyse), (0x024, .mt_fpcr),
   (0x025, .mf_fpcr), (0x02A, .fcmoveq), (0x02B, .fcmovne), (0x02C, .fcmovlt), (0x02D, .fcmovge),
   (0x02E, .fcmovle), (0x02F, .fcmovgt), (0x030, fun _ => .cvtql), (0x130, fun _ => .cvtql_v),
   (0x530, fun _ => .cvtql_sv)]

/-- Opcode 16, w<15:5> (R472). Part 1. -/
noncomputable def fltiTablePart1 : List (Nat × (Reg → Reg → Reg → Instr)) :=
  [(0x080, .adds), (0x000, .adds_c), (0x040, .adds_m), (0x0C0, .adds_d), (0x180, .adds_u), (0x100, .adds_uc),
   (0x140, .adds_um), (0x1C0, .adds_ud), (0x580, .adds_su), (0x500, .adds_suc), (0x540, .adds_sum),
   (0x5C0, .adds_sud), (0x780, .adds_sui), (0x700, .adds_suic), (0x740, .adds_suim), (0x7C0, .adds_suid),
   (0x0A0, .addt), (0x020, .addt_c), (0x060, .addt_m), (0x0E0, .addt_d), (0x1A0, .addt_u), (0x120, .addt_uc),
   (0x160, .addt_um), (0x1E0, .addt_ud), (0x5A0, .addt_su), (0x520, .addt_suc), (0x560, .addt_sum),
   (0x5E0, .addt_sud), (0x7A0, .addt_sui), (0x720, .addt_suic), (0x760, .addt_suim), (0x7E0, .addt_suid)]

/-- Opcode 16, w<15:5> (R472). Part 2. -/
noncomputable def fltiTablePart2 : List (Nat × (Reg → Reg → Reg → Instr)) :=
  [(0x081, .subs), (0x001, .subs_c), (0x041, .subs_m), (0x0C1, .subs_d), (0x181, .subs_u), (0x101, .subs_uc),
   (0x141, .subs_um), (0x1C1, .subs_ud), (0x581, .subs_su), (0x501, .subs_suc), (0x541, .subs_sum),
   (0x5C1, .subs_sud), (0x781, .subs_sui), (0x701, .subs_suic), (0x741, .subs_suim), (0x7C1, .subs_suid),
   (0x0A1, .subt), (0x021, .subt_c), (0x061, .subt_m), (0x0E1, .subt_d), (0x1A1, .subt_u), (0x121, .subt_uc),
   (0x161, .subt_um), (0x1E1, .subt_ud), (0x5A1, .subt_su), (0x521, .subt_suc), (0x561, .subt_sum),
   (0x5E1, .subt_sud), (0x7A1, .subt_sui), (0x721, .subt_suic), (0x761, .subt_suim), (0x7E1, .subt_suid)]

/-- Opcode 16, w<15:5> (R472). Part 3. -/
noncomputable def fltiTablePart3 : List (Nat × (Reg → Reg → Reg → Instr)) :=
  [(0x082, .muls), (0x002, .muls_c), (0x042, .muls_m), (0x0C2, .muls_d), (0x182, .muls_u), (0x102, .muls_uc),
   (0x142, .muls_um), (0x1C2, .muls_ud), (0x582, .muls_su), (0x502, .muls_suc), (0x542, .muls_sum),
   (0x5C2, .muls_sud), (0x782, .muls_sui), (0x702, .muls_suic), (0x742, .muls_suim), (0x7C2, .muls_suid),
   (0x0A2, .mult), (0x022, .mult_c), (0x062, .mult_m), (0x0E2, .mult_d), (0x1A2, .mult_u), (0x122, .mult_uc),
   (0x162, .mult_um), (0x1E2, .mult_ud), (0x5A2, .mult_su), (0x522, .mult_suc), (0x562, .mult_sum),
   (0x5E2, .mult_sud), (0x7A2, .mult_sui), (0x722, .mult_suic), (0x762, .mult_suim), (0x7E2, .mult_suid)]

/-- Opcode 16, w<15:5> (R472). Part 4. -/
noncomputable def fltiTablePart4 : List (Nat × (Reg → Reg → Reg → Instr)) :=
  [(0x083, .divs), (0x003, .divs_c), (0x043, .divs_m), (0x0C3, .divs_d), (0x183, .divs_u), (0x103, .divs_uc),
   (0x143, .divs_um), (0x1C3, .divs_ud), (0x583, .divs_su), (0x503, .divs_suc), (0x543, .divs_sum),
   (0x5C3, .divs_sud), (0x783, .divs_sui), (0x703, .divs_suic), (0x743, .divs_suim), (0x7C3, .divs_suid),
   (0x0A3, .divt), (0x023, .divt_c), (0x063, .divt_m), (0x0E3, .divt_d), (0x1A3, .divt_u), (0x123, .divt_uc),
   (0x163, .divt_um), (0x1E3, .divt_ud), (0x5A3, .divt_su), (0x523, .divt_suc), (0x563, .divt_sum),
   (0x5E3, .divt_sud), (0x7A3, .divt_sui), (0x723, .divt_suic), (0x763, .divt_suim), (0x7E3, .divt_suid)]

/-- Opcode 16, w<15:5> (R472). Part 5. -/
noncomputable def fltiTablePart5 : List (Nat × (Reg → Reg → Reg → Instr)) :=
  [(0x0AC, fun _ => .cvtts), (0x02C, fun _ => .cvtts_c), (0x06C, fun _ => .cvtts_m),
   (0x0EC, fun _ => .cvtts_d), (0x1AC, fun _ => .cvtts_u), (0x12C, fun _ => .cvtts_uc),
   (0x16C, fun _ => .cvtts_um), (0x1EC, fun _ => .cvtts_ud), (0x5AC, fun _ => .cvtts_su),
   (0x52C, fun _ => .cvtts_suc), (0x56C, fun _ => .cvtts_sum), (0x5EC, fun _ => .cvtts_sud),
   (0x7AC, fun _ => .cvtts_sui), (0x72C, fun _ => .cvtts_suic), (0x76C, fun _ => .cvtts_suim),
   (0x7EC, fun _ => .cvtts_suid), (0x0BC, fun _ => .cvtqs), (0x03C, fun _ => .cvtqs_c),
   (0x07C, fun _ => .cvtqs_m), (0x0FC, fun _ => .cvtqs_d), (0x7BC, fun _ => .cvtqs_sui),
   (0x73C, fun _ => .cvtqs_suic), (0x77C, fun _ => .cvtqs_suim), (0x7FC, fun _ => .cvtqs_suid),
   (0x0BE, fun _ => .cvtqt), (0x03E, fun _ => .cvtqt_c), (0x07E, fun _ => .cvtqt_m),
   (0x0FE, fun _ => .cvtqt_d), (0x7BE, fun _ => .cvtqt_sui), (0x73E, fun _ => .cvtqt_suic),
   (0x77E, fun _ => .cvtqt_suim), (0x7FE, fun _ => .cvtqt_suid)]

/-- Opcode 16, w<15:5> (R472). Part 6. -/
noncomputable def fltiTablePart6 : List (Nat × (Reg → Reg → Reg → Instr)) :=
  [(0x0A4, .cmptun), (0x5A4, .cmptun_su), (0x0A5, .cmpteq), (0x5A5, .cmpteq_su), (0x0A6, .cmptlt),
   (0x5A6, .cmptlt_su), (0x0A7, .cmptle), (0x5A7, .cmptle_su), (0x2AC, fun _ => .cvtst),
   (0x6AC, fun _ => .cvtst_s), (0x0AF, fun _ => .cvttq), (0x02F, fun _ => .cvttq_c),
   (0x06F, fun _ => .cvttq_m), (0x0EF, fun _ => .cvttq_d), (0x1AF, fun _ => .cvttq_v),
   (0x12F, fun _ => .cvttq_vc), (0x16F, fun _ => .cvttq_vm), (0x1EF, fun _ => .cvttq_vd),
   (0x5AF, fun _ => .cvttq_sv), (0x52F, fun _ => .cvttq_svc), (0x56F, fun _ => .cvttq_svm),
   (0x5EF, fun _ => .cvttq_svd), (0x7AF, fun _ => .cvttq_svi), (0x72F, fun _ => .cvttq_svic),
   (0x76F, fun _ => .cvttq_svim), (0x7EF, fun _ => .cvttq_svid)]

/-- Opcode 16, w<15:5> (R472). -/
noncomputable def fltiTable : List (Nat × (Reg → Reg → Reg → Instr)) :=
  fltiTablePart1 ++ fltiTablePart2 ++ fltiTablePart3 ++ fltiTablePart4 ++ fltiTablePart5 ++ fltiTablePart6

/-- Opcode 15, w<15:5> (R473). Part 1. -/
noncomputable def fltvTablePart1 : List (Nat × (Reg → Reg → Reg → Instr)) :=
  [(0x080, .addf), (0x000, .addf_c), (0x180, .addf_u), (0x100, .addf_uc), (0x480, .addf_s), (0x400, .addf_sc),
   (0x580, .addf_su), (0x500, .addf_suc), (0x0A0, .addg), (0x020, .addg_c), (0x1A0, .addg_u),
   (0x120, .addg_uc), (0x4A0, .addg_s), (0x420, .addg_sc), (0x5A0, .addg_su), (0x520, .addg_suc),
   (0x081, .subf), (0x001, .subf_c), (0x181, .subf_u), (0x101, .subf_uc), (0x481, .subf_s), (0x401, .subf_sc),
   (0x581, .subf_su), (0x501, .subf_suc), (0x0A1, .subg), (0x021, .subg_c), (0x1A1, .subg_u),
   (0x121, .subg_uc), (0x4A1, .subg_s), (0x421, .subg_sc), (0x5A1, .subg_su), (0x521, .subg_suc)]

/-- Opcode 15, w<15:5> (R473). Part 2. -/
noncomputable def fltvTablePart2 : List (Nat × (Reg → Reg → Reg → Instr)) :=
  [(0x082, .mulf), (0x002, .mulf_c), (0x182, .mulf_u), (0x102, .mulf_uc), (0x482, .mulf_s), (0x402, .mulf_sc),
   (0x582, .mulf_su), (0x502, .mulf_suc), (0x0A2, .mulg), (0x022, .mulg_c), (0x1A2, .mulg_u),
   (0x122, .mulg_uc), (0x4A2, .mulg_s), (0x422, .mulg_sc), (0x5A2, .mulg_su), (0x522, .mulg_suc),
   (0x083, .divf), (0x003, .divf_c), (0x183, .divf_u), (0x103, .divf_uc), (0x483, .divf_s), (0x403, .divf_sc),
   (0x583, .divf_su), (0x503, .divf_suc), (0x0A3, .divg), (0x023, .divg_c), (0x1A3, .divg_u),
   (0x123, .divg_uc), (0x4A3, .divg_s), (0x423, .divg_sc), (0x5A3, .divg_su), (0x523, .divg_suc)]

/-- Opcode 15, w<15:5> (R473). Part 3. -/
noncomputable def fltvTablePart3 : List (Nat × (Reg → Reg → Reg → Instr)) :=
  [(0x09E, fun _ => .cvtdg), (0x01E, fun _ => .cvtdg_c), (0x19E, fun _ => .cvtdg_u),
   (0x11E, fun _ => .cvtdg_uc), (0x49E, fun _ => .cvtdg_s), (0x41E, fun _ => .cvtdg_sc),
   (0x59E, fun _ => .cvtdg_su), (0x51E, fun _ => .cvtdg_suc), (0x0AC, fun _ => .cvtgf),
   (0x02C, fun _ => .cvtgf_c), (0x1AC, fun _ => .cvtgf_u), (0x12C, fun _ => .cvtgf_uc),
   (0x4AC, fun _ => .cvtgf_s), (0x42C, fun _ => .cvtgf_sc), (0x5AC, fun _ => .cvtgf_su),
   (0x52C, fun _ => .cvtgf_suc), (0x0AD, fun _ => .cvtgd), (0x02D, fun _ => .cvtgd_c),
   (0x1AD, fun _ => .cvtgd_u), (0x12D, fun _ => .cvtgd_uc), (0x4AD, fun _ => .cvtgd_s),
   (0x42D, fun _ => .cvtgd_sc), (0x5AD, fun _ => .cvtgd_su), (0x52D, fun _ => .cvtgd_suc),
   (0x0AF, fun _ => .cvtgq), (0x02F, fun _ => .cvtgq_c), (0x1AF, fun _ => .cvtgq_v),
   (0x12F, fun _ => .cvtgq_vc), (0x4AF, fun _ => .cvtgq_s), (0x42F, fun _ => .cvtgq_sc),
   (0x5AF, fun _ => .cvtgq_sv), (0x52F, fun _ => .cvtgq_svc)]

/-- Opcode 15, w<15:5> (R473). Part 4. -/
noncomputable def fltvTablePart4 : List (Nat × (Reg → Reg → Reg → Instr)) :=
  [(0x0BC, fun _ => .cvtqf), (0x03C, fun _ => .cvtqf_c), (0x0BE, fun _ => .cvtqg), (0x03E, fun _ => .cvtqg_c),
   (0x0A5, .cmpgeq), (0x4A5, .cmpgeq_s), (0x0A6, .cmpglt), (0x4A6, .cmpglt_s), (0x0A7, .cmpgle),
   (0x4A7, .cmpgle_s)]

/-- Opcode 15, w<15:5> (R473). -/
noncomputable def fltvTable : List (Nat × (Reg → Reg → Reg → Instr)) :=
  fltvTablePart1 ++ fltvTablePart2 ++ fltvTablePart3 ++ fltvTablePart4

/-- Opcode 18, w<15:0> (R468). -/
noncomputable def miscTable : List (Nat × (Reg → Reg → Instr)) :=
  [(0x000, fun _ _ => .trapb), (0x400, fun _ _ => .excb), (0x4000, fun _ _ => .mb), (0x4400, fun _ _ => .wmb),
   (0x8000, fun _ b => .fetch b), (0xA000, fun _ b => .fetch_m b), (0xC000, fun a _ => .rpcc a),
   (0xE000, fun a _ => .rc a), (0xF000, fun a _ => .rs a)]

/-- The result of a table lookup, or the name of the rejection. -/
def ofTable (w : Long) : Option Instr → Decoded
  | some i => .instr i
  | none => .rejected (.unusedFunction (opcodeOf w))

/-- An Operate-format group: function code w<11:5> (R455). -/
def decodeOperate (w : Long) (t : List (Nat × (Reg → Operand → Reg → Instr))) : Decoded :=
  ofTable w ((lookupCode (field w 5 7).toNat t).map fun c => c (raOf w) (operandOf w) (rcOf w))

/-- A floating-point group: function code w<15:5> (R456). -/
def decodeFloat (w : Long) (t : List (Nat × (Reg → Reg → Reg → Instr))) : Decoded :=
  ofTable w ((lookupCode (field w 5 11).toNat t).map fun c => c (raOf w) (rbOf w) (rcOf w))

/-- Opcode 18: function code w<15:0> (R457). -/
noncomputable def decodeMisc (w : Long) : Decoded :=
  ofTable w ((lookupCode (field w 0 16).toNat miscTable).map fun c => c (raOf w) (rbOf w))

/-- Memory format (R453). -/
def decodeMem (w : Long) (c : Reg → Reg → BitVec 16 → Instr) : Decoded := .instr (c (raOf w) (rbOf w) (field w 0 16))

/-- Branch format (R454). -/
def decodeBranch (w : Long) (c : Reg → BitVec 21 → Instr) : Decoded := .instr (c (raOf w) (field w 0 21))

/-- The jump group: w<15:14> selects, w<13:0> is the hint (R469). -/
def decodeJump (w : Long) : Decoded :=
  .instr (match (field w 14 2).toNat with
    | 0 => .jmp (raOf w) (rbOf w) (field w 0 14)
    | 1 => .jsr (raOf w) (rbOf w) (field w 0 14)
    | 2 => .ret (raOf w) (rbOf w) (field w 0 14)
    | _ => .jsr_coroutine (raOf w) (rbOf w) (field w 0 14))

/-- Opcode 1E: TYP w<15:14> (R483). -/
noncomputable def decodeHwRei (w : Long) : Decoded :=
  match (field w 14 2).toNat with
  | 2 => .instr (.hw_rei (field w 0 14))
  | 3 => .instr (.hw_rei_stall (field w 0 14))
  | _ => .rejected (.unusedFunction (opcodeOf w))

/-- The instruction a word names (R461, R462). -/
noncomputable def decode (w : Long) : Decoded :=
  match (opcodeOf w).toNat with
  | 0x00 => .instr (.call_pal (field w 0 26))
  | 0x08 => decodeMem w .lda
  | 0x09 => decodeMem w .ldah
  | 0x0A => decodeMem w .ldbu
  | 0x0B => decodeMem w .ldq_u
  | 0x0C => decodeMem w .ldwu
  | 0x0D => decodeMem w .stw
  | 0x0E => decodeMem w .stb
  | 0x0F => decodeMem w .stq_u
  | 0x10 => decodeOperate w intaTable
  | 0x11 => decodeOperate w intlTable
  | 0x12 => decodeOperate w intsTable
  | 0x13 => decodeOperate w intmTable
  | 0x15 => decodeFloat w fltvTable
  | 0x16 => decodeFloat w fltiTable
  | 0x17 => decodeFloat w fltlTable
  | 0x18 => decodeMisc w
  | 0x19 => .instr (.hw_mfpr (raOf w) (rbOf w) (field w 0 16))
  | 0x1A => decodeJump w
  | 0x1B => .instr (.hw_ld (raOf w) (rbOf w) (w.getLsbD 15) (w.getLsbD 14) (w.getLsbD 13) (w.getLsbD 12)
      (w.getLsbD 11) (w.getLsbD 10) (field w 0 10))
  | 0x1C => decodeOperate w sextTable
  | 0x1D => .instr (.hw_mtpr (raOf w) (rbOf w) (field w 0 16))
  | 0x1E => decodeHwRei w
  | 0x1F => .instr (.hw_st (raOf w) (rbOf w) (w.getLsbD 15) (w.getLsbD 14) (w.getLsbD 13) (w.getLsbD 12)
      (w.getLsbD 11) (w.getLsbD 10) (field w 0 10))
  | 0x20 => decodeMem w .ldf
  | 0x21 => decodeMem w .ldg
  | 0x22 => decodeMem w .lds
  | 0x23 => decodeMem w .ldt
  | 0x24 => decodeMem w .stf
  | 0x25 => decodeMem w .stg
  | 0x26 => decodeMem w .sts
  | 0x27 => decodeMem w .stt
  | 0x28 => decodeMem w .ldl
  | 0x29 => decodeMem w .ldq
  | 0x2A => decodeMem w .ldl_l
  | 0x2B => decodeMem w .ldq_l
  | 0x2C => decodeMem w .stl
  | 0x2D => decodeMem w .stq
  | 0x2E => decodeMem w .stl_c
  | 0x2F => decodeMem w .stq_c
  | 0x30 => decodeBranch w .br
  | 0x31 => decodeBranch w .fbeq
  | 0x32 => decodeBranch w .fblt
  | 0x33 => decodeBranch w .fble
  | 0x34 => decodeBranch w .bsr
  | 0x35 => decodeBranch w .fbne
  | 0x36 => decodeBranch w .fbge
  | 0x37 => decodeBranch w .fbgt
  | 0x38 => decodeBranch w .blbc
  | 0x39 => decodeBranch w .beq
  | 0x3A => decodeBranch w .blt
  | 0x3B => decodeBranch w .ble
  | 0x3C => decodeBranch w .blbs
  | 0x3D => decodeBranch w .bne
  | 0x3E => decodeBranch w .bge
  | 0x3F => decodeBranch w .bgt
  | _ => .rejected (.reservedOpcode (opcodeOf w))

/-- The longword whose byte of lowest address is the first (R450: instruction bits <7:0>). -/
def wordOfBytes (b0 b1 b2 b3 : Byte) : Long := b3 ++ b2 ++ b1 ++ b0

/-- The bytes of a word, lowest address first (R450). -/
def bytesOfWord (w : Long) : List Byte :=
  [w.extractLsb' 0 8, w.extractLsb' 8 8, w.extractLsb' 16 8, w.extractLsb' 24 8]

/-- Decode the instruction at the head of any bytes; the rest is what follows it (R450: every instruction is four
bytes). -/
noncomputable def decodeBytes : List Byte → Decoded × List Byte
  | b0 :: b1 :: b2 :: b3 :: rest => (decode (wordOfBytes b0 b1 b2 b3), rest)
  | short => (.rejected .tooFewBytes, short)

/-- The decoder's reading of an instruction whose bits are `w`, numbered as spec/opcode_table.json numbers them; bits
above `nbits` are zero. -/
noncomputable def decodeTableWord (nbits w : Nat) : Option Instr :=
  match (decodeBytes (bytesOfWord (BitVec.ofNat 32 (w % 2 ^ nbits)))).1 with
  | .instr i => some i
  | .rejected _ => none

/-! ## Encoding -/

/-- The register number written into a register field that the instruction does not use (R468, R486). -/
def unusedReg : Reg := 31

/-- Memory format (R453). -/
def encMem (op : BitVec 6) (ra rb : Reg) (disp : BitVec 16) : Long := op ++ ra ++ rb ++ disp

/-- Branch format (R454). -/
def encBranch (op : BitVec 6) (ra : Reg) (disp : BitVec 21) : Long := op ++ ra ++ disp

/-- Operate format (R455): register form with <15:13> = 0, or literal form. -/
def encOperate (op : BitVec 6) (fn : BitVec 7) (ra : Reg) (b : Operand) (rc : Reg) : Long :=
  match b with
  | .reg rb => op ++ ra ++ rb ++ (0 : BitVec 3) ++ (0 : BitVec 1) ++ fn ++ rc
  | .lit n => op ++ ra ++ n ++ (1 : BitVec 1) ++ fn ++ rc

/-- Floating-point operate format (R456). -/
def encFloat (op : BitVec 6) (fn : BitVec 11) (fa fb fc : Reg) : Long := op ++ fa ++ fb ++ fn ++ fc

/-- Jump group (R457, R469). -/
def encJump (sel : BitVec 2) (ra rb : Reg) (hint : BitVec 14) : Long := (0x1A : BitVec 6) ++ ra ++ rb ++ sel ++ hint

/-- One bit as a field. -/
def bitField (b : Bool) : BitVec 1 := BitVec.ofBool b

/-- HW_LD and HW_ST (R481, R482): six option bits <15:10> and the displacement. -/
def encHwMem (op : BitVec 6) (ra rb : Reg) (b15 b14 b13 b12 b11 b10 : Bool) (disp : BitVec 10) : Long :=
  op ++ ra ++ rb ++ bitField b15 ++ bitField b14 ++ bitField b13 ++ bitField b12 ++ bitField b11 ++ bitField b10 ++ disp

/-- The word of an instruction. -/
def encode : Instr → Long
  | .lda ra rb disp => encMem 0x08 ra rb disp
  | .ldah ra rb disp => encMem 0x09 ra rb disp
  | .ldbu ra rb disp => encMem 0x0A ra rb disp
  | .ldq_u ra rb disp => encMem 0x0B ra rb disp
  | .ldwu ra rb disp => encMem 0x0C ra rb disp
  | .stw ra rb disp => encMem 0x0D ra rb disp
  | .stb ra rb disp => encMem 0x0E ra rb disp
  | .stq_u ra rb disp => encMem 0x0F ra rb disp
  | .ldl ra rb disp => encMem 0x28 ra rb disp
  | .ldq ra rb disp => encMem 0x29 ra rb disp
  | .ldl_l ra rb disp => encMem 0x2A ra rb disp
  | .ldq_l ra rb disp => encMem 0x2B ra rb disp
  | .stl ra rb disp => encMem 0x2C ra rb disp
  | .stq ra rb disp => encMem 0x2D ra rb disp
  | .stl_c ra rb disp => encMem 0x2E ra rb disp
  | .stq_c ra rb disp => encMem 0x2F ra rb disp
  | .ldf fa rb disp => encMem 0x20 fa rb disp
  | .ldg fa rb disp => encMem 0x21 fa rb disp
  | .lds fa rb disp => encMem 0x22 fa rb disp
  | .ldt fa rb disp => encMem 0x23 fa rb disp
  | .stf fa rb disp => encMem 0x24 fa rb disp
  | .stg fa rb disp => encMem 0x25 fa rb disp
  | .sts fa rb disp => encMem 0x26 fa rb disp
  | .stt fa rb disp => encMem 0x27 fa rb disp
  | .br ra disp => encBranch 0x30 ra disp
  | .bsr ra disp => encBranch 0x34 ra disp
  | .blbc ra disp => encBranch 0x38 ra disp
  | .beq ra disp => encBranch 0x39 ra disp
  | .blt ra disp => encBranch 0x3A ra disp
  | .ble ra disp => encBranch 0x3B ra disp
  | .blbs ra disp => encBranch 0x3C ra disp
  | .bne ra disp => encBranch 0x3D ra disp
  | .bge ra disp => encBranch 0x3E ra disp
  | .bgt ra disp => encBranch 0x3F ra disp
  | .fbeq fa disp => encBranch 0x31 fa disp
  | .fblt fa disp => encBranch 0x32 fa disp
  | .fble fa disp => encBranch 0x33 fa disp
  | .fbne fa disp => encBranch 0x35 fa disp
  | .fbge fa disp => encBranch 0x36 fa disp
  | .fbgt fa disp => encBranch 0x37 fa disp
  | .jmp ra rb hint => encJump 0 ra rb hint
  | .jsr ra rb hint => encJump 1 ra rb hint
  | .ret ra rb hint => encJump 2 ra rb hint
  | .jsr_coroutine ra rb hint => encJump 3 ra rb hint
  | .addl ra b rc => encOperate 0x10 0x00 ra b rc
  | .addl_v ra b rc => encOperate 0x10 0x40 ra b rc
  | .addq ra b rc => encOperate 0x10 0x20 ra b rc
  | .addq_v ra b rc => encOperate 0x10 0x60 ra b rc
  | .subl ra b rc => encOperate 0x10 0x09 ra b rc
  | .subl_v ra b rc => encOperate 0x10 0x49 ra b rc
  | .subq ra b rc => encOperate 0x10 0x29 ra b rc
  | .subq_v ra b rc => encOperate 0x10 0x69 ra b rc
  | .s4addl ra b rc => encOperate 0x10 0x02 ra b rc
  | .s8addl ra b rc => encOperate 0x10 0x12 ra b rc
  | .s4addq ra b rc => encOperate 0x10 0x22 ra b rc
  | .s8addq ra b rc => encOperate 0x10 0x32 ra b rc
  | .s4subl ra b rc => encOperate 0x10 0x0B ra b rc
  | .s8subl ra b rc => encOperate 0x10 0x1B ra b rc
  | .s4subq ra b rc => encOperate 0x10 0x2B ra b rc
  | .s8subq ra b rc => encOperate 0x10 0x3B ra b rc
  | .cmpeq ra b rc => encOperate 0x10 0x2D ra b rc
  | .cmplt ra b rc => encOperate 0x10 0x4D ra b rc
  | .cmple ra b rc => encOperate 0x10 0x6D ra b rc
  | .cmpult ra b rc => encOperate 0x10 0x1D ra b rc
  | .cmpule ra b rc => encOperate 0x10 0x3D ra b rc
  | .cmpbge ra b rc => encOperate 0x10 0x0F ra b rc
  | .and ra b rc => encOperate 0x11 0x00 ra b rc
  | .bic ra b rc => encOperate 0x11 0x08 ra b rc
  | .bis ra b rc => encOperate 0x11 0x20 ra b rc
  | .ornot ra b rc => encOperate 0x11 0x28 ra b rc
  | .xor ra b rc => encOperate 0x11 0x40 ra b rc
  | .eqv ra b rc => encOperate 0x11 0x48 ra b rc
  | .cmoveq ra b rc => encOperate 0x11 0x24 ra b rc
  | .cmovne ra b rc => encOperate 0x11 0x26 ra b rc
  | .cmovlt ra b rc => encOperate 0x11 0x44 ra b rc
  | .cmovle ra b rc => encOperate 0x11 0x64 ra b rc
  | .cmovgt ra b rc => encOperate 0x11 0x66 ra b rc
  | .cmovge ra b rc => encOperate 0x11 0x46 ra b rc
  | .cmovlbs ra b rc => encOperate 0x11 0x14 ra b rc
  | .cmovlbc ra b rc => encOperate 0x11 0x16 ra b rc
  | .amask b rc => encOperate 0x11 0x61 unusedReg b rc
  | .implver rc => encOperate 0x11 0x6C unusedReg (.lit 1) rc
  | .sll ra b rc => encOperate 0x12 0x39 ra b rc
  | .srl ra b rc => encOperate 0x12 0x34 ra b rc
  | .sra ra b rc => encOperate 0x12 0x3C ra b rc
  | .zap ra b rc => encOperate 0x12 0x30 ra b rc
  | .zapnot ra b rc => encOperate 0x12 0x31 ra b rc
  | .extbl ra b rc => encOperate 0x12 0x06 ra b rc
  | .extwl ra b rc => encOperate 0x12 0x16 ra b rc
  | .extll ra b rc => encOperate 0x12 0x26 ra b rc
  | .extql ra b rc => encOperate 0x12 0x36 ra b rc
  | .extwh ra b rc => encOperate 0x12 0x5A ra b rc
  | .extlh ra b rc => encOperate 0x12 0x6A ra b rc
  | .extqh ra b rc => encOperate 0x12 0x7A ra b rc
  | .insbl ra b rc => encOperate 0x12 0x0B ra b rc
  | .inswl ra b rc => encOperate 0x12 0x1B ra b rc
  | .insll ra b rc => encOperate 0x12 0x2B ra b rc
  | .insql ra b rc => encOperate 0x12 0x3B ra b rc
  | .inswh ra b rc => encOperate 0x12 0x57 ra b rc
  | .inslh ra b rc => encOperate 0x12 0x67 ra b rc
  | .insqh ra b rc => encOperate 0x12 0x77 ra b rc
  | .mskbl ra b rc => encOperate 0x12 0x02 ra b rc
  | .mskwl ra b rc => encOperate 0x12 0x12 ra b rc
  | .mskll ra b rc => encOperate 0x12 0x22 ra b rc
  | .mskql ra b rc => encOperate 0x12 0x32 ra b rc
  | .mskwh ra b rc => encOperate 0x12 0x52 ra b rc
  | .msklh ra b rc => encOperate 0x12 0x62 ra b rc
  | .mskqh ra b rc => encOperate 0x12 0x72 ra b rc
  | .mull ra b rc => encOperate 0x13 0x00 ra b rc
  | .mull_v ra b rc => encOperate 0x13 0x40 ra b rc
  | .mulq ra b rc => encOperate 0x13 0x20 ra b rc
  | .mulq_v ra b rc => encOperate 0x13 0x60 ra b rc
  | .umulh ra b rc => encOperate 0x13 0x30 ra b rc
  | .sextb b rc => encOperate 0x1C 0x00 unusedReg b rc
  | .sextw b rc => encOperate 0x1C 0x01 unusedReg b rc
  | .cvtlq fb fc => encFloat 0x17 0x010 unusedReg fb fc
  | .cpys fa fb fc => encFloat 0x17 0x020 fa fb fc
  | .cpysn fa fb fc => encFloat 0x17 0x021 fa fb fc
  | .cpyse fa fb fc => encFloat 0x17 0x022 fa fb fc
  | .mt_fpcr fa fb fc => encFloat 0x17 0x024 fa fb fc
  | .mf_fpcr fa fb fc => encFloat 0x17 0x025 fa fb fc
  | .fcmoveq fa fb fc => encFloat 0x17 0x02A fa fb fc
  | .fcmovne fa fb fc => encFloat 0x17 0x02B fa fb fc
  | .fcmovlt fa fb fc => encFloat 0x17 0x02C fa fb fc
  | .fcmovge fa fb fc => encFloat 0x17 0x02D fa fb fc
  | .fcmovle fa fb fc => encFloat 0x17 0x02E fa fb fc
  | .fcmovgt fa fb fc => encFloat 0x17 0x02F fa fb fc
  | .cvtql fb fc => encFloat 0x17 0x030 unusedReg fb fc
  | .cvtql_v fb fc => encFloat 0x17 0x130 unusedReg fb fc
  | .cvtql_sv fb fc => encFloat 0x17 0x530 unusedReg fb fc
  | .adds fa fb fc => encFloat 0x16 0x080 fa fb fc
  | .adds_c fa fb fc => encFloat 0x16 0x000 fa fb fc
  | .adds_m fa fb fc => encFloat 0x16 0x040 fa fb fc
  | .adds_d fa fb fc => encFloat 0x16 0x0C0 fa fb fc
  | .adds_u fa fb fc => encFloat 0x16 0x180 fa fb fc
  | .adds_uc fa fb fc => encFloat 0x16 0x100 fa fb fc
  | .adds_um fa fb fc => encFloat 0x16 0x140 fa fb fc
  | .adds_ud fa fb fc => encFloat 0x16 0x1C0 fa fb fc
  | .adds_su fa fb fc => encFloat 0x16 0x580 fa fb fc
  | .adds_suc fa fb fc => encFloat 0x16 0x500 fa fb fc
  | .adds_sum fa fb fc => encFloat 0x16 0x540 fa fb fc
  | .adds_sud fa fb fc => encFloat 0x16 0x5C0 fa fb fc
  | .adds_sui fa fb fc => encFloat 0x16 0x780 fa fb fc
  | .adds_suic fa fb fc => encFloat 0x16 0x700 fa fb fc
  | .adds_suim fa fb fc => encFloat 0x16 0x740 fa fb fc
  | .adds_suid fa fb fc => encFloat 0x16 0x7C0 fa fb fc
  | .addt fa fb fc => encFloat 0x16 0x0A0 fa fb fc
  | .addt_c fa fb fc => encFloat 0x16 0x020 fa fb fc
  | .addt_m fa fb fc => encFloat 0x16 0x060 fa fb fc
  | .addt_d fa fb fc => encFloat 0x16 0x0E0 fa fb fc
  | .addt_u fa fb fc => encFloat 0x16 0x1A0 fa fb fc
  | .addt_uc fa fb fc => encFloat 0x16 0x120 fa fb fc
  | .addt_um fa fb fc => encFloat 0x16 0x160 fa fb fc
  | .addt_ud fa fb fc => encFloat 0x16 0x1E0 fa fb fc
  | .addt_su fa fb fc => encFloat 0x16 0x5A0 fa fb fc
  | .addt_suc fa fb fc => encFloat 0x16 0x520 fa fb fc
  | .addt_sum fa fb fc => encFloat 0x16 0x560 fa fb fc
  | .addt_sud fa fb fc => encFloat 0x16 0x5E0 fa fb fc
  | .addt_sui fa fb fc => encFloat 0x16 0x7A0 fa fb fc
  | .addt_suic fa fb fc => encFloat 0x16 0x720 fa fb fc
  | .addt_suim fa fb fc => encFloat 0x16 0x760 fa fb fc
  | .addt_suid fa fb fc => encFloat 0x16 0x7E0 fa fb fc
  | .subs fa fb fc => encFloat 0x16 0x081 fa fb fc
  | .subs_c fa fb fc => encFloat 0x16 0x001 fa fb fc
  | .subs_m fa fb fc => encFloat 0x16 0x041 fa fb fc
  | .subs_d fa fb fc => encFloat 0x16 0x0C1 fa fb fc
  | .subs_u fa fb fc => encFloat 0x16 0x181 fa fb fc
  | .subs_uc fa fb fc => encFloat 0x16 0x101 fa fb fc
  | .subs_um fa fb fc => encFloat 0x16 0x141 fa fb fc
  | .subs_ud fa fb fc => encFloat 0x16 0x1C1 fa fb fc
  | .subs_su fa fb fc => encFloat 0x16 0x581 fa fb fc
  | .subs_suc fa fb fc => encFloat 0x16 0x501 fa fb fc
  | .subs_sum fa fb fc => encFloat 0x16 0x541 fa fb fc
  | .subs_sud fa fb fc => encFloat 0x16 0x5C1 fa fb fc
  | .subs_sui fa fb fc => encFloat 0x16 0x781 fa fb fc
  | .subs_suic fa fb fc => encFloat 0x16 0x701 fa fb fc
  | .subs_suim fa fb fc => encFloat 0x16 0x741 fa fb fc
  | .subs_suid fa fb fc => encFloat 0x16 0x7C1 fa fb fc
  | .subt fa fb fc => encFloat 0x16 0x0A1 fa fb fc
  | .subt_c fa fb fc => encFloat 0x16 0x021 fa fb fc
  | .subt_m fa fb fc => encFloat 0x16 0x061 fa fb fc
  | .subt_d fa fb fc => encFloat 0x16 0x0E1 fa fb fc
  | .subt_u fa fb fc => encFloat 0x16 0x1A1 fa fb fc
  | .subt_uc fa fb fc => encFloat 0x16 0x121 fa fb fc
  | .subt_um fa fb fc => encFloat 0x16 0x161 fa fb fc
  | .subt_ud fa fb fc => encFloat 0x16 0x1E1 fa fb fc
  | .subt_su fa fb fc => encFloat 0x16 0x5A1 fa fb fc
  | .subt_suc fa fb fc => encFloat 0x16 0x521 fa fb fc
  | .subt_sum fa fb fc => encFloat 0x16 0x561 fa fb fc
  | .subt_sud fa fb fc => encFloat 0x16 0x5E1 fa fb fc
  | .subt_sui fa fb fc => encFloat 0x16 0x7A1 fa fb fc
  | .subt_suic fa fb fc => encFloat 0x16 0x721 fa fb fc
  | .subt_suim fa fb fc => encFloat 0x16 0x761 fa fb fc
  | .subt_suid fa fb fc => encFloat 0x16 0x7E1 fa fb fc
  | .muls fa fb fc => encFloat 0x16 0x082 fa fb fc
  | .muls_c fa fb fc => encFloat 0x16 0x002 fa fb fc
  | .muls_m fa fb fc => encFloat 0x16 0x042 fa fb fc
  | .muls_d fa fb fc => encFloat 0x16 0x0C2 fa fb fc
  | .muls_u fa fb fc => encFloat 0x16 0x182 fa fb fc
  | .muls_uc fa fb fc => encFloat 0x16 0x102 fa fb fc
  | .muls_um fa fb fc => encFloat 0x16 0x142 fa fb fc
  | .muls_ud fa fb fc => encFloat 0x16 0x1C2 fa fb fc
  | .muls_su fa fb fc => encFloat 0x16 0x582 fa fb fc
  | .muls_suc fa fb fc => encFloat 0x16 0x502 fa fb fc
  | .muls_sum fa fb fc => encFloat 0x16 0x542 fa fb fc
  | .muls_sud fa fb fc => encFloat 0x16 0x5C2 fa fb fc
  | .muls_sui fa fb fc => encFloat 0x16 0x782 fa fb fc
  | .muls_suic fa fb fc => encFloat 0x16 0x702 fa fb fc
  | .muls_suim fa fb fc => encFloat 0x16 0x742 fa fb fc
  | .muls_suid fa fb fc => encFloat 0x16 0x7C2 fa fb fc
  | .mult fa fb fc => encFloat 0x16 0x0A2 fa fb fc
  | .mult_c fa fb fc => encFloat 0x16 0x022 fa fb fc
  | .mult_m fa fb fc => encFloat 0x16 0x062 fa fb fc
  | .mult_d fa fb fc => encFloat 0x16 0x0E2 fa fb fc
  | .mult_u fa fb fc => encFloat 0x16 0x1A2 fa fb fc
  | .mult_uc fa fb fc => encFloat 0x16 0x122 fa fb fc
  | .mult_um fa fb fc => encFloat 0x16 0x162 fa fb fc
  | .mult_ud fa fb fc => encFloat 0x16 0x1E2 fa fb fc
  | .mult_su fa fb fc => encFloat 0x16 0x5A2 fa fb fc
  | .mult_suc fa fb fc => encFloat 0x16 0x522 fa fb fc
  | .mult_sum fa fb fc => encFloat 0x16 0x562 fa fb fc
  | .mult_sud fa fb fc => encFloat 0x16 0x5E2 fa fb fc
  | .mult_sui fa fb fc => encFloat 0x16 0x7A2 fa fb fc
  | .mult_suic fa fb fc => encFloat 0x16 0x722 fa fb fc
  | .mult_suim fa fb fc => encFloat 0x16 0x762 fa fb fc
  | .mult_suid fa fb fc => encFloat 0x16 0x7E2 fa fb fc
  | .divs fa fb fc => encFloat 0x16 0x083 fa fb fc
  | .divs_c fa fb fc => encFloat 0x16 0x003 fa fb fc
  | .divs_m fa fb fc => encFloat 0x16 0x043 fa fb fc
  | .divs_d fa fb fc => encFloat 0x16 0x0C3 fa fb fc
  | .divs_u fa fb fc => encFloat 0x16 0x183 fa fb fc
  | .divs_uc fa fb fc => encFloat 0x16 0x103 fa fb fc
  | .divs_um fa fb fc => encFloat 0x16 0x143 fa fb fc
  | .divs_ud fa fb fc => encFloat 0x16 0x1C3 fa fb fc
  | .divs_su fa fb fc => encFloat 0x16 0x583 fa fb fc
  | .divs_suc fa fb fc => encFloat 0x16 0x503 fa fb fc
  | .divs_sum fa fb fc => encFloat 0x16 0x543 fa fb fc
  | .divs_sud fa fb fc => encFloat 0x16 0x5C3 fa fb fc
  | .divs_sui fa fb fc => encFloat 0x16 0x783 fa fb fc
  | .divs_suic fa fb fc => encFloat 0x16 0x703 fa fb fc
  | .divs_suim fa fb fc => encFloat 0x16 0x743 fa fb fc
  | .divs_suid fa fb fc => encFloat 0x16 0x7C3 fa fb fc
  | .divt fa fb fc => encFloat 0x16 0x0A3 fa fb fc
  | .divt_c fa fb fc => encFloat 0x16 0x023 fa fb fc
  | .divt_m fa fb fc => encFloat 0x16 0x063 fa fb fc
  | .divt_d fa fb fc => encFloat 0x16 0x0E3 fa fb fc
  | .divt_u fa fb fc => encFloat 0x16 0x1A3 fa fb fc
  | .divt_uc fa fb fc => encFloat 0x16 0x123 fa fb fc
  | .divt_um fa fb fc => encFloat 0x16 0x163 fa fb fc
  | .divt_ud fa fb fc => encFloat 0x16 0x1E3 fa fb fc
  | .divt_su fa fb fc => encFloat 0x16 0x5A3 fa fb fc
  | .divt_suc fa fb fc => encFloat 0x16 0x523 fa fb fc
  | .divt_sum fa fb fc => encFloat 0x16 0x563 fa fb fc
  | .divt_sud fa fb fc => encFloat 0x16 0x5E3 fa fb fc
  | .divt_sui fa fb fc => encFloat 0x16 0x7A3 fa fb fc
  | .divt_suic fa fb fc => encFloat 0x16 0x723 fa fb fc
  | .divt_suim fa fb fc => encFloat 0x16 0x763 fa fb fc
  | .divt_suid fa fb fc => encFloat 0x16 0x7E3 fa fb fc
  | .cvtts fb fc => encFloat 0x16 0x0AC unusedReg fb fc
  | .cvtts_c fb fc => encFloat 0x16 0x02C unusedReg fb fc
  | .cvtts_m fb fc => encFloat 0x16 0x06C unusedReg fb fc
  | .cvtts_d fb fc => encFloat 0x16 0x0EC unusedReg fb fc
  | .cvtts_u fb fc => encFloat 0x16 0x1AC unusedReg fb fc
  | .cvtts_uc fb fc => encFloat 0x16 0x12C unusedReg fb fc
  | .cvtts_um fb fc => encFloat 0x16 0x16C unusedReg fb fc
  | .cvtts_ud fb fc => encFloat 0x16 0x1EC unusedReg fb fc
  | .cvtts_su fb fc => encFloat 0x16 0x5AC unusedReg fb fc
  | .cvtts_suc fb fc => encFloat 0x16 0x52C unusedReg fb fc
  | .cvtts_sum fb fc => encFloat 0x16 0x56C unusedReg fb fc
  | .cvtts_sud fb fc => encFloat 0x16 0x5EC unusedReg fb fc
  | .cvtts_sui fb fc => encFloat 0x16 0x7AC unusedReg fb fc
  | .cvtts_suic fb fc => encFloat 0x16 0x72C unusedReg fb fc
  | .cvtts_suim fb fc => encFloat 0x16 0x76C unusedReg fb fc
  | .cvtts_suid fb fc => encFloat 0x16 0x7EC unusedReg fb fc
  | .cvtqs fb fc => encFloat 0x16 0x0BC unusedReg fb fc
  | .cvtqs_c fb fc => encFloat 0x16 0x03C unusedReg fb fc
  | .cvtqs_m fb fc => encFloat 0x16 0x07C unusedReg fb fc
  | .cvtqs_d fb fc => encFloat 0x16 0x0FC unusedReg fb fc
  | .cvtqs_sui fb fc => encFloat 0x16 0x7BC unusedReg fb fc
  | .cvtqs_suic fb fc => encFloat 0x16 0x73C unusedReg fb fc
  | .cvtqs_suim fb fc => encFloat 0x16 0x77C unusedReg fb fc
  | .cvtqs_suid fb fc => encFloat 0x16 0x7FC unusedReg fb fc
  | .cvtqt fb fc => encFloat 0x16 0x0BE unusedReg fb fc
  | .cvtqt_c fb fc => encFloat 0x16 0x03E unusedReg fb fc
  | .cvtqt_m fb fc => encFloat 0x16 0x07E unusedReg fb fc
  | .cvtqt_d fb fc => encFloat 0x16 0x0FE unusedReg fb fc
  | .cvtqt_sui fb fc => encFloat 0x16 0x7BE unusedReg fb fc
  | .cvtqt_suic fb fc => encFloat 0x16 0x73E unusedReg fb fc
  | .cvtqt_suim fb fc => encFloat 0x16 0x77E unusedReg fb fc
  | .cvtqt_suid fb fc => encFloat 0x16 0x7FE unusedReg fb fc
  | .cmptun fa fb fc => encFloat 0x16 0x0A4 fa fb fc
  | .cmptun_su fa fb fc => encFloat 0x16 0x5A4 fa fb fc
  | .cmpteq fa fb fc => encFloat 0x16 0x0A5 fa fb fc
  | .cmpteq_su fa fb fc => encFloat 0x16 0x5A5 fa fb fc
  | .cmptlt fa fb fc => encFloat 0x16 0x0A6 fa fb fc
  | .cmptlt_su fa fb fc => encFloat 0x16 0x5A6 fa fb fc
  | .cmptle fa fb fc => encFloat 0x16 0x0A7 fa fb fc
  | .cmptle_su fa fb fc => encFloat 0x16 0x5A7 fa fb fc
  | .cvtst fb fc => encFloat 0x16 0x2AC unusedReg fb fc
  | .cvtst_s fb fc => encFloat 0x16 0x6AC unusedReg fb fc
  | .cvttq fb fc => encFloat 0x16 0x0AF unusedReg fb fc
  | .cvttq_c fb fc => encFloat 0x16 0x02F unusedReg fb fc
  | .cvttq_m fb fc => encFloat 0x16 0x06F unusedReg fb fc
  | .cvttq_d fb fc => encFloat 0x16 0x0EF unusedReg fb fc
  | .cvttq_v fb fc => encFloat 0x16 0x1AF unusedReg fb fc
  | .cvttq_vc fb fc => encFloat 0x16 0x12F unusedReg fb fc
  | .cvttq_vm fb fc => encFloat 0x16 0x16F unusedReg fb fc
  | .cvttq_vd fb fc => encFloat 0x16 0x1EF unusedReg fb fc
  | .cvttq_sv fb fc => encFloat 0x16 0x5AF unusedReg fb fc
  | .cvttq_svc fb fc => encFloat 0x16 0x52F unusedReg fb fc
  | .cvttq_svm fb fc => encFloat 0x16 0x56F unusedReg fb fc
  | .cvttq_svd fb fc => encFloat 0x16 0x5EF unusedReg fb fc
  | .cvttq_svi fb fc => encFloat 0x16 0x7AF unusedReg fb fc
  | .cvttq_svic fb fc => encFloat 0x16 0x72F unusedReg fb fc
  | .cvttq_svim fb fc => encFloat 0x16 0x76F unusedReg fb fc
  | .cvttq_svid fb fc => encFloat 0x16 0x7EF unusedReg fb fc
  | .addf fa fb fc => encFloat 0x15 0x080 fa fb fc
  | .addf_c fa fb fc => encFloat 0x15 0x000 fa fb fc
  | .addf_u fa fb fc => encFloat 0x15 0x180 fa fb fc
  | .addf_uc fa fb fc => encFloat 0x15 0x100 fa fb fc
  | .addf_s fa fb fc => encFloat 0x15 0x480 fa fb fc
  | .addf_sc fa fb fc => encFloat 0x15 0x400 fa fb fc
  | .addf_su fa fb fc => encFloat 0x15 0x580 fa fb fc
  | .addf_suc fa fb fc => encFloat 0x15 0x500 fa fb fc
  | .addg fa fb fc => encFloat 0x15 0x0A0 fa fb fc
  | .addg_c fa fb fc => encFloat 0x15 0x020 fa fb fc
  | .addg_u fa fb fc => encFloat 0x15 0x1A0 fa fb fc
  | .addg_uc fa fb fc => encFloat 0x15 0x120 fa fb fc
  | .addg_s fa fb fc => encFloat 0x15 0x4A0 fa fb fc
  | .addg_sc fa fb fc => encFloat 0x15 0x420 fa fb fc
  | .addg_su fa fb fc => encFloat 0x15 0x5A0 fa fb fc
  | .addg_suc fa fb fc => encFloat 0x15 0x520 fa fb fc
  | .subf fa fb fc => encFloat 0x15 0x081 fa fb fc
  | .subf_c fa fb fc => encFloat 0x15 0x001 fa fb fc
  | .subf_u fa fb fc => encFloat 0x15 0x181 fa fb fc
  | .subf_uc fa fb fc => encFloat 0x15 0x101 fa fb fc
  | .subf_s fa fb fc => encFloat 0x15 0x481 fa fb fc
  | .subf_sc fa fb fc => encFloat 0x15 0x401 fa fb fc
  | .subf_su fa fb fc => encFloat 0x15 0x581 fa fb fc
  | .subf_suc fa fb fc => encFloat 0x15 0x501 fa fb fc
  | .subg fa fb fc => encFloat 0x15 0x0A1 fa fb fc
  | .subg_c fa fb fc => encFloat 0x15 0x021 fa fb fc
  | .subg_u fa fb fc => encFloat 0x15 0x1A1 fa fb fc
  | .subg_uc fa fb fc => encFloat 0x15 0x121 fa fb fc
  | .subg_s fa fb fc => encFloat 0x15 0x4A1 fa fb fc
  | .subg_sc fa fb fc => encFloat 0x15 0x421 fa fb fc
  | .subg_su fa fb fc => encFloat 0x15 0x5A1 fa fb fc
  | .subg_suc fa fb fc => encFloat 0x15 0x521 fa fb fc
  | .mulf fa fb fc => encFloat 0x15 0x082 fa fb fc
  | .mulf_c fa fb fc => encFloat 0x15 0x002 fa fb fc
  | .mulf_u fa fb fc => encFloat 0x15 0x182 fa fb fc
  | .mulf_uc fa fb fc => encFloat 0x15 0x102 fa fb fc
  | .mulf_s fa fb fc => encFloat 0x15 0x482 fa fb fc
  | .mulf_sc fa fb fc => encFloat 0x15 0x402 fa fb fc
  | .mulf_su fa fb fc => encFloat 0x15 0x582 fa fb fc
  | .mulf_suc fa fb fc => encFloat 0x15 0x502 fa fb fc
  | .mulg fa fb fc => encFloat 0x15 0x0A2 fa fb fc
  | .mulg_c fa fb fc => encFloat 0x15 0x022 fa fb fc
  | .mulg_u fa fb fc => encFloat 0x15 0x1A2 fa fb fc
  | .mulg_uc fa fb fc => encFloat 0x15 0x122 fa fb fc
  | .mulg_s fa fb fc => encFloat 0x15 0x4A2 fa fb fc
  | .mulg_sc fa fb fc => encFloat 0x15 0x422 fa fb fc
  | .mulg_su fa fb fc => encFloat 0x15 0x5A2 fa fb fc
  | .mulg_suc fa fb fc => encFloat 0x15 0x522 fa fb fc
  | .divf fa fb fc => encFloat 0x15 0x083 fa fb fc
  | .divf_c fa fb fc => encFloat 0x15 0x003 fa fb fc
  | .divf_u fa fb fc => encFloat 0x15 0x183 fa fb fc
  | .divf_uc fa fb fc => encFloat 0x15 0x103 fa fb fc
  | .divf_s fa fb fc => encFloat 0x15 0x483 fa fb fc
  | .divf_sc fa fb fc => encFloat 0x15 0x403 fa fb fc
  | .divf_su fa fb fc => encFloat 0x15 0x583 fa fb fc
  | .divf_suc fa fb fc => encFloat 0x15 0x503 fa fb fc
  | .divg fa fb fc => encFloat 0x15 0x0A3 fa fb fc
  | .divg_c fa fb fc => encFloat 0x15 0x023 fa fb fc
  | .divg_u fa fb fc => encFloat 0x15 0x1A3 fa fb fc
  | .divg_uc fa fb fc => encFloat 0x15 0x123 fa fb fc
  | .divg_s fa fb fc => encFloat 0x15 0x4A3 fa fb fc
  | .divg_sc fa fb fc => encFloat 0x15 0x423 fa fb fc
  | .divg_su fa fb fc => encFloat 0x15 0x5A3 fa fb fc
  | .divg_suc fa fb fc => encFloat 0x15 0x523 fa fb fc
  | .cvtdg fb fc => encFloat 0x15 0x09E unusedReg fb fc
  | .cvtdg_c fb fc => encFloat 0x15 0x01E unusedReg fb fc
  | .cvtdg_u fb fc => encFloat 0x15 0x19E unusedReg fb fc
  | .cvtdg_uc fb fc => encFloat 0x15 0x11E unusedReg fb fc
  | .cvtdg_s fb fc => encFloat 0x15 0x49E unusedReg fb fc
  | .cvtdg_sc fb fc => encFloat 0x15 0x41E unusedReg fb fc
  | .cvtdg_su fb fc => encFloat 0x15 0x59E unusedReg fb fc
  | .cvtdg_suc fb fc => encFloat 0x15 0x51E unusedReg fb fc
  | .cvtgf fb fc => encFloat 0x15 0x0AC unusedReg fb fc
  | .cvtgf_c fb fc => encFloat 0x15 0x02C unusedReg fb fc
  | .cvtgf_u fb fc => encFloat 0x15 0x1AC unusedReg fb fc
  | .cvtgf_uc fb fc => encFloat 0x15 0x12C unusedReg fb fc
  | .cvtgf_s fb fc => encFloat 0x15 0x4AC unusedReg fb fc
  | .cvtgf_sc fb fc => encFloat 0x15 0x42C unusedReg fb fc
  | .cvtgf_su fb fc => encFloat 0x15 0x5AC unusedReg fb fc
  | .cvtgf_suc fb fc => encFloat 0x15 0x52C unusedReg fb fc
  | .cvtgd fb fc => encFloat 0x15 0x0AD unusedReg fb fc
  | .cvtgd_c fb fc => encFloat 0x15 0x02D unusedReg fb fc
  | .cvtgd_u fb fc => encFloat 0x15 0x1AD unusedReg fb fc
  | .cvtgd_uc fb fc => encFloat 0x15 0x12D unusedReg fb fc
  | .cvtgd_s fb fc => encFloat 0x15 0x4AD unusedReg fb fc
  | .cvtgd_sc fb fc => encFloat 0x15 0x42D unusedReg fb fc
  | .cvtgd_su fb fc => encFloat 0x15 0x5AD unusedReg fb fc
  | .cvtgd_suc fb fc => encFloat 0x15 0x52D unusedReg fb fc
  | .cvtgq fb fc => encFloat 0x15 0x0AF unusedReg fb fc
  | .cvtgq_c fb fc => encFloat 0x15 0x02F unusedReg fb fc
  | .cvtgq_v fb fc => encFloat 0x15 0x1AF unusedReg fb fc
  | .cvtgq_vc fb fc => encFloat 0x15 0x12F unusedReg fb fc
  | .cvtgq_s fb fc => encFloat 0x15 0x4AF unusedReg fb fc
  | .cvtgq_sc fb fc => encFloat 0x15 0x42F unusedReg fb fc
  | .cvtgq_sv fb fc => encFloat 0x15 0x5AF unusedReg fb fc
  | .cvtgq_svc fb fc => encFloat 0x15 0x52F unusedReg fb fc
  | .cvtqf fb fc => encFloat 0x15 0x0BC unusedReg fb fc
  | .cvtqf_c fb fc => encFloat 0x15 0x03C unusedReg fb fc
  | .cvtqg fb fc => encFloat 0x15 0x0BE unusedReg fb fc
  | .cvtqg_c fb fc => encFloat 0x15 0x03E unusedReg fb fc
  | .cmpgeq fa fb fc => encFloat 0x15 0x0A5 fa fb fc
  | .cmpgeq_s fa fb fc => encFloat 0x15 0x4A5 fa fb fc
  | .cmpglt fa fb fc => encFloat 0x15 0x0A6 fa fb fc
  | .cmpglt_s fa fb fc => encFloat 0x15 0x4A6 fa fb fc
  | .cmpgle fa fb fc => encFloat 0x15 0x0A7 fa fb fc
  | .cmpgle_s fa fb fc => encFloat 0x15 0x4A7 fa fb fc
  | .trapb => encMem 0x18 unusedReg unusedReg 0x0000
  | .excb => encMem 0x18 unusedReg unusedReg 0x0400
  | .mb => encMem 0x18 unusedReg unusedReg 0x4000
  | .wmb => encMem 0x18 unusedReg unusedReg 0x4400
  | .fetch rb => encMem 0x18 unusedReg rb 0x8000
  | .fetch_m rb => encMem 0x18 unusedReg rb 0xA000
  | .rpcc ra => encMem 0x18 ra unusedReg 0xC000
  | .rc ra => encMem 0x18 ra unusedReg 0xE000
  | .rs ra => encMem 0x18 ra unusedReg 0xF000
  | .call_pal fn => (0 : BitVec 6) ++ fn
  | .hw_mfpr ra rb index => encMem 0x19 ra rb index
  | .hw_ld ra rb phys alt wrtck quad vpte lock disp => encHwMem 0x1B ra rb phys alt wrtck quad vpte lock disp
  | .hw_mtpr ra rb index => encMem 0x1D ra rb index
  | .hw_rei mbz => encMem 0x1E unusedReg unusedReg ((2 : BitVec 2) ++ mbz)
  | .hw_rei_stall mbz => encMem 0x1E unusedReg unusedReg ((3 : BitVec 2) ++ mbz)
  | .hw_st ra rb phys alt mbz13 quad mbz11 cond disp => encHwMem 0x1F ra rb phys alt mbz13 quad mbz11 cond disp

end Sys2Proof
end

