-- ==== Sys2Proof/Machine/Fetch.lean ====
section
/-!
DEFINITION. Fetching one instruction: where its bytes come from, and what the Icache may still hold instead (20_memory.md
sections 5, 9; 70_reset_and_hazards.md R1083, R1085; 61_errors.md R1032).
-/

namespace Sys2Proof.Machine

/-! ## Translation while it changes (20_memory.md R330) -/

/-- The translation of a fetch by another state. -/
def State.translateAs (s : State) (f : FetchState) (va : Quad) : FetchTranslation :=
  { s with idu := { s.idu with
      itb := f.itb
      itbAsn := f.asn
      icm := f.icm
      icsr := (s.idu.icsr &&& ~~~maskOf 28 2) ||| place f.spe 28 } }.translateFetch va

/-- The translation of a fetch: by the present state, or freely by one that it may still use. -/
def chooseTranslation (va : Quad) : List Former → State → FetchTranslation × State
  | [], s => (s.translateFetch va, s)
  | f :: rest, s => bif s.drawChoice then (s.translateAs f.fetch va, s.drawn) else chooseTranslation va rest s.drawn

/-! ## The SROM image (R1085, R1088) -/

/-- A word of the image answers a fetch at a virtual or PALmode address: PALmode fetches hit physical blocks, native-mode
fetches virtual ones of their address space. -/
def SromWord.hits (palmode : Bool) (asn : BitVec 7) (a : Nat) (e : SromWord) : Bool :=
  e.physical == palmode && (palmode || e.asm || e.asn == asn) && e.addr == a

/-- The words of the image that a fetch at pc hits. -/
def State.sromHits (s : State) : List SromWord :=
  s.model.stale.srom.filter (SromWord.hits s.palmode s.idu.itbAsn (slice (clearLow s.pc 2) 0 43).toNat)

/-! ## What the Icache may hold -/

/-- The longwords that a fetch from a physical address may return in place of memory: what a store has replaced (R360). -/
def State.staleAt (s : State) (a : Nat) : List Long :=
  let st := s.model.stale
  let old := st.unbarriered ++ st.barriered ++ st.settled ++ st.draining
  (old.filter (fun p => p.1 == a)).map (·.2)

/-- The blocks with the address that the Icache or the refill buffer may hold (R360: "unless the line is known absent"), by the
parity that is bad in them. -/
def State.holds (s : State) (a : Nat) : List (BitVec 2) :=
  ((s.model.stale.held ++ s.model.stale.drainingHeld).filter fun b => b.1 == a / 32).map (·.2)

/-- Of some byte of the longword at an address nothing is known. -/
def State.unknownAt (s : State) (a : Nat) : Bool := (bytesIn a 4).any s.memsys.caches.poisoned.elem

/-- What memory gives: a free word where nothing is known of it (61_errors.md R1040). -/
def State.memoryWord (s : State) (pa : Nat) : Long := bif s.unknownAt pa then slice s.drawValue 0 32 else Memory.long s.mem pa

/-- The words that blocks in the Icache may have at a physical address, each with the parity that is bad in its block. -/
def State.heldWords (s : State) (a : Nat) : List (Long × BitVec 2) :=
  ((s.holds a).map fun bad => (s.memoryWord a :: s.staleAt a).map fun w => (w, bad)).flatten

/-- The physical addresses that a native-mode address was mapped to since the last flush, by the ITB or by a superpage (R362),
and as they stand on the bus (21_external_interface.md R399), under which blocks are held. -/
def State.formerPages (s : State) (va : Quad) : List Nat :=
  let old := s.model.stale.mappings ++ s.model.stale.drainingMappings
  let sp := s.model.stale.superpages ||| s.model.stale.drainingSuperpages
  let pages := (old.filter (ItbEntry.hits s.idu.itbAsn (vpnOf va))).map (fun e => pagePa e.pte.gh e.pte.pfn va) ++
    (bif sp.getLsbD 1 && inSuperpage1 va then [superpage1 va] else []) ++
    (bif sp.getLsbD 0 && inSuperpage0 va then [superpage0 va] else [])
  (pages.map fun pa => (bif s.busAddress pa == pa then [pa] else [s.busAddress pa, pa]).map (·.toNat)).flatten

/-- What a fetch that hits the Icache may return. ICSR<FMS> makes every Icache reference miss (11_state_idu_iprs.md
R149). -/
def State.cached (s : State) (pa : Nat) : List (Long × BitVec 2) :=
  bif s.icsrBit 34 then []
  else s.heldWords pa ++ (bif s.palmode then [] else ((s.formerPages (clearLow s.pc 2)).map s.heldWords).flatten)

/-! ## A fetch -/

/-- An instruction fetched, with the parity error that it meets: bit 0 data, 1 tag; `missed` says that its block has been read.
-/
structure Fetched where
  word : Long
  bad : BitVec 2
  missed : Bool
  state : State
deriving DecidableEq, Repr

/-- The fetch misses: the block is read. A store that waits in the write buffer is seen there, or it is not (20_memory.md R340).
-/
def State.fetchMiss (s : State) (pa : Nat) : Fetched :=
  let t := s.istreamRead (BitVec.ofNat 40 pa)
  let w := t.memoryWord pa
  bif (bytesIn pa 4).any t.memsys.covers then ⟨bif t.drawChoice then t.belowLong pa else w, 0, true, t.drawn⟩
  else ⟨w, 0, true, bif t.unknownAt pa then t.drawn else t⟩

/-- A free choice among what the Icache may hold, or a miss. -/
def State.fetchChoose (pa : Nat) : List (Long × BitVec 2) → State → Fetched
  | [], s => s.fetchMiss pa
  | v :: rest, s => bif s.drawChoice then ⟨v.1, v.2, false, s.drawn⟩ else State.fetchChoose pa rest s.drawn

/-- A hit in the SROM image, freely, where other blocks may have taken its place. -/
def State.fetchSrom (pa : Nat) : List SromWord → State → Fetched
  | [], s => State.fetchChoose pa (s.cached pa) s
  | e :: rest, s =>
    bif s.icsrBit 34 then State.fetchChoose pa (s.cached pa) s
    else bif s.model.stale.sromWhole then ⟨e.word, e.bad, false, s⟩
    else bif s.drawChoice then ⟨e.word, e.bad, false, s.drawn⟩
    else State.fetchSrom pa rest s.drawn

/-- The instruction at a physical address: from a block of the SROM image, surely as long as nothing else has been fetched; from
what the Icache may hold; or read from the caches and memory. -/
def State.fetchWord (s : State) (pa : Nat) : Fetched := State.fetchSrom pa s.sromHits s

/-- The physical address of a PALmode fetch: PC<39:2>, untranslated (10_state.md R61; DESIGN CHOICE, unsafe, log entry
9: the bits above are not used). -/
def palFetchPa (pc : Quad) : PAddr := superpage1 (clearLow pc 2)

end Sys2Proof.Machine
end

