-- ==== Sys2Proof/Machine/Hazards.lean ====
section
/-!
DEFINITION. The restrictions on PALcode of Table 5-37 (70_reset_and_hazards.md R1110 to R1150), counted in instructions
(R1111): a flow that breaks one is refused (R1112).
-/

namespace Sys2Proof.Machine

/-! ## Classes of instruction words (R1110) -/

/-- The opcode is one of a list. -/
def opIn (w : Long) (l : List Nat) : Bool := l.elem (opcodeOf w).toNat

/-- LDQ_U with Ra = 31, which makes no reference (40_load_store.md R504). -/
def isUnop (w : Long) : Bool := opIn w [0x0B] && raOf w == 31

/-- "Load instructions": without ICSR<BSE> the byte and word loads, and HW_LD where it is not allowed, are reserved opcodes
(30_encoding.md R480; 48_palcode.md R930). -/
def isLoad (s : State) (w : Long) : Bool :=
  (opIn w [0x0B, 0x20, 0x21, 0x22, 0x23, 0x28, 0x29, 0x2A, 0x2B] && !isUnop w) ||
    (opIn w [0x0A, 0x0C] && s.byteWordEnabled) || (opIn w [0x1B] && s.palOpcodeAllowed)

/-- "LDx": not LDQ_U, LDx_L or HW_LD. -/
def isLdx (s : State) (w : Long) : Bool := isLoad s w && !opIn w [0x0B, 0x1B, 0x2A, 0x2B]

/-- "Store instructions". -/
def isStore (s : State) (w : Long) : Bool :=
  opIn w [0x0F, 0x24, 0x25, 0x26, 0x27, 0x2C, 0x2D, 0x2E, 0x2F] || (opIn w [0x0D, 0x0E] && s.byteWordEnabled) ||
    (opIn w [0x1F] && s.palOpcodeAllowed)

/-- An instruction of opcode 18 with one of these function codes. -/
def isMisc (w : Long) (l : List Nat) : Bool := opIn w [0x18] && l.elem (field w 0 16).toNat

/-- "MTU instructions". -/
def isMtu (s : State) (w : Long) : Bool := isLoad s w || isStore s w || isMisc w [0x8000, 0xA000]

/-- "Virtual MTU instructions": not HW_LD or HW_ST with PHYS. -/
def isVirtualMtu (s : State) (w : Long) : Bool := isMtu s w && !(opIn w [0x1B, 0x1F] && w.getLsbD 15)

/-- HW_MFPR of a register. -/
def isMfpr (w : Long) (index : BitVec 16) : Bool := opIn w [0x19] && field w 0 16 == index

/-- HW_MTPR of a register. -/
def isMtpr (w : Long) (index : BitVec 16) : Bool := opIn w [0x1D] && field w 0 16 == index

/-- HW_MTPR of one of several registers. -/
def isMtprOf (w : Long) (l : List (BitVec 16)) : Bool := l.any (isMtpr w)

/-- HW_REI_STALL. -/
def isReiStall (w : Long) : Bool := opIn w [0x1E] && field w 14 2 == 3

/-- Floating-point instructions (60_exceptions.md R972). -/
def isFp (w : Long) : Bool :=
  opIn w [0x15, 0x16, 0x17, 0x20, 0x21, 0x22, 0x23, 0x24, 0x25, 0x26, 0x27, 0x31, 0x32, 0x33, 0x35, 0x36, 0x37]

/-- The byte/word extension (30_encoding.md R480). -/
def isByteWord (w : Long) : Bool := opIn w [0x0A, 0x0C, 0x0D, 0x0E, 0x1C]

/-- The word raises OPCDEC (60_exceptions.md R973). -/
def State.raisesOpcdec (s : State) (w : Long) : Bool :=
  opIn w [0x01, 0x02, 0x03, 0x04, 0x05, 0x06, 0x07, 0x14] || (isByteWord w && !s.byteWordEnabled) ||
    (opIn w [0x19, 0x1B, 0x1D, 0x1E, 0x1F] && !s.palOpcodeAllowed) ||
    (opIn w [0x00] && callPalIllegal (field w 0 26) s.kernel)

/-- The word raises FEN (60_exceptions.md R972). -/
def State.raisesFen (s : State) (w : Long) : Bool :=
  (isFp w && !s.fpEnabled) || (opIn w [0x16] && field w 9 2 == 1)

/-! ## Registers that a word names; bit 5 marks the floating-point registers -/

def intName (r : Reg) : BitVec 6 := (0 : BitVec 1) ++ r

def fpName (r : Reg) : BitVec 6 := (1 : BitVec 1) ++ r

/-- The function code of an Operate instruction, and of a floating-point one. -/
def intFunction (w : Long) : Nat := (field w 5 7).toNat

def fpFunction (w : Long) : Nat := (field w 5 11).toNat

/-- A conversion, which uses Fb alone (30_encoding.md R456; 46_fp_vax.md R845). -/
def isConversion (w : Long) : Bool :=
  (opIn w [0x15, 0x16] && [0x1E, 0x2C, 0x2D, 0x2F, 0x3C, 0x3E].elem (fpFunction w % 64)) ||
    (opIn w [0x17] && [0x010, 0x030, 0x130, 0x530].elem (fpFunction w))

/-- The registers that an instruction of opcodes 10 to 13 and 1C reads: Rb unless it is a literal, Ra unless the instruction
ignores it, and Rc in a conditional move (43_logical_shift_byte.md R660). -/
def operateReads (w : Long) : List (BitVec 6) :=
  let f := intFunction w
  let ra := bif opIn w [0x1C] || (opIn w [0x11] && [0x61, 0x6C].elem f) then [] else [intName (raOf w)]
  let rb := bif w.getLsbD 12 || (opIn w [0x11] && f == 0x6C) then [] else [intName (rbOf w)]
  let rc := bif opIn w [0x11] && [0x14, 0x16, 0x24, 0x26, 0x44, 0x46, 0x64, 0x66].elem f then [intName (rcOf w)] else []
  ra ++ rb ++ rc

/-- The registers that a floating-point operation reads: Fb alone in a conversion, Fa alone in MT_FPCR, none in MF_FPCR, and Fc
too in a conditional move. -/
def fpReads (w : Long) : List (BitVec 6) :=
  let f := fpFunction w
  bif isConversion w then [fpName (rbOf w)]
  else bif opIn w [0x17] && f == 0x024 then [fpName (raOf w)]
  else bif opIn w [0x17] && f == 0x025 then []
  else bif opIn w [0x17] && Nat.ble 0x02A f && Nat.ble f 0x02F then [fpName (raOf w), fpName (rbOf w), fpName (rcOf w)]
  else [fpName (raOf w), fpName (rbOf w)]

/-- The registers that a word reads. -/
def readsOf (w : Long) : List (BitVec 6) :=
  let ra := raOf w
  let rb := rbOf w
  bif isUnop w then []
  else bif opIn w [0x08, 0x09, 0x0A, 0x0B, 0x0C, 0x1A, 0x1B, 0x1D, 0x20, 0x21, 0x22, 0x23, 0x28, 0x29, 0x2A, 0x2B] ||
      isMisc w [0x8000, 0xA000] then [intName rb]
  else bif opIn w [0x0D, 0x0E, 0x0F, 0x1F, 0x2C, 0x2D, 0x2E, 0x2F] then [intName ra, intName rb]
  else bif opIn w [0x10, 0x11, 0x12, 0x13, 0x1C] then operateReads w
  else bif opIn w [0x15, 0x16, 0x17] then fpReads w
  else bif opIn w [0x24, 0x25, 0x26, 0x27] then [fpName ra, intName rb]
  else bif opIn w [0x31, 0x32, 0x33, 0x35, 0x36, 0x37] then [fpName ra]
  else bif opIn w [0x38, 0x39, 0x3A, 0x3B, 0x3C, 0x3D, 0x3E, 0x3F] then [intName ra]
  else []

/-- The registers that a word writes. -/
def writesOf (w : Long) : List (BitVec 6) :=
  bif opIn w [0x08, 0x09, 0x0A, 0x0B, 0x0C, 0x19, 0x1A, 0x1B, 0x28, 0x29, 0x2A, 0x2B, 0x2E, 0x2F, 0x30, 0x34] ||
      isMisc w [0xC000, 0xE000, 0xF000] || (opIn w [0x1F] && w.getLsbD 10) then [intName (raOf w)]
  else bif opIn w [0x10, 0x11, 0x12, 0x13, 0x1C] then [intName (rcOf w)]
  else bif opIn w [0x17] && fpFunction w == 0x024 then []
  else bif opIn w [0x17] && fpFunction w == 0x025 then [fpName (raOf w)]
  else bif opIn w [0x15, 0x16, 0x17] then [fpName (rcOf w)]
  else bif opIn w [0x20, 0x21, 0x22, 0x23] then [fpName (raOf w)]
  else []

/-- The word raises OPCDEC or FEN, and does nothing else. -/
def State.trapsAtOnce (s : State) (w : Long) : Bool := s.raisesOpcdec w || s.raisesFen w

/-- The registers that a word reads or writes in this state: none if it only raises OPCDEC or FEN. -/
def State.named (s : State) (w : Long) : List (BitVec 6) := bif s.trapsAtOnce w then [] else readsOf w ++ writesOf w

/-- The register is one of R8 to R14 and R25. -/
def namesShadow (d : BitVec 6) : Bool := !d.getLsbD 5 && (shadowSlot (d.extractLsb' 0 5)).isSome

/-! ## Windows (R1111, R1150) -/

/-- A word is in the class that a ban forbids. The PALcode-only opcodes are in none where they are not allowed: there they
raise OPCDEC (R1110; 48_palcode.md R930). A row that names HW_REI alone leaves HW_REI_STALL free, as the rows that name both
do not (DESIGN CHOICE, log entry 40). -/
def Ban.forbids (s : State) (w : Long) : Ban → Bool
  | .rei => opIn w [0x1E] && s.palOpcodeAllowed
  | .reiPlain => opIn w [0x1E] && !isReiStall w && s.palOpcodeAllowed
  | .reiStall => isReiStall w && s.palOpcodeAllowed
  | .mfpr index => isMfpr w index && s.palOpcodeAllowed
  | .mtpr index => isMtpr w index && s.palOpcodeAllowed
  | .mtuIpr => opIn w [0x19, 0x1D] && field w 8 8 == 2 && s.palOpcodeAllowed
  | .mtu => isMtu s w
  | .virtualMtu => isVirtualMtu s w
  | .ldx => isLdx s w
  | .loadOrStore => isLoad s w || isStore s w
  | .fpBranch => opIn w [0x31, 0x32, 0x33, 0x35, 0x36, 0x37]
  | .fenOpcdec => s.raisesOpcdec w || s.raisesFen w
  | .fpInstruction => isFp w
  | .shadowAccess => s.palmode && (s.named w).any namesShadow
  | .byteWord => isByteWord w
  | .callPal => opIn w [0x00]
  | .privilegedCallPal => opIn w [0x00] && (field w 0 26).ule 0x3F
  | .rpcc => isMisc w [0xC000]
  | .wmb => isMisc w [0x4400]
  | .registerFile => (s.named w).any (fun d => d.extractLsb' 0 5 != (31 : BitVec 5))

/-- The rows after HW_MTPR ICSR, by the bits that change (R1127 to R1130). -/
def icsrRows (old new : Quad) : List (Ban × Nat) :=
  let changed (i : Nat) : Bool := bit (old ^^^ new) i
  (bif changed 30 then [(.shadowAccess, 3), (.reiPlain, 2)] else []) ++
    (bif changed 27 then [(.reiPlain, 3)] else []) ++
    (bif changed 26 then [(.fpInstruction, 3), (.reiPlain, 2)] else []) ++
    (bif changed 28 || changed 29 || changed 34 then [(.reiStall, 1), (.reiPlain, 4)] else []) ++
    (bif changed 17 then [(.byteWord, 3)] else [])

/-- The rows after HW_MTPR of a register (R1121 to R1148): what is forbidden, and the last cycle b of its window. -/
def mtprRows (s : State) (v : Quad) (index : BitVec 16) : List (Ban × Nat) :=
  (bif index.extractLsb' 8 8 == 1 then [(.mfpr index, 2), (.fpBranch, 0), (.fenOpcdec, 0)] else []) ++
  match index.toNat with
  | 0x103 => [(.reiStall, 4), (.mtpr 0x107, 3)]
  | 0x108 => [(.mfpr 0x111, 4)]
  | 0x109 => [(.mfpr 0x111, 5), (.reiPlain, 1)]
  | 0x10A => [(.mfpr 0x111, 5), (.reiPlain, 1)]
  | 0x10B => [(.reiPlain, 1)]
  | 0x10E => [(.callPal, 7), (.reiPlain, 6)]
  | 0x10F => [(.reiPlain, 2), (.privilegedCallPal, 3)]
  | 0x113 => [(.mfpr 0x112, 2)]
  | 0x118 => icsrRows s.idu.icsr v
  | 0x200 => [(.virtualMtu, 3), (.reiPlain, 2)]
  | 0x201 => [(.virtualMtu, 2), (.reiPlain, 1)]
  | 0x202 => [(.virtualMtu, 3), (.mtpr 0x202, 1), (.mfpr 0x203, 2), (.mtpr 0x20B, 2), (.reiPlain, 2)]
  | 0x203 => [(.virtualMtu, 2), (.mtpr 0x200, 2), (.mtpr 0x201, 2), (.mtpr 0x20C, 2), (.mtpr 0x20F, 2),
      (.mtpr 0x217, 2), (.mtpr 0x216, 2), (.mtpr 0x212, 2), (.mtpr 0x213, 2), (.mtpr 0x214, 2)]
  | 0x208 => [(.mfpr 0x207, 2)]
  | 0x209 => [(.virtualMtu, 3), (.mtpr 0x20B, 2), (.reiPlain, 2)]
  | 0x20A => [(.virtualMtu, 3), (.mtpr 0x20B, 2), (.reiPlain, 2), (.mfpr 0x203, 1)]
  | 0x20C => [(.virtualMtu, 2), (.reiPlain, 1)]
  | 0x20D => [(.rpcc, 2), (.reiPlain, 1)]
  | 0x20E => [(.rpcc, 2), (.reiPlain, 1)]
  | 0x20F => [(.virtualMtu, 4), (.mfpr 0x20F, 2), (.mfpr 0x207, 3), (.reiPlain, 3), (.reiStall, 1)]
  | 0x210 => [(.mtu, 2), (.reiPlain, 1)]
  | 0x212 => [(.loadOrStore, 1), (.mfpr 0x212, 2)]
  | 0x213 => [(.mfpr 0x214, 3), (.mfpr 0x213, 2)]
  | 0x214 => [(.mfpr 0x214, 3)]
  | 0x216 => [(.mtu, 4), (.mfpr 0x216, 2), (.reiPlain, 3), (.reiStall, 1)]
  | 0x217 => [(.mtu, 3), (.wmb, 3), (.mfpr 0x217, 2), (.reiPlain, 2)]
  | _ => []

/-- The rows after HW_MFPR of a register (R1149). -/
def mfprRows (index : BitVec 16) : List (Ban × Nat) :=
  match index.toNat with
  | 0x102 => [(.mfpr 0x104, 3)]
  | 0x203 => [(.mtu, 1), (.mtpr 0x213, 1), (.mtpr 0x214, 1), (.mfpr 0x204, 3), (.mfpr 0x203, 1), (.virtualMtu, 2)]
  | 0x214 => [(.mfpr 0x215, 1), (.ldx, 0)]
  | _ => []

/-- Every row that an instruction starts (R1118, R1120, R1150). -/
def State.rowsOf (s : State) (w : Long) : List (Ban × Nat) :=
  (bif isLoad s w then [(.mtuIpr, 0), (.mfpr 0x217, 2), (.mfpr 0x212, 2), (.mfpr 0x214, 0)] else []) ++
  (bif isStore s w then [(.mfpr 0x212, 2), (.mfpr 0x217, 2)] else []) ++
  (bif isVirtualMtu s w then [(.mtpr 0x20B, 1)] else []) ++
  (bif s.palmode && s.icsrBit 30 && !s.trapsAtOnce w && (writesOf w).any namesShadow then [(.rei, 1)] else []) ++
  (bif opIn w [0x1D] && s.palOpcodeAllowed then mtprRows s (s.readReg (rbOf w)) (field w 0 16) else []) ++
  (bif opIn w [0x19] && s.palOpcodeAllowed then mfprRows (field w 0 16) else [])

/-- The rows that a PALcode entry starts (R1114). -/
def entryRows : Entry → List (Ban × Nat)
  | .callPal => [(.rei, 0), (.mfpr 0x10B, 1)]
  | .arith => [(.mfpr 0x10C, 1), (.mfpr 0x10D, 1)]
  | .mchk => [(.registerFile, 7), (.mfpr 0x10C, 1), (.mfpr 0x10D, 1)]
  | .reset => []
  | .iaccvio => []
  | .interrupt => []
  | .itbmiss => []
  | .dtbmissSingle => []
  | .dtbmissDouble => []
  | .unalign => []
  | .dfault => []
  | .opcdec => []
  | .fen => []

/-- The window of a row in instructions (R1111): 4(b + 1) - 1 after an instruction that completed, 4b after one that
trapped, 4(b + 1) from an entry. -/
def instructionWindow (trapped : Bool) (b : Nat) : Nat := bif trapped then 4 * b else 4 * b + 3

/-- Rows as hazards; a window of no instructions is none. -/
def hazardsOf (window : Nat → Nat) (rows : List (Ban × Nat)) : List Hazard :=
  (rows.map fun r => (⟨r.1, window r.2⟩ : Hazard)).filter fun h => h.left != 0

/-- One instruction later. -/
def ageHazards (l : List Hazard) : List Hazard :=
  (l.filter fun h => Nat.blt 1 h.left).map fun h => { h with left := h.left - 1 }

/-- What an entry changes in the model's own fields: its rows; and the inline instructions after IC_FLUSH_CTL are broken off,
so that the flush is not known to have taken effect (R1126 says nothing of an entry among them; DESIGN CHOICE, log entry 41). -/
def Model.afterEntry (k : Model) (e : Entry) : Model :=
  { k with
    hazards := hazardsOf (fun b => 4 * (b + 1)) (entryRows e) ++ k.hazards
    owed := { k.owed with inline := 0, drain := 0 }
    sinceMtu := 8 }

/-- The loads that the CBU has not accepted yet are, and return, before an entry that waits for them (71_timing.md R1178). -/
def State.drainFor (e : Entry) (s : State) : State :=
  bif e.drains && s.memsys.maf.any (·.waits) then
    s.withMemSys fun c m => m.finish s.stopped c fun x => !x.slot.discards
  else s

/-- The bookkeeping of the entry that a step has taken. -/
def State.noteEntry (s : State) : State :=
  match s.model.lastEntry with
  | none => s
  | some e =>
    let t := s.drainFor e
    { t with model := t.model.afterEntry e }

/-! ## Obligations that are not windows -/

/-- A longword of the Istream as it stands: in the SROM image or in memory. -/
def State.staticWord (s : State) (pa : Nat) : Long :=
  match s.model.stale.srom.find? (fun e => e.physical && e.addr == pa) with
  | some e => bif s.model.stale.sromWhole then e.word else Memory.long s.mem pa
  | none => Memory.long s.mem pa

/-- The other three instructions of the aligned block of four (R1117, R1119). -/
def State.neighbours (s : State) (pa : Nat) : List Long :=
  (([0, 4, 8, 12].map (fun k => pa / 16 * 16 + k)).filter (fun a => a != pa)).map s.staticWord

/-- The placement rules: one HW_REI_STALL in a block (R1119); no other MTU instruction beside HW_LD with LOCK, no other
virtual one beside HW_LD with VPTE (R1117). -/
def State.misplaced (s : State) (pa : Nat) (w : Long) : Bool :=
  s.palOpcodeAllowed &&
    ((isReiStall w && (s.neighbours pa).any isReiStall) ||
      (opIn w [0x1B] && w.getLsbD 10 && (s.neighbours pa).any (isMtu s)) ||
      (opIn w [0x1B] && w.getLsbD 11 && (s.neighbours pa).any (isVirtualMtu s)))

/-- Loads are outstanding where none may be (R1137, R1138, R1140, R1149). -/
def State.fillsOutstanding (s : State) (w : Long) : Bool :=
  (isMtprOf w [0x210, 0x216, 0x214] || isMfpr w 0x214) && s.palOpcodeAllowed && !s.memsys.maf.isEmpty

/-- An instruction about to execute breaks a restriction. -/
def State.restricted (s : State) (pa : Nat) (w : Long) : Bool :=
  s.model.hazards.any (fun h => h.ban.forbids s w) || s.misplaced pa w || s.fillsOutstanding w ||
    (s.model.owed.dcTestRead && isMtpr w 0x213 && s.palOpcodeAllowed)

/-! ## Outstanding loads (R1137; 71_timing.md R1168) -/

/-- The instruction reads or writes the register of an outstanding load. -/
def State.uses (s : State) (w : Long) (e : MafEntry) : Bool :=
  !e.slot.discards && (s.named w).any (fun d => s.slotOf d == e.slot)

/-- The loads whose registers an instruction reads or writes have returned. -/
def State.useRegisters (s : State) (w : Long) : State :=
  bif s.memsys.maf.any (s.uses w) then s.withMemSys fun c m => m.finish s.stopped c (s.uses w) else s

/-- With MAF_MODE<MAF_ARB_DISABLE> the loads that the CBU has not accepted do not return, and no entry leaves the write buffer
(12_state_mtu_iprs.md R207). What needs one of them waits: an instruction that uses the register of such a load; an MTU
instruction or WMB behind a locked one (20_memory.md R345); MB behind any, or behind stores; a hint while the write buffer is
full (for stores see `State.storeHeld`, for conditional ones `condAt`). A word that only raises OPCDEC or FEN needs none. -/
def State.blocked (s : State) (w : Long) : Bool :=
  s.stopped && !s.trapsAtOnce w &&
    (s.memsys.maf.any (fun e => e.waits && s.uses w e) ||
      (s.memsys.maf.any (fun e => e.waits && e.lock) && (isMtu s w || isMisc w [0x4400])) ||
      (isMisc w [0x4000] && (s.memsys.maf.any (·.waits) || !s.memsys.wb.isEmpty || s.model.cbuWaits.isSome)) ||
      (isMisc w [0x8000, 0xA000] && Nat.ble 6 s.memsys.wb.length))

/-- A load or store has waited for the miss address file or the write buffer. -/
def State.accessWaited (s : State) (w : Long) (t : State) : Bool :=
  s.stopped && (isLoad s w || isStore s w) && t.pc == s.pc && t.model.lastEntry.isNone

/-- An entry cannot be taken, since it waits for loads that do not return. -/
def State.entryHeld (s t : State) : Bool :=
  s.stopped && t.model.lastEntry.any Entry.drains && s.memsys.maf.any fun e => e.waits && !e.slot.discards

/-! ## After an instruction -/

/-- The exceptions of the MTU (60_exceptions.md R965). -/
def Entry.isDstream : Entry → Bool
  | .dtbmissSingle => true
  | .dtbmissDouble => true
  | .unalign => true
  | .dfault => true
  | .reset => false
  | .iaccvio => false
  | .interrupt => false
  | .itbmiss => false
  | .mchk => false
  | .opcdec => false
  | .arith => false
  | .fen => false
  | .callPal => false

/-- The traps of the IDU but for ITBMISS (R1116). -/
def Entry.isIdu : Entry → Bool
  | .opcdec => true
  | .fen => true
  | .iaccvio => true
  | .interrupt => true
  | .mchk => true
  | .arith => true
  | .dtbmissSingle => false
  | .dtbmissDouble => false
  | .unalign => false
  | .dfault => false
  | .reset => false
  | .itbmiss => false
  | .callPal => false

/-- The instruction was carried out: it took no entry but that of CALL_PAL. -/
def Entry.completes : Option Entry → Bool
  | none => true
  | some e => e == .callPal

/-- The word at a program counter, if the fetch translates. -/
def State.staticAt (s : State) (pc : Quad) : Option Long :=
  bif bit pc 0 then some (s.staticWord (s.busAddress (palFetchPa pc)).toNat)
  else match s.translateFetch (clearLow pc 2) with
    | .ok pa => some (s.staticWord (s.busAddress pa).toNat)
    | .itbmiss => none
    | .iaccvio _ => none
    | .multiple => none

/-- A conditional branch. -/
def isConditional (w : Long) : Bool :=
  opIn w [0x31, 0x32, 0x33, 0x35, 0x36, 0x37, 0x38, 0x39, 0x3A, 0x3B, 0x3C, 0x3D, 0x3E, 0x3F]

/-- A jump, a branch that is always taken, CALL_PAL, HW_REI. -/
def isTransfer (w : Long) : Bool := opIn w [0x00, 0x1A, 0x1E, 0x30, 0x34]

/-- Where executing a word at a program counter leads, in this state otherwise; nowhere if it stops. -/
noncomputable def State.leadsTo (s : State) (pc : Quad) (w : Long) : Option Quad :=
  match decode w with
  | .instr i =>
    match exec i { s with pc := pc } with
    | .next t => some t.pc
    | .fault _ => none
    | .refused _ => none
  | .rejected _ => none

/-- What an instruction writes, by the numbers of the registers, with 63 for EXC_ADDR; numbers 31 and 63 hold nothing. -/
def lateWrites (w : Long) : List (BitVec 6) :=
  (writesOf w).filter (fun d => d.extractLsb' 0 5 != (31 : BitVec 5)) ++ (bif isMtpr w 0x10B then [63] else [])

/-- What an instruction reads, likewise. -/
def lateReads (w : Long) : List (BitVec 6) :=
  (readsOf w).filter (fun d => d.extractLsb' 0 5 != (31 : BitVec 5)) ++ (bif opIn w [0x1E] || isMfpr w 0x10B then [63] else [])

/-- An instruction carried out ahead of its time, if it completes: no ARITH entry is owed there, and none of the fetch hazards
count. -/
noncomputable def State.ahead (s : State) (w : Long) : Option State :=
  match decode w with
  | .instr i =>
    match exec i { s with arithPending := false } with
    | .next t => bif Entry.completes t.model.lastEntry && !s.accessWaited w t then some t else none
    | .fault _ => none
    | .refused _ => none
  | .rejected _ => none

/-- The words among the next n instructions in program order, from the one at pc on, that stand where PALcode opcodes are
allowed (R1116). Each is carried out, so that a branch or jump behind it goes as it will go. One that does not complete leaves
its results to come, `late` with all that is computed from them: a transfer that needs one does not issue in time, and ends the
list (DESIGN CHOICE, log entry 24); otherwise the list goes on behind it. -/
noncomputable def State.program : Nat → List (BitVec 6) → State → List Long
  | 0, _, _ => []
  | n + 1, late, s =>
    let next : State := { s with pc := s.pc + 4 }
    match s.staticAt s.pc with
    | none => State.program n late next
    | some w =>
      let waits := (lateReads w).any late.elem
      (bif s.palOpcodeAllowed then [w] else []) ++
        bif waits && (isConditional w || isTransfer w) then []
        else match bif waits then none else s.ahead w with
          | some t => State.program n (late.filter fun d => !(lateWrites w).elem d) t
          | none => State.program n (lateWrites w ++ late) next

/-- The words of the seven instructions behind the one at pc, `w`, which has trapped. -/
noncomputable def State.followers (s : State) (w : Long) : List Long :=
  match s.ahead w with
  | some t => State.program 7 [] t
  | none => State.program 7 (lateWrites w) { s with pc := s.pc + 4 }

/-- HW_MTPR of an IDU register other than EXC_ADDR, or of DTB_IS. -/
def survivesDstreamTrap (w : Long) : Bool :=
  (opIn w [0x1D] && field w 8 8 == 1 && field w 0 16 != (0x10B : BitVec 16)) || isMtpr w 0x20B

/-- OPCDEC for want of privilege (R1116: "OPCDEC due to user mode"): CALL_PAL of a privileged function in PALmode outside
kernel mode. -/
def State.userOpcdec (s : State) (w : Long) (e : Entry) : Bool :=
  e == .opcdec && opIn w [0x00] && (field w 0 26).ule 0x3F && !s.kernel

/-- An HW_MTPR that would not be aborted stands in the shadow of the trap of an instruction (R1116). -/
noncomputable def State.trapShadow (s : State) (w : Long) (entry : Option Entry) : Bool :=
  s.palOpcodeAllowed &&
    match entry with
    | none => false
    | some e =>
      (e.isDstream && isMtu s w && (s.followers w).any survivesDstreamTrap) ||
        (e.isIdu && !s.userOpcdec w e && (s.followers w).any (fun v => isMtpr v 0x20B))

/-- HW_MTPR DTB_IS stands at the program counter, or in the shadow of an entry before the instruction there. -/
noncomputable def State.entryShadow (s : State) : Bool :=
  s.palOpcodeAllowed && (State.program 8 [] s).any (fun v => isMtpr v 0x20B)

/-- The word transfers control, if only to the next instruction: a branch that is taken, whatever its displacement, or any other
transfer. -/
noncomputable def State.transfers (s : State) (w : Long) : Bool :=
  isTransfer w || (isConditional w && s.leadsTo s.pc ((w &&& 0xFFE00000) ||| 1) != some (s.pc + 4))

/-- A restriction broken by where the instruction has led: out of the 44 inline instructions (R1126); out of PALmode, or by a
transfer of native code with ICSR<HWE>, with HW_REI_STALL, a flush or an MB owed (R1113, R1129, R1131, R1132); HW_REI_STALL
outside the octaword of an HW_MTPR ITB_IS (R1132); a trap shadow. -/
noncomputable def State.leftOwing (s : State) (pa : Nat) (w : Long) (t : State) : Bool :=
  let owed := t.model.owed
  (Nat.blt 0 s.model.owed.inline && Entry.completes t.model.lastEntry && s.transfers w) ||
    (s.palmode && !t.palmode && ((owed.reiStall && !isReiStall w) || owed.speFlush || t.model.cbuStore)) ||
    (!s.palmode && ((owed.reiStall && !isReiStall w) || owed.speFlush) && (s.transfers w || t.pc != s.pc + 4)) ||
    (isReiStall w && !t.palmode && owed.stallBlocks.any (· != pa / 16)) ||
    s.trapShadow w t.model.lastEntry

/-- The count of inline instructions from an INT16 boundary on, after one at `pa` (R1100): 45 before the first. -/
def drainAfter (drain pa : Nat) (inline : Bool) : Nat :=
  bif !inline then 0 else bif drain == 45 then (bif pa % 16 == 0 then 43 else 45) else drain - 1

/-- What the flow owes after a completed instruction; `inline` says that the next one follows it without a transfer. -/
def Owed.after (o : Owed) (pa : Nat) (w : Long) (palmode inline : Bool) : Owed :=
  let left := isReiStall w && !palmode
  { o with
    reiStall := (o.reiStall || isMtprOf w [0x102, 0x103, 0x105, 0x106, 0x107]) && !left
    stallBlocks := bif left then [] else bif isMtpr w 0x107 then pa / 16 :: o.stallBlocks else o.stallBlocks
    dcTestRead := (o.dcTestRead || isMfpr w 0x214) && !isMfpr w 0x215
    inline := bif isMtpr w 0x119 then o.inline else o.inline - 1
    drain := bif isMtpr w 0x119 then o.drain else drainAfter o.drain pa inline }

/-- The Icache after a completed instruction: the last of the 44 ends what fetch may still return (20_memory.md R361). -/
def Stale.after (st : Stale) (last : Bool) : Stale :=
  bif last then
    { st with
      draining := [], drainingMappings := [], srom := [], drainingHeld := [], drainingSuperpages := 0 }
  else st

/-- One instruction later: HW_REI_STALL ends what fetches may still use, and so does its count (20_memory.md R330). -/
def ageFormer (stall : Bool) (l : List Former) : List Former :=
  bif stall then []
  else (l.filter fun f => f.stall || Nat.blt 1 f.left).map fun f => { f with left := f.left - 1 }

/-- The model's own fields after a completed instruction. -/
def Model.completed (m : Model) (pa : Nat) (w : Long) (palmode inline mtu : Bool) (rows : List (Ban × Nat)) : Model :=
  { m with
    hazards := hazardsOf (instructionWindow false) rows ++ ageHazards m.hazards
    stale := m.stale.after (m.owed.drain == 1 && inline)
    owed := m.owed.after pa w palmode inline
    former := ageFormer (isReiStall w) m.former
    sinceMtu := bif mtu then 0 else bif Nat.blt m.sinceMtu 8 then m.sinceMtu + 1 else 8 }

/-- The bookkeeping of Table 5-37 after the instruction `w` at `pa`, executed in `s`, has answered `t`. -/
noncomputable def settle (s : State) (pa : Nat) (w : Long) (t : State) : Result State :=
  bif s.leftOwing pa w t then .refused .palcodeRestriction
  else
    let rows := s.rowsOf w
    .next
      { t with model :=
          bif Entry.completes t.model.lastEntry then
            t.model.completed pa w t.palmode (!s.transfers w) (isMtu s w || isMisc w [0x4400]) rows
          else { t.model with hazards := hazardsOf (instructionWindow true) rows ++ t.model.hazards } }.noteEntry

end Sys2Proof.Machine
end

