-- ==== Sys2Proof/Machine/Cycle.lean ====
section
/-!
DEFINITION. What one step does: an event from outside, or at the boundary before the instruction at pc an entry, or that
instruction (60_exceptions.md R961).
-/

namespace Sys2Proof.Machine

/-- A word that names no instruction: OPCDEC (R973), FEN (R972), or no meaning (30_encoding.md R475, R483). -/
def undecoded (s : State) (w : Long) : Result State :=
  bif s.raisesOpcdec w then raise .opcdec s
  else bif s.raisesFen w then raise .fen s
  else .refused .unusedFunctionCode

/-- Execute a decoded word. -/
def execDecoded (w : Long) (d : Decoded) (s : State) : Result State :=
  match d with
  | .instr i => exec i s
  | .rejected _ => undecoded s w

/-- Execute the word fetched from a physical address, under the restrictions of Table 5-37. One that waits for the memory
system leaves the state as it is. -/
noncomputable def runWord (pa : Nat) (w : Long) (s : State) : Result State :=
  bif s.blocked w then .next s
  else
    let t := s.useRegisters w
    bif t.restricted pa w then .refused .palcodeRestriction
    else andThen (execDecoded w (decode w) t) fun u => bif t.accessWaited w u then .next u else settle t pa w u

/-- The physical address of the next fetch, where the next step places an instruction. -/
def State.fetchPa (s : State) : PAddr :=
  s.busAddress (bif s.palmode then palFetchPa s.pc
  else match s.translateFetch (clearLow s.pc 2) with
    | .ok pa => pa
    | .itbmiss => palFetchPa s.pc
    | .iaccvio _ => palFetchPa s.pc
    | .multiple => palFetchPa s.pc)

/-- An entry taken before the instruction at pc, with no HW_MTPR DTB_IS in its shadow (R1116). -/
noncomputable def enterAt (s t : State) : Result State :=
  bif s.entryShadow then .refused .palcodeRestriction else .next t.noteEntry

/-- Fetch and execute the instruction at a physical address; one with bad parity in the Icache is not executed (61_errors.md
R1032), and what the caches have met in reading its block is taken up before it is (R1033, R1034, R1040, R1042). With a store to
a CBU control register awaiting its MB no cacheable block may be read (13_state_cbu_iprs.md R242; 93_implementation_defined.md
U34: refuse). The CBU registers hold no instructions. -/
noncomputable def runAt (pa : PAddr) (s : State) : Result State :=
  bif inCbu pa then .refused .cbuAccess
  else
    let a := (s.busAddress pa).toNat
    let f := s.fetchWord a
    bif f.missed && s.model.cbuQuiet && !pa.getLsbD 39 then .refused .cbuOrder
    else bif !f.state.memsys.caches.posted.isEmpty then .next f.state
    else bif f.bad == 0 then runWord a f.word f.state
    else enterAt f.state (takeEntry .mchk (·.setIcperr (f.bad.setWidth 3)) f.state)

/-- An interrupt at this boundary, if one is deliverable: at once or postponed, freely, but not for ever (R986, R991). -/
noncomputable def orInterrupt (k : State → Result State) (s : State) : Result State :=
  bif s.interruptDeliverable then
    bif Nat.ble Config.interruptBound s.model.postponed || s.drawChoice then
      enterAt s (takeEntry .interrupt id { s.drawn with model := { s.drawn.model with postponed := 0 } })
    else k { s.drawn with model := { s.drawn.model with postponed := s.model.postponed + 1 } }
  else k { s with model := { s.model with postponed := 0 } }

/-- An owed ARITH entry at this boundary, freely (R971). -/
noncomputable def orArith (k : State → Result State) (s : State) : Result State :=
  bif s.arithPending then
    bif s.drawChoice then enterAt s (takeArith s.drawn) else k s.drawn
  else k s

/-- A machine check that is owed is taken: one that comes before the next instruction, if there is one. -/
def State.checkTaken (s : State) : State := { s with machineChecks := s.machineChecks.erase (s.machineChecks.any id) }

/-- An owed machine check at this boundary (R974), in PALmode too: at once if it comes before the next instruction, otherwise
freely, but not for ever. An owed ARITH entry is taken in its place (R971 c). -/
noncomputable def orMachineCheck (k : State → Result State) (s : State) : Result State :=
  bif s.machineChecks.isEmpty then k { s with model := { s.model with checkWaited := 0 } }
  else bif s.machineChecks.any id || Nat.ble Config.machineCheckBound s.model.checkWaited || s.drawChoice then
    let t := { s.drawn with model := { s.drawn.model with checkWaited := 0 } }
    enterAt s (bif s.arithPending then takeArith t else takeEntry .mchk id t.checkTaken)
  else k { s.drawn with model := { s.drawn.model with checkWaited := s.model.checkWaited + 1 } }

/-- The boundary before the instruction at pc (R961): in native mode IACCVIO, then an interrupt, then ITBMISS. The translation
may be by a state that has just been changed (20_memory.md R330). -/
noncomputable def boundary (s : State) : Result State :=
  bif s.palmode then runAt (palFetchPa s.pc) s
  else
    let f := chooseTranslation (clearLow s.pc 2) s.model.former s
    match f.1 with
    | .iaccvio form => enterAt f.2 (takeEntry .iaccvio (recordFetchFault s.pc form) f.2)
    | .itbmiss => orInterrupt (fun s => .next (takeEntry .itbmiss (recordFetchFault s.pc true) s).noteEntry) f.2
    | .multiple => orInterrupt (fun _ => .fault .multipleTbMatch) f.2
    | .ok pa => orInterrupt (runAt pa) f.2

/-- The state at the start of a step: nothing is driven yet, and the counters that count are noted. -/
def State.begin (s : State) : State :=
  { s with
    memsys := s.memsys.onCaches fun m => { m with bus := .idle }
    model := { s.model with lastEntry := none, counted := s.countersFree } }

/-- The boundary of a step. An entry that waits for loads that do not return (MAF_MODE<MAF_ARB_DISABLE>) leaves the state as it
is. -/
noncomputable def atBoundary (s : State) : Result State :=
  andThen (orMachineCheck (orArith boundary) s) fun t => bif s.entryHeld t then .next s else .next t

/-- An event of the environment: the machine's own is none. -/
def Event.fromOutside : Event → Bool
  | .restore _ => false
  | .bcacheTagSeen _ _ _ _ _ _ => false
  | .scacheForced _ _ => false
  | .resume => false
  | _ => true

/-- The step of an event: what a reset enters is noted. -/
def eventStep (e : Event) (s : State) : Result State := andThen (handleEvent e s) fun t => .next t.noteEntry

/-- One step: what the caches have posted, the next event of the queue, or the boundary. -/
noncomputable def cycle (s : State) : Result State :=
  let b := s.begin
  match s.memsys.caches.posted with
  | e :: rest => eventStep e { b with memsys := b.memsys.onCaches fun m => { m with posted := rest } }
  | [] =>
    match s.model.inbox with
    | [] => atBoundary b
    | .quiet :: rest => atBoundary { b with model := { b.model with inbox := rest } }
    | e :: rest =>
      let t := { b with model := { b.model with inbox := rest } }
      bif e.fromOutside then eventStep e t else .next t

/-! ## Placing an instruction where the next step fetches it -/

/-- Nothing in the Icache answers a fetch from a physical address. -/
def Stale.forget (st : Stale) (pa : Nat) : Stale :=
  { st with
    unbarriered := st.unbarriered.filter (fun p => p.1 != pa)
    barriered := st.barriered.filter (fun p => p.1 != pa)
    settled := st.settled.filter (fun p => p.1 != pa)
    draining := st.draining.filter (fun p => p.1 != pa)
    mappings := []
    drainingMappings := []
    srom := []
    held := st.held.filter fun b => b.1 != pa / 32
    drainingHeld := st.drainingHeld.filter fun b => b.1 != pa / 32
    superpages := 0
    drainingSuperpages := 0 }

/-- A word stored where the next fetch reads it. -/
def State.placeWord (s : State) (w : Long) : State :=
  { s with
    mem := Memory.writeBytes s.mem s.fetchPa.toNat (w.setWidth 64) 4
    memsys := s.memsys.onCaches (·.clean (within s.fetchPa.toNat 4))
    model := { s.model with stale := s.model.stale.forget s.fetchPa.toNat } }

end Sys2Proof.Machine
end

