-- ==== Sys2Proof/Machine/Step.lean ====
section
/-!
DEFINITION. The step function, and the state in which the next step runs a given instruction.
-/

namespace Sys2Proof.Machine

/-- One step of the machine: a next state, a fault or a refusal. -/
noncomputable def step (s : State) : Result State := cycle s

/-- `s` with an instruction, its bits numbered as spec/opcode_table.json numbers them, stored where `step` fetches next. -/
def State.withFetchWord (s : State) (nbits w : Nat) : State := s.placeWord (BitVec.ofNat 32 (w % 2 ^ nbits))

end Sys2Proof.Machine
end

