-- ==== Sys2Proof/Safety.lean ====
section
/-!
DEFINITION. What a well-formed machine is, and what a safe step is: the terms of the statements about runs.
-/

namespace Sys2Proof.Machine

/-- The translation buffers keep their sizes and their pointers stay inside (10_state.md R71, R72). -/
def State.tbsOk (s : State) : Bool :=
  s.idu.itb.length == 48 && Nat.blt s.idu.itbPtr 48 && s.mtu.dtb.length == 64 && Nat.blt s.mtu.dtbPtr 64

/-- Bits that the spec fixes: pc<1> and EXC_ADDR<1> are zero (10_state.md R59, 11_state_idu_iprs.md R133), ICSR<37> is one
and <18> and the bits it does not have are zero (R140), DC_TEST_CTL<2> is zero (12_state_mtu_iprs.md R220). -/
def State.fixedBitsOk (s : State) : Bool :=
  !bit s.pc 1 && !bit s.idu.excAddr 1 && bit s.idu.icsr 37 && s.idu.icsr &&& icsrMask == s.idu.icsr &&
    !s.mtu.dcTestCtl.getLsbD 2

/-- The write buffer has at most its six entries (10_state.md R73). -/
def State.writeBufferOk (s : State) : Bool := Nat.ble s.memsys.wb.length 6

/-- A well-formed machine: memory in canonical form, the translation buffers, the fixed bits and the write buffer as the spec has
them. -/
def State.ok (s : State) : Bool := Memory.wf s.mem && s.tbsOk && s.fixedBitsOk && s.writeBufferOk

/-- A property that every step keeps. -/
def keptByStep (p : State → Bool) : Prop := ∀ s t : State, p s = true → step s = .next t → p t = true

/-- A step that goes on. -/
def goesOn (s : State) : Prop := ∃ t, step s = .next t

end Sys2Proof.Machine
end

