-- ==== Sys2Proof/Certificates/Slice0/Obligations.lean ====
section
/-!
DEFINITION. The statements for the provers, family by family, and before them the few terms they are written in. Numbers
are written out (toNat, toInt, division and remainder) where the spec writes arithmetic, so that a statement does not repeat
the definition it is about.
-/

namespace Sys2Proof.Machine

/-! ## Terms -/

/-- Byte j of a quadword (20_memory.md R300). -/
def byteAt (v : Quad) (j : Nat) : Byte := v.extractLsb' (8 * j) 8

/-- A number of n bits, sign-extended to a quadword. -/
def wrapped (n : Nat) (z : Int) : Quad := (BitVec.ofInt n z).signExtend 64

/-- `n` bytes from an address as a number, the byte of lowest address least significant (R300). -/
def littleEndian (m : List Host.Cell) (a n : Nat) : Nat :=
  (Finset.range n).sum fun i => (Memory.byte m (a + i)).toNat * 256 ^ i

/-- `after` is `before`, a memory in canonical form, with n bytes of a value stored at an address, and nothing else. -/
def storedAt (before after : List Host.Cell) (a n : Nat) (v : Quad) : Prop :=
  Memory.wf before = true →
    ∀ x, Memory.byte after x = if a ≤ x ∧ x < a + n then byteAt v (x - a) else Memory.byte before x

/-- The lock flag of `t` is that of `s`, unless a block came from outside while system_lock_flag_h was not asserted
(20_memory.md R352 c). -/
def keepsLock (s t : State) : Prop :=
  (s.pins.systemLock = true → t.lockFlag = s.lockFlag) ∧ (t.lockFlag = true → s.lockFlag = true)

/-- `t` is `s`, but for the program counter, which is 4 on, the memory system behind the instructions, a lock lost to a fill,
and the model's own fields. -/
def onlyAdvanced (s t : State) : Prop :=
  t.pc = s.pc + 4 ∧ keepsLock s t ∧
    { t with pc := s.pc, memsys := s.memsys, lockFlag := s.lockFlag, model := s.model } = s

/-- As `onlyAdvanced`, but for memory too. -/
def onlyMemory (s t : State) : Prop := onlyAdvanced s { t with mem := s.mem }

/-- The address on the bus: with ICSR<BSE> a noncacheable address, but for the CBU registers, loses bits <38:37>, which carry
the transfer size (21_external_interface.md R399). -/
def State.onBus (s : State) (pa : PAddr) : PAddr :=
  if 2 ^ 39 ≤ pa.toNat ∧ s.idu.icsr.getLsbD 17 = true ∧ pa.toNat < 0xFFFFF00000 then pa &&& ~~~0x6000000000 else pa

/-- Nothing is driven on the bus. -/
def State.quiet (s : State) : State :=
  { s with memsys := { s.memsys with caches := { s.memsys.caches with bus := ⟨[], 0, [], []⟩ } } }

/-- The entry sequence (60_exceptions.md R951 steps 4 to 6) for an event at the present pc. Step 6, the interrupt flag, is
the spec's from general knowledge (log entry 4). The loads before it have written their registers (71_timing.md R1178), those
that the CBU has not accepted yet at the end of the step; but not at a machine check, and CALL_PAL does not wait. -/
def enteredAt (e : Entry) (offset : Nat) (s : State) : State :=
  { s with
    idu := { s.idu with excAddr := s.pc &&& ~~~2 }
    pc := BitVec.ofNat 64 (s.idu.palBase.toNat * 2 ^ 14 + offset + 1)
    intrFlag := false
    memsys := { s.memsys with maf :=
      if e = .mchk ∨ e = .callPal ∨ e = .reset then s.memsys.maf
      else s.memsys.maf.filter fun x => x.slot.discards || x.waits }
    model := { s.model with lastEntry := some e } }

/-- An instruction raises an exception and changes nothing else: its entry, or the owed ARITH entry in its place
(60_exceptions.md R971 c). -/
def raises (i : Instr) (s : State) (e : Entry) (offset : Nat) : Prop :=
  (s.arithPending = false → exec i s = .next (enteredAt e offset s)) ∧
    (s.arithPending = true → exec i s = .next (enteredAt .arith 0x500 { s with arithPending := false }))

/-- A word makes the machine take an exception and changes nothing else: its entry, or the owed ARITH entry in its place. -/
def wordRaises (w : Long) (s : State) (e : Entry) (offset : Nat) : Prop :=
  (s.arithPending = false → execDecoded w (decode w) s = .next (enteredAt e offset s)) ∧
    (s.arithPending = true →
      execDecoded w (decode w) s = .next (enteredAt .arith 0x500 { s with arithPending := false }))

/-- An Operate instruction writes one register and advances the pc (42_integer_arith.md R600). -/
def operateWrites (c : Reg → Operand → Reg → Instr) (f : Quad → Quad → Quad) : Prop :=
  ∀ ra b rc s, exec (c ra b rc) s = .next ((s.writeReg rc (f (s.readReg ra) (s.operand b))).advance)

/-- A /V instruction, with the exact result z of the two sources, n bits wide: the result is written, and outside the range
EXC_SUM<IOV> and the register's bit of EXC_MASK are set and an ARITH entry is owed (R602). -/
def operateTraps (c : Reg → Operand → Reg → Instr) (n : Nat) (f : Int → Int → Int) : Prop :=
  ∀ ra b rc s,
    let z := f ((s.readReg ra).setWidth n).toInt ((s.operand b).setWidth n).toInt
    let t := (s.writeReg rc (wrapped n z)).advance
    exec (c ra b rc) s = .next
      (if -(2 ^ (n - 1) : Int) ≤ z ∧ z < 2 ^ (n - 1) then t
       else
        { t with
          idu := { t.idu with
            excSum := t.idu.excSum ||| 0x40
            excMaskInt := t.idu.excMaskInt ||| 1 <<< rc.toNat }
          arithPending := true })

/-- A conditional move: R[Rc] receives the second source when R[Ra] satisfies the condition (43_logical_shift_byte.md
R660). -/
def movesWhen (c : Reg → Operand → Reg → Instr) (p : Quad → Prop) [DecidablePred p] : Prop :=
  ∀ ra b rc s,
    exec (c ra b rc) s = .next (if p (s.readReg ra) then (s.writeReg rc (s.operand b)).advance else s.advance)

/-- A byte-manipulation instruction writes the number that `f` makes of R[Ra] and the byte offset: b<2:0>, counted from the
other end with MCSR<E_BIG_ENDIAN> (R680, R690). -/
def byteFormWrites (c : Reg → Operand → Reg → Instr) (f : Nat → Nat → Nat) : Prop :=
  ∀ ra b rc s,
    let k := (s.operand b).toNat % 8
    let offset := if s.mtu.mcsr.getLsbD 4 = true then 7 - k else k
    exec (c ra b rc) s = .next ((s.writeReg rc (BitVec.ofNat 64 (f (s.readReg ra).toNat offset))).advance)

/-- A data reference that goes to memory or I/O space at a physical address: it translates, outside the CBU region (or with the
Dcache forced to hit it, 12_state_mtu_iprs.md R205, and no fill that makes it miss, 71_timing.md R1170), with no CBU store
awaiting its MB, and is no byte or word access that BC_CONTROL<DIS_B_W_IO> forbids; a load need not wait for the miss address
file that MAF_MODE<MAF_ARB_DISABLE> holds (R207) and does not fill the Scache while BC_SIZE names no set for the flush by loads
(20_memory.md R367), and a store does not come between the clearing of a force hit bit and its MBs (13_state_cbu_iprs.md R242),
nor to a write buffer that is full and held by MAF_MODE<MAF_ARB_DISABLE> (71_timing.md R1176). -/
def State.reaches (s : State) (r : DRef) (pa : PAddr) : Prop :=
  s.translate r = .ok pa ∧ s.model.cbuStore = false ∧
    (pa.toNat < 0xFFFFF00000 ∨
      r.write = false ∧ r.lock = false ∧ s.mtu.dcMode.getLsbD 1 = true ∧ s.model.missNext = false) ∧
    s.byteWordIoOff r.size pa = false ∧
    (r.write = false → s.loadHeld r (s.onBus pa) = false ∧ s.flushUndefined r pa = false) ∧
    (r.write = true → s.model.owed.storesHeld = false ∧ s.storeHeld = false)

/-- The number a load receives: the bytes of memory, each free where the spec leaves the data open (20_memory.md R332). -/
def State.loadedNumber (s : State) (r : DRef) (pa : PAddr) : Nat :=
  (Finset.range r.size).sum fun k =>
    (if s.byteFree r pa (s.read r pa).memsys.caches k = true then byteAt s.drawValue k
     else Memory.byte s.mem (pa.toNat + k)).toNat * 256 ^ k

/-- An integer load: R[Ra] receives the extension of the number read. -/
def loadWrites (c : Reg → Reg → BitVec 16 → Instr) (op : BitVec 6) (n : Nat) (ext : Nat → Int) : Prop :=
  ∀ ra rb disp s pa,
    let r := loadRef op n ra rb disp s
    let a := s.onBus pa
    (n ≤ 2 → s.byteWordEnabled = true) → s.reaches r pa →
      exec (c ra rb disp) s = .next (((s.loaded r a).writeReg ra (BitVec.ofInt 64 (ext (s.loadedNumber r a)))).advance)

/-- A locked load: in addition, when it is read, the lock flag is set and the physical address kept (20_memory.md R351); at
once, but not while MAF_MODE<MAF_ARB_DISABLE> keeps it from the CBU (12_state_mtu_iprs.md R207). -/
def lockedLoadWrites (c : Reg → Reg → BitVec 16 → Instr) (op : BitVec 6) (n : Nat) (ext : Nat → Int) : Prop :=
  ∀ ra rb disp s pa,
    let r := { loadRef op n ra rb disp s with lock := true }
    let a := s.onBus pa
    s.reaches r pa →
      let t := if s.mtu.mafMode.getLsbD 5 = true then s.loaded r a else { s.loaded r a with lockFlag := true, lockPa := pa }
      exec (c ra rb disp) s = .next ((t.writeReg ra (BitVec.ofInt 64 (ext (s.loadedNumber r a)))).advance)

/-- A floating-point load: F[Fa] receives the register format of the number read. -/
def floatLoadWrites (c : Reg → Reg → BitVec 16 → Instr) (op : BitVec 6) (n : Nat) (format : Nat → Quad) : Prop :=
  ∀ fa rb disp s pa,
    let r := loadRef op n fa rb disp s
    let a := s.onBus pa
    s.fpEnabled = true → s.reaches r pa →
      exec (c fa rb disp) s = .next (((s.loaded r a).writeFreg fa (format (s.loadedNumber r a))).advance)

/-- A store of n bytes at the address its reference translates to: those bytes change, and nothing else; the write buffer holds
an entry for their block that writes them (20_memory.md R336). -/
def storeWrites (i : Instr) (s : State) (r : DRef) (pa : PAddr) (v : Quad) : Prop :=
  let a := (s.onBus pa).toNat
  s.reaches r pa → ∃ t, exec i s = .next t ∧ onlyMemory s t ∧ storedAt s.mem t.mem a r.size v ∧
    ∃ e ∈ t.memsys.wb, e.block.toNat = a / 32 * 32 ∧ ∀ k < r.size, e.bytes.getLsbD (a % 32 + k) = true

/-- A conditional store: done or not, R[Ra] says which and the lock flag is clear (20_memory.md R354, 40_load_store.md
R525). In cacheable space it is done if the lock flag is set and, while system_lock_flag_h is not asserted, no block has to
come from outside, neither for the entries of the write buffer before it nor for itself (R352 c); in noncacheable space the
system's answer is free. In a force hit mode there is none to cacheable space (13_state_cbu_iprs.md R242), and with
MAF_MODE<MAF_ARB_DISABLE> it waits (12_state_mtu_iprs.md R207). -/
def conditionalWrites (i : Instr) (s : State) (r : DRef) (pa : PAddr) : Prop :=
  let kept := s.drained.memsys.caches.fills == s.memsys.caches.fills && s.drained.inScache pa
  let done := if pa.toNat < 2 ^ 39 then s.lockFlag && (s.pins.systemLock || kept) else s.drawChoice
  s.translate r = .ok pa → s.model.cbuStore = false → s.model.owed.storesHeld = false → inCbu pa = false →
    (pa.toNat < 2 ^ 39 → s.cacheCfg.scForced = false ∧ s.cacheCfg.bcForced = false) →
    (s.mtu.mafMode.getLsbD 5 = true → exec i s = .next s) ∧
    (s.mtu.mafMode.getLsbD 5 = false → ∃ t, exec i s = .next t ∧ t.pc = s.pc + 4 ∧ t.lockFlag = false ∧ t.memsys.wb = [] ∧
      { t with pc := s.pc, mem := s.mem, lockFlag := s.lockFlag, memsys := s.memsys, model := s.model } =
        s.writeReg r.ra (if done = true then 1 else 0) ∧
      (done = true → storedAt s.mem t.mem (s.onBus pa).toNat r.size (s.readReg r.ra)) ∧
      (done = false → ∀ x, Memory.byte t.mem x = Memory.byte s.mem x))

/-- The state in which a failing data reference has been recorded: VA and MM_STAT, unless they are locked
(12_state_mtu_iprs.md R190, R191). MM_STAT is OPCODE<16:11>, RA<10:06>, BAD_VA, DTB_MISS, FOW, FOR, ACV, WR. -/
def recorded (r : DRef) (low : Nat) (s : State) : State :=
  if s.mtu.mmLock = true then s
  else
    { s with mtu := { s.mtu with
      va := r.va
      mmStat := BitVec.ofNat 17 (r.opcode.toNat * 2 ^ 11 + r.ra.toNat * 2 ^ 6 + low)
      mmLock := true } }

/-- A data reference that fails translation makes its instruction take one of four entries (60_exceptions.md R960), with the
reference recorded. -/
def referenceTraps (i : Instr) (s : State) (r : DRef) : Prop :=
  ∀ e c, s.translate r = .trap e c → ∃ offset,
    (e, offset) ∈ [(Entry.dtbmissSingle, 0x200), (Entry.dtbmissDouble, 0x280), (Entry.unalign, 0x300), (Entry.dfault, 0x380)] ∧
    (s.arithPending = false → exec i s = .next
      (enteredAt e offset (recorded r
        (c.badVa.toNat * 32 + c.dtbMiss.toNat * 16 + c.fow.toNat * 8 + c.for_.toNat * 4 + c.acv.toNat * 2 + c.wr.toNat) s))) ∧
      (s.arithPending = true → exec i s = .next (enteredAt .arith 0x500 { s with arithPending := false }))

/-- The hit test on an entry of a translation buffer (20_memory.md R312): valid, the page number of the address above the low
bits that the granularity hint leaves out, and ASM or the current address space number. -/
def entryMaps (valid : Bool) (tag : BitVec 30) (gh : BitVec 2) (asm : Bool) (asn current : BitVec 7) (va : Quad) : Prop :=
  valid = true ∧ tag.toNat / 8 ^ gh.toNat = va.toNat / 2 ^ 13 % 2 ^ 30 / 8 ^ gh.toNat ∧ (asm = true ∨ asn = current)

def State.dtbMaps (s : State) (va : Quad) (e : DtbEntry) : Prop :=
  entryMaps e.valid e.tag e.pte.gh e.pte.asm e.asn s.mtu.dtbAsn va

def State.itbMaps (s : State) (va : Quad) (e : ItbEntry) : Prop :=
  entryMaps e.valid e.tag e.pte.gh e.pte.asm e.asn s.idu.itbAsn va

/-- A data reference lies in an enabled superpage (R320, R321). -/
def State.inDataSuperpage (s : State) (r : DRef) : Prop :=
  s.dataMode r = 0 ∧ (s.mtu.mcsr.getLsbD 2 = true ∧ r.va.toNat / 2 ^ 41 % 4 = 2 ∨
    s.mtu.mcsr.getLsbD 1 = true ∧ r.va.toNat / 2 ^ 30 % 2 ^ 13 = 0x1FFE)

/-- A fetch address lies in an enabled superpage. -/
def State.inFetchSuperpage (s : State) (va : Quad) : Prop :=
  s.idu.icm = 0 ∧ (s.idu.icsr.getLsbD 29 = true ∧ va.toNat / 2 ^ 41 % 4 = 2 ∨
    s.idu.icsr.getLsbD 28 = true ∧ va.toNat / 2 ^ 30 % 2 ^ 13 = 0x1FFE)

/-- The address of a page table entry as VA_FORM and IFAULT_VA_FORM have it, in the layout for superpage 0 or the other one
(11_state_idu_iprs.md R128; 12_state_mtu_iprs.md R192). -/
def vaFormNumber (base : BitVec 34) (nt : Bool) (va : Quad) : Quad :=
  BitVec.ofNat 64
    (if nt = true then base.toNat * 2 ^ 30 + va.toNat / 2 ^ 13 % 2 ^ 19 * 8
     else base.toNat / 8 * 2 ^ 33 + va.toNat / 2 ^ 13 % 2 ^ 30 * 8)

/-- A conditional branch on a register image (41_control.md R560, R566). -/
def branchesWhen (c : Reg → BitVec 21 → Instr) (p : Int → Prop) [DecidablePred p] : Prop :=
  ∀ ra disp s, exec (c ra disp) s = .next
    (if p (s.readReg ra).toInt then { s with pc := BitVec.ofInt 64 (s.pc.toInt + 4 + 4 * disp.toInt) } else s.advance)

/-- A floating-point conditional branch: as an integer one, on F[Fa] with floating point enabled. A register is negative by
its bit 63 and zero when bits <62:0> are zero (R570). -/
def floatBranchesWhen (c : Reg → BitVec 21 → Instr) (p : Bool → Bool → Bool) : Prop :=
  ∀ fa disp s, s.fpEnabled = true → exec (c fa disp) s = .next
    (if p (decide ((s.readFreg fa).toInt < 0)) (decide ((s.readFreg fa).toNat % 2 ^ 63 = 0)) = true then
      { s with pc := BitVec.ofInt 64 (s.pc.toInt + 4 + 4 * disp.toInt) }
     else s.advance)

/-- An instruction that writes F[Fc], with floating point enabled, and nothing else but the pc. -/
def floatWrites (i : Instr) (fc : Reg) (v : State → Quad) : Prop :=
  ∀ s, s.fpEnabled = true → exec i s = .next ((s.writeFreg fc (v s)).advance)

end Sys2Proof.Machine

namespace Sys2Proof

/-- The opcode of an instruction's word (30_encoding.md R452). -/
def Instr.opcode (i : Instr) : Nat := (encode i).toNat / 2 ^ 26

/-- The function code of a floating-point operate instruction's word (R456). -/
def Instr.function (i : Instr) : Nat := (encode i).toNat / 2 ^ 5 % 2 ^ 11

end Sys2Proof

open Sys2Proof Sys2Proof.Machine

/-! ## Encoding -/

/-- Decode and encode agree: decoding what the encoder writes gives the instruction back, for every instruction with every
value of every field, and a word never decodes to an instruction of another opcode (30_encoding.md R461 to R473, R481 to
R484). -/
def Obligations.DecodeOfEncodeIsIdentity : Prop :=
  (∀ i : Instr, decode (encode i) = .instr i) ∧
    ∀ (w : Long) (i : Instr), decode w = .instr i → i.opcode = w.toNat / 2 ^ 26

/-- A reserved opcode names no instruction: executing its word raises OPCDEC, offset 480 hex, in every mode, with nothing
changed but by the entry (30_encoding.md R476). That an owed ARITH entry comes first (60_exceptions.md R971 c) is the spec's
decision D25 (log entry 22). -/
def Obligations.ReservedEncodingsAreRefused : Prop :=
  ∀ (w : Long) (s : State), w.toNat / 2 ^ 26 ∈ [1, 2, 3, 4, 5, 6, 7, 0x14] →
    decode w = .rejected (.reservedOpcode (opcodeOf w)) ∧ wordRaises w s .opcdec 0x480

/-- Worked words of the spec decode to the instructions they stand for, one for each format and family. -/
def Obligations.WorkedWordsDecode : Prop :=
  decode 0x40220003 = .instr (.addl 1 (.reg 2) 3) ∧ decode 0x4020B403 = .instr (.addq 1 (.lit 5) 3) ∧
    decode 0x482200C3 = .instr (.extbl 1 (.reg 2) 3) ∧ decode 0x4C220603 = .instr (.umulh 1 (.reg 2) 3) ∧
    decode 0x73E20003 = .instr (.sextb (.reg 2) 3) ∧ decode 0x203FFFFF = .instr (.lda 1 31 0xFFFF) ∧
    decode 0xA4220008 = .instr (.ldq 1 2 8) ∧ decode 0xB8220000 = .instr (.stl_c 1 2 0) ∧
    decode 0xC0200003 = .instr (.br 1 3) ∧ decode 0x63FF4000 = .instr .mb ∧
    decode 0x6020C000 = .instr (.rpcc 1) ∧ decode 0x00000080 = .instr (.call_pal 0x80) ∧
    decode 0x7BFFC000 = .instr (.hw_rei_stall 0)

/-! ## The step and reset -/

namespace Sys2Proof.Machine

/-- `f` is `s` after the fetch of an instruction from memory: only the caches, the Istream's requests, a lock lost to a fill,
SC_STAT in Scache force hit mode (13_state_cbu_iprs.md R246) and the model's own fields may differ. -/
def fetched (s f : State) : Prop :=
  { f with cbu := s.cbu, memsys := s.memsys, lockFlag := s.lockFlag, model := s.model } = s ∧ keepsLock s f ∧
    { f.cbu with scStat := s.cbu.scStat } = s.cbu ∧ (s.cbu.scCtl.getLsbD 0 = false → f.cbu = s.cbu) ∧
    { f.memsys with caches := s.memsys.caches, imaf := s.memsys.imaf } = s.memsys ∧
    f.model.hazards = s.model.hazards ∧ f.model.owed = s.model.owed ∧ f.model.lastEntry = none

/-- `t` is `f` with the loads returned whose registers a word uses, and the others of their blocks (70_reset_and_hazards.md
R1137); loads of other blocks stay. -/
def loadsReturned (f : State) (w : Long) (t : State) : Prop :=
  { t with memsys := f.memsys, lockFlag := f.lockFlag } = f ∧ keepsLock f t ∧
    ∀ e ∈ f.memsys.maf, (∀ x ∈ f.memsys.maf, x.block = e.block → f.uses w x = false) →
      ∃ x ∈ t.memsys.maf, x.slot = e.slot ∧ x.addr = e.addr

end Sys2Proof.Machine

/-- A step runs the decoded instruction. With no event, no machine check and no ARITH entry to come, the fetch translated
(native mode, no change of the ITB under way, no interrupt deliverable) or physical (PALmode), and memory and the Icache
agreeing on the word: after the fetch and the return of the loads that the word needs, `step` is `exec` of the decoded
instruction, followed by the bookkeeping of the model's own fields and, at an entry, the return of the loads that it waits for.
What the caches have met in reading the block comes first, as the next step. A word that a restriction of Table 5-37 forbids
stops (log entry 23), and so does reading a cacheable block between a store to a CBU control register and its MB (log entry 25).
With MAF_MODE<MAF_ARB_DISABLE> a word, an access or an entry that needs an outstanding load, or room, leaves pc and word where
they are. -/
def Obligations.StepRunsTheDecodedInstruction : Prop :=
  ∀ (s : State) (pa : PAddr) (i : Instr),
    s.memsys.caches.posted = [] → s.model.inbox = [] → s.machineChecks = [] → s.arithPending = false →
    (s.palmode = true ∧ pa = palFetchPa s.pc ∨
      s.palmode = false ∧ s.model.former = [] ∧ s.translateFetch (s.pc &&& ~~~3) = .ok pa ∧
        s.interruptDeliverable = false) →
    inCbu pa = false →
    let a := (s.onBus pa).toNat
    let w := Memory.long s.mem a
    s.sromHits = [] → (∀ v ∈ s.cached a, v = (w, 0)) →
    (∀ k < 4, s.memsys.covers (a + k) = false ∧ a + k ∉ s.memsys.caches.poisoned ∧
      a + k ∉ (s.begin.istreamRead (s.onBus pa)).memsys.caches.poisoned) →
    decode w = .instr i →
    ∃ (f : State) (missed : Bool), fetched s f ∧ (s.cached a = [] → missed = true) ∧
      (missed = false ∨ (s.begin.istreamRead (s.onBus pa)).memsys.caches.posted = [] → f.memsys.caches.posted = []) ∧
      let forbidden := missed = true ∧ s.model.cbuQuiet = true ∧ pa.toNat < 2 ^ 39
      (forbidden → step s = .refused .cbuOrder) ∧
      (¬forbidden → f.memsys.caches.posted ≠ [] → step s = .next f) ∧
      (¬forbidden → f.memsys.caches.posted = [] →
        let t := f.useRegisters w
        loadsReturned f w t ∧
        (f.blocked w = true → step s = .next f) ∧
        (f.blocked w = false → t.restricted a w = true → step s = .refused .palcodeRestriction) ∧
        (f.blocked w = false → t.restricted a w = false →
          step s = andThen
            (andThen (exec i t) fun u => if t.accessWaited w u = true then .next u else settle t a w u)
            (fun v => if s.entryHeld v = true then .next s.begin else .next v) ∧
          (s.mtu.mafMode.getLsbD 5 = false → step s = andThen (exec i t) (settle t a w)) ∧
          ∀ u v, exec i t = .next u → settle t a w u = .next v →
            { v with memsys := u.memsys, lockFlag := u.lockFlag, model := u.model } = u ∧ keepsLock u v ∧
              (u.model.lastEntry = none → v.memsys = u.memsys ∧ v.lockFlag = u.lockFlag)))

/-- After reset the machine is in PALmode with pc = 1 and fetches at physical address 0. -/
def Obligations.ResetStartsInPalmodeAtZero : Prop :=
  State.reset.pc = 0x0000000000000001 ∧ State.reset.palmode = true ∧ State.reset.idu.palBase = 0 ∧
    State.reset.fetchPa = 0

/-- The machine after reset is well formed. -/
def Obligations.ResetIsWellFormed : Prop := State.reset.ok = true

/-- Every step, an event from outside included, keeps the machine well formed: memory in its canonical form, the translation
buffers at their sizes with their pointers inside, pc<1> and EXC_ADDR<1> zero, ICSR and DC_TEST_CTL within the bits they have,
the write buffer within its six entries. That the bits which ICSR and DC_TEST_CTL do not have read as zero is the spec's
decision D4 (11_state_idu_iprs.md R140, 12_state_mtu_iprs.md R220; log entry 31). -/
def Obligations.StepKeepsTheMachineWellFormed : Prop := keptByStep State.ok

/-! ## Integer arithmetic -/

/-- The adds and subtracts, plain and scaled by four or eight: the sum or difference, of the low longwords sign-extended or of
the quadwords, and no exception (42_integer_arith.md R604 to R619; log entry 4). -/
def Obligations.AddAndSubtractResults : Prop :=
  operateWrites .addl (fun a b => wrapped 32 (a.toInt + b.toInt)) ∧
    operateWrites .addq (fun a b => wrapped 64 (a.toInt + b.toInt)) ∧
    operateWrites .subl (fun a b => wrapped 32 (a.toInt - b.toInt)) ∧
    operateWrites .subq (fun a b => wrapped 64 (a.toInt - b.toInt)) ∧
    operateWrites .s4addl (fun a b => wrapped 32 (4 * a.toInt + b.toInt)) ∧
    operateWrites .s8addl (fun a b => wrapped 32 (8 * a.toInt + b.toInt)) ∧
    operateWrites .s4addq (fun a b => wrapped 64 (4 * a.toInt + b.toInt)) ∧
    operateWrites .s8addq (fun a b => wrapped 64 (8 * a.toInt + b.toInt)) ∧
    operateWrites .s4subl (fun a b => wrapped 32 (4 * a.toInt - b.toInt)) ∧
    operateWrites .s8subl (fun a b => wrapped 32 (8 * a.toInt - b.toInt)) ∧
    operateWrites .s4subq (fun a b => wrapped 64 (4 * a.toInt - b.toInt)) ∧
    operateWrites .s8subq (fun a b => wrapped 64 (8 * a.toInt - b.toInt))

/-- The compares write 1 or 0, signed or unsigned, over all 64 bits (R620 to R624; log entry 4). -/
def Obligations.CompareResults : Prop :=
  operateWrites .cmpeq (fun a b => if a = b then 1 else 0) ∧
    operateWrites .cmplt (fun a b => if a.toInt < b.toInt then 1 else 0) ∧
    operateWrites .cmple (fun a b => if a.toInt ≤ b.toInt then 1 else 0) ∧
    operateWrites .cmpult (fun a b => if a.toNat < b.toNat then 1 else 0) ∧
    operateWrites .cmpule (fun a b => if a.toNat ≤ b.toNat then 1 else 0)

/-- MULL, MULQ: the low half of the product; UMULH: the high half of the unsigned product (R630, R632, R634; log entry
4). -/
def Obligations.MultiplyResults : Prop :=
  operateWrites .mull (fun a b => wrapped 32 (a.toInt * b.toInt)) ∧
    operateWrites .mulq (fun a b => wrapped 64 (a.toInt * b.toInt)) ∧
    operateWrites .umulh (fun a b => BitVec.ofNat 64 (a.toNat * b.toNat / 2 ^ 64))

/-- The six /V instructions write the truncated result, and trap exactly when the exact one does not fit (R602; log
entry 4 for the results). That an integer overflow leaves EXC_SUM<SWC> and its latch as they are is the spec's decision D7 (log
entry 33), and that it traps with Rc = 31 too is D20 (R600; log entry 36). -/
def Obligations.IntegerOverflowTraps : Prop :=
  operateTraps .addl_v 32 (· + ·) ∧ operateTraps .addq_v 64 (· + ·) ∧ operateTraps .subl_v 32 (· - ·) ∧
    operateTraps .subq_v 64 (· - ·) ∧ operateTraps .mull_v 32 (· * ·) ∧ operateTraps .mulq_v 64 (· * ·)

/-! ## Logical, shift and byte instructions -/

/-- The logical instructions, bit by bit, and the shifts, as multiplication and division by a power of two with the count
b<5:0> (43_logical_shift_byte.md sections 2 and 4; log entry 4). -/
def Obligations.LogicalAndShiftResults : Prop :=
  operateWrites .and (fun a b => BitVec.ofFnLE fun i => a.getLsbD i && b.getLsbD i) ∧
    operateWrites .bic (fun a b => BitVec.ofFnLE fun i => a.getLsbD i && !b.getLsbD i) ∧
    operateWrites .bis (fun a b => BitVec.ofFnLE fun i => a.getLsbD i || b.getLsbD i) ∧
    operateWrites .ornot (fun a b => BitVec.ofFnLE fun i => a.getLsbD i || !b.getLsbD i) ∧
    operateWrites .xor (fun a b => BitVec.ofFnLE fun i => a.getLsbD i != b.getLsbD i) ∧
    operateWrites .eqv (fun a b => BitVec.ofFnLE fun i => a.getLsbD i == b.getLsbD i) ∧
    operateWrites .sll (fun a b => BitVec.ofNat 64 (a.toNat * 2 ^ (b.toNat % 64))) ∧
    operateWrites .srl (fun a b => BitVec.ofNat 64 (a.toNat / 2 ^ (b.toNat % 64))) ∧
    operateWrites .sra (fun a b => BitVec.ofInt 64 (a.toInt / 2 ^ (b.toNat % 64)))

/-- The conditional moves, by the sign and the low bit of R[Ra] (R660 to R668; log entry 4). -/
def Obligations.ConditionalMoves : Prop :=
  movesWhen .cmoveq (fun a => a = 0) ∧ movesWhen .cmovne (fun a => a ≠ 0) ∧ movesWhen .cmovlt (fun a => a.toInt < 0) ∧
    movesWhen .cmovle (fun a => a.toInt ≤ 0) ∧ movesWhen .cmovgt (fun a => 0 < a.toInt) ∧
    movesWhen .cmovge (fun a => 0 ≤ a.toInt) ∧ movesWhen .cmovlbs (fun a => a.toNat % 2 = 1) ∧
    movesWhen .cmovlbc (fun a => a.toNat % 2 = 0)

/-- The extracts, inserts and masks, as numbers: the datum shifted down or up and cut to its size; the two quadwords of the
datum at its offset; the bytes of the datum removed from the low or the high quadword (R680, R690 and sections 7 to 9; log
entry 4). -/
def Obligations.ByteManipulationResults : Prop :=
  byteFormWrites .extbl (fun a k => a / 2 ^ (8 * k) % 2 ^ 8) ∧
    byteFormWrites .extwl (fun a k => a / 2 ^ (8 * k) % 2 ^ 16) ∧
    byteFormWrites .extll (fun a k => a / 2 ^ (8 * k) % 2 ^ 32) ∧
    byteFormWrites .extql (fun a k => a / 2 ^ (8 * k)) ∧
    byteFormWrites .extwh (fun a k => a * 2 ^ ((64 - 8 * k) % 64) % 2 ^ 16) ∧
    byteFormWrites .extlh (fun a k => a * 2 ^ ((64 - 8 * k) % 64) % 2 ^ 32) ∧
    byteFormWrites .extqh (fun a k => a * 2 ^ ((64 - 8 * k) % 64)) ∧
    byteFormWrites .insbl (fun a k => a % 2 ^ 8 * 2 ^ (8 * k)) ∧
    byteFormWrites .inswl (fun a k => a % 2 ^ 16 * 2 ^ (8 * k) % 2 ^ 64) ∧
    byteFormWrites .insll (fun a k => a % 2 ^ 32 * 2 ^ (8 * k) % 2 ^ 64) ∧
    byteFormWrites .insql (fun a k => a * 2 ^ (8 * k) % 2 ^ 64) ∧
    byteFormWrites .inswh (fun a k => a % 2 ^ 16 * 2 ^ (8 * k) / 2 ^ 64) ∧
    byteFormWrites .inslh (fun a k => a % 2 ^ 32 * 2 ^ (8 * k) / 2 ^ 64) ∧
    byteFormWrites .insqh (fun a k => a * 2 ^ (8 * k) / 2 ^ 64) ∧
    byteFormWrites .mskbl (fun a k => a % 2 ^ (8 * k) + a / 2 ^ (8 * (k + 1)) * 2 ^ (8 * (k + 1))) ∧
    byteFormWrites .mskwl (fun a k => a % 2 ^ (8 * k) + a / 2 ^ (8 * (k + 2)) * 2 ^ (8 * (k + 2))) ∧
    byteFormWrites .mskll (fun a k => a % 2 ^ (8 * k) + a / 2 ^ (8 * (k + 4)) * 2 ^ (8 * (k + 4))) ∧
    byteFormWrites .mskql (fun a k => a % 2 ^ (8 * k)) ∧
    byteFormWrites .mskwh (fun a k => a / 2 ^ (8 * (k + 2 - 8)) * 2 ^ (8 * (k + 2 - 8))) ∧
    byteFormWrites .msklh (fun a k => a / 2 ^ (8 * (k + 4 - 8)) * 2 ^ (8 * (k + 4 - 8))) ∧
    byteFormWrites .mskqh (fun a k => a / 2 ^ (8 * k) * 2 ^ (8 * k))

/-- CMPBGE, ZAP and ZAPNOT, byte by byte (R681 to R683; log entry 4). -/
def Obligations.ByteCompareAndZap : Prop :=
  (∀ ra b rc s, ∃ v : Quad, exec (.cmpbge ra b rc) s = .next ((s.writeReg rc v).advance) ∧
    v.toNat < 256 ∧
    ∀ j < 8, (v.getLsbD j = true ↔ (byteAt (s.operand b) j).toNat ≤ (byteAt (s.readReg ra) j).toNat)) ∧
  (∀ ra b rc s, ∃ v : Quad, exec (.zap ra b rc) s = .next ((s.writeReg rc v).advance) ∧
    ∀ j < 8, byteAt v j = if (s.operand b).getLsbD j = true then 0 else byteAt (s.readReg ra) j) ∧
  (∀ ra b rc s, ∃ v : Quad, exec (.zapnot ra b rc) s = .next ((s.writeReg rc v).advance) ∧
    ∀ j < 8, byteAt v j = if (s.operand b).getLsbD j = true then byteAt (s.readReg ra) j else 0)

/-- SEXTB and SEXTW with the byte/word extension enabled; AMASK clears the bits of the implemented features and IMPLVER writes
a constant, both values being parameters (R714, R715; log entries 4 and 10). -/
def Obligations.SignExtensionAndQueries : Prop :=
  ∀ (b : Operand) (rc : Reg) (s : State),
    (s.byteWordEnabled = true →
      exec (.sextb b rc) s = .next ((s.writeReg rc (wrapped 8 (s.operand b).toInt)).advance) ∧
      exec (.sextw b rc) s = .next ((s.writeReg rc (wrapped 16 (s.operand b).toInt)).advance)) ∧
    (∃ v, exec (.amask b rc) s = .next ((s.writeReg rc v).advance) ∧
      ∀ j < 64, v.getLsbD j = ((s.operand b).getLsbD j && !Config.amaskFeatures.getLsbD j)) ∧
    exec (.implver rc) s = .next ((s.writeReg rc Config.implverValue).advance)

/-! ## Loads and stores -/

/-- LDA and LDAH: the address sum, modulo 2^64 (40_load_store.md R505, R506; log entry 4). -/
def Obligations.LoadAddressResults : Prop :=
  ∀ (ra rb : Reg) (disp : BitVec 16) (s : State),
    exec (.lda ra rb disp) s =
        .next ((s.writeReg ra (BitVec.ofInt 64 ((s.readReg rb).toInt + disp.toInt))).advance) ∧
      exec (.ldah ra rb disp) s =
        .next ((s.writeReg ra (BitVec.ofInt 64 ((s.readReg rb).toInt + 65536 * disp.toInt))).advance)

/-- The integer loads: zero-extended byte and word, sign-extended longword, quadword; LDQ_U at the address with its low three
bits cleared, and no operation at all with Ra = 31; the locked loads, which set the lock. A load changes the memory system
behind the instructions and nothing else, but for SC_STAT in Scache force hit mode. A byte the spec leaves open is free (log
entry 14), which none is with the test modes and the Bcache off, the Dcache initialized, and nothing lost to an error or still
to be taken up. I/O space reads as memory does, with addresses that differ in <38:37> one location under ICSR<BSE> (log entry
15, the model's choice). Destination 31 discards the data (the spec's decision D19, log entry 36). A locked load sets the lock
after what its own fill does to it, so that it keeps the lock though that fill came with system_lock_flag_h low (log entry 38,
the model's choice). The operations are log entry 4. -/
def Obligations.IntegerLoadResults : Prop :=
  loadWrites .ldbu 0x0A 1 (fun m => m) ∧ loadWrites .ldwu 0x0C 2 (fun m => m) ∧
    loadWrites .ldl 0x28 4 (fun m => Int.bmod m (2 ^ 32)) ∧ loadWrites .ldq 0x29 8 (fun m => m) ∧
    (∀ ra rb disp s pa,
      let r := { loadRef 0x0B 8 ra rb disp s with masked := true }
      let a := s.onBus pa
      ra ≠ 31 → s.reaches r pa →
        exec (.ldq_u ra rb disp) s =
          .next (((s.loaded r a).writeReg ra (BitVec.ofNat 64 (s.loadedNumber r a))).advance)) ∧
    (∀ rb disp s, exec (.ldq_u 31 rb disp) s = .next s.advance) ∧
    lockedLoadWrites .ldl_l 0x2A 4 (fun m => Int.bmod m (2 ^ 32)) ∧ lockedLoadWrites .ldq_l 0x2B 8 (fun m => m) ∧
    (∀ (r : DRef) (a : PAddr) (s : State),
      let t := s.loaded r a
      { t with cbu := s.cbu, memsys := s.memsys, lockFlag := s.lockFlag, model := s.model } = s ∧ keepsLock s t ∧
        { t.cbu with scStat := s.cbu.scStat } = s.cbu ∧ t.cbu.scStat &&& 0x1F807 = s.cbu.scStat &&& 0x1F807 ∧
        (s.cbu.scCtl.getLsbD 0 = false → t.cbu = s.cbu)) ∧
    (∀ (r : DRef) (a : PAddr) (s : State),
      s.memsys.caches.posted = [] → s.mtu.dcMode.getLsbD 1 = false → s.cbu.scCtl.getLsbD 0 = false → s.cbu.bcOn = false →
      s.memsys.caches.dcacheFlushed = true → (∀ l ∈ s.memsys.caches.dcache, l.stale = false) →
      s.memsys.caches.poisoned = [] → s.loadedNumber r a = littleEndian s.mem a.toNat r.size)

/-- The floating-point loads (40_load_store.md section 5; log entries 4 and 14). I/O space reads as memory does (log entry 15,
the model's choice); destination F31 discards the data (the spec's decision D19, log entry 36). -/
def Obligations.FloatingLoadResults : Prop :=
  floatLoadWrites .ldf 0x20 4 (fun m => loadF (BitVec.ofNat 32 m)) ∧
    floatLoadWrites .ldg 0x21 8 (fun m => swapG (BitVec.ofNat 64 m)) ∧
    floatLoadWrites .lds 0x22 4 (fun m => loadS (BitVec.ofNat 32 m)) ∧
    floatLoadWrites .ldt 0x23 8 (fun m => BitVec.ofNat 64 m)

/-- Every floating datum in memory survives a load and a store of its format; S and F data of memory become T and G register
images of the same value: the exponent changes its excess, the fraction is padded with zeros (log entry 4). -/
def Obligations.FloatingMemoryFormats : Prop :=
  (∀ m : Long, storeS (loadS m) = m) ∧ (∀ m : Long, storeF (loadF m) = m) ∧ (∀ m : Quad, swapG (swapG m) = m) ∧
    (∀ m : Long, let e := m.toNat / 2 ^ 23 % 2 ^ 8
      e ≠ 0 → e ≠ 255 →
        (loadS m).toNat = m.toNat / 2 ^ 31 * 2 ^ 63 + (e + 896) * 2 ^ 52 + m.toNat % 2 ^ 23 * 2 ^ 29) ∧
    (∀ m : Long, let e := m.toNat / 2 ^ 7 % 2 ^ 8
      e ≠ 0 →
        (loadF m).toNat = m.toNat / 2 ^ 15 % 2 * 2 ^ 63 + (e + 896) * 2 ^ 52 +
          (m.toNat % 2 ^ 7 * 2 ^ 16 + m.toNat / 2 ^ 16) * 2 ^ 29)

/-- The stores change the bytes they name, at the address their reference translates to, and nothing else
(40_load_store.md R502; log entry 4). That I/O space reads back what was stored is the model's choice (log entry 15). -/
def Obligations.StoresWriteTheirBytes : Prop :=
  ∀ (ra rb : Reg) (disp : BitVec 16) (s : State) (pa : PAddr),
    (s.byteWordEnabled = true →
      storeWrites (.stb ra rb disp) s (storeRef 0x0E 1 ra rb disp s) pa (s.readReg ra) ∧
      storeWrites (.stw ra rb disp) s (storeRef 0x0D 2 ra rb disp s) pa (s.readReg ra)) ∧
    storeWrites (.stl ra rb disp) s (storeRef 0x2C 4 ra rb disp s) pa (s.readReg ra) ∧
    storeWrites (.stq ra rb disp) s (storeRef 0x2D 8 ra rb disp s) pa (s.readReg ra) ∧
    storeWrites (.stq_u ra rb disp) s
      { storeRef 0x0F 8 ra rb disp s with masked := true } pa (s.readReg ra) ∧
    (s.fpEnabled = true →
      storeWrites (.stf ra rb disp) s (storeRef 0x24 4 ra rb disp s) pa ((storeF (s.readFreg ra)).setWidth 64) ∧
      storeWrites (.stg ra rb disp) s (storeRef 0x25 8 ra rb disp s) pa (swapG (s.readFreg ra)) ∧
      storeWrites (.sts ra rb disp) s (storeRef 0x26 4 ra rb disp s) pa ((storeS (s.readFreg ra)).setWidth 64) ∧
      storeWrites (.stt ra rb disp) s (storeRef 0x27 8 ra rb disp s) pa (s.readFreg ra))

/-- The conditional stores. The system's free answer in noncacheable space is log entry 15. -/
def Obligations.ConditionalStoreResults : Prop :=
  ∀ (ra rb : Reg) (disp : BitVec 16) (s : State) (pa : PAddr),
    conditionalWrites (.stl_c ra rb disp) s (storeRef 0x2E 4 ra rb disp s) pa ∧
      conditionalWrites (.stq_c ra rb disp) s (storeRef 0x2F 8 ra rb disp s) pa

/-- A load or store whose reference fails translation writes nothing, takes the entry, DTBMISS_SINGLE at 200, DTBMISS_DOUBLE at
280, UNALIGN at 300 or DFAULT at 380 hex, and VA and MM_STAT receive the reference; HW_LD and HW_ST with a virtual reference too
(40_load_store.md R503, whose address is log entry 4). That an owed ARITH entry takes the place (60_exceptions.md R971 c) is the
spec's decision D25, log entry 22. That VA receives the address of LDQ_U and STQ_U before its low bits are cleared is log entry
36 (60_exceptions.md R965 over 40_load_store.md R514, the model's choice). -/
def Obligations.FailingReferencesTrap : Prop :=
  (∀ (ra rb : Reg) (disp : BitVec 16) (s : State),
    (s.byteWordEnabled = true →
      referenceTraps (.ldbu ra rb disp) s (loadRef 0x0A 1 ra rb disp s) ∧
      referenceTraps (.ldwu ra rb disp) s (loadRef 0x0C 2 ra rb disp s) ∧
      referenceTraps (.stb ra rb disp) s (storeRef 0x0E 1 ra rb disp s) ∧
      referenceTraps (.stw ra rb disp) s (storeRef 0x0D 2 ra rb disp s)) ∧
    referenceTraps (.ldl ra rb disp) s (loadRef 0x28 4 ra rb disp s) ∧
    referenceTraps (.ldq ra rb disp) s (loadRef 0x29 8 ra rb disp s) ∧
    (ra ≠ 31 → referenceTraps (.ldq_u ra rb disp) s { loadRef 0x0B 8 ra rb disp s with masked := true }) ∧
    referenceTraps (.ldl_l ra rb disp) s { loadRef 0x2A 4 ra rb disp s with lock := true } ∧
    referenceTraps (.ldq_l ra rb disp) s { loadRef 0x2B 8 ra rb disp s with lock := true } ∧
    referenceTraps (.stl ra rb disp) s (storeRef 0x2C 4 ra rb disp s) ∧
    referenceTraps (.stq ra rb disp) s (storeRef 0x2D 8 ra rb disp s) ∧
    referenceTraps (.stq_u ra rb disp) s { storeRef 0x0F 8 ra rb disp s with masked := true } ∧
    referenceTraps (.stl_c ra rb disp) s (storeRef 0x2E 4 ra rb disp s) ∧
    referenceTraps (.stq_c ra rb disp) s (storeRef 0x2F 8 ra rb disp s) ∧
    (s.fpEnabled = true →
      referenceTraps (.ldf ra rb disp) s (loadRef 0x20 4 ra rb disp s) ∧
      referenceTraps (.ldg ra rb disp) s (loadRef 0x21 8 ra rb disp s) ∧
      referenceTraps (.lds ra rb disp) s (loadRef 0x22 4 ra rb disp s) ∧
      referenceTraps (.ldt ra rb disp) s (loadRef 0x23 8 ra rb disp s) ∧
      referenceTraps (.stf ra rb disp) s (storeRef 0x24 4 ra rb disp s) ∧
      referenceTraps (.stg ra rb disp) s (storeRef 0x25 8 ra rb disp s) ∧
      referenceTraps (.sts ra rb disp) s (storeRef 0x26 4 ra rb disp s) ∧
      referenceTraps (.stt ra rb disp) s (storeRef 0x27 8 ra rb disp s))) ∧
  (∀ (ra rb : Reg) (alt wrtck quad vpte lock cond : Bool) (disp : BitVec 10) (s : State), s.palOpcodeAllowed = true →
    referenceTraps (.hw_ld ra rb false alt wrtck quad vpte lock disp) s
      { write := false, size := if quad = true then 8 else 4, alt := alt, wrtck := wrtck, vpte := vpte, hw := true,
        lock := lock, va := s.readReg rb + disp.signExtend 64, ra := ra, opcode := 0x1B } ∧
    referenceTraps (.hw_st ra rb false alt false quad false cond disp) s
      { write := true, size := if quad = true then 8 else 4, alt := alt, hw := true,
        va := s.readReg rb + disp.signExtend 64, ra := ra, opcode := 0x1F })

namespace Sys2Proof.Machine

/-- The offsets of the CBU registers in their region (13_state_cbu_iprs.md R240). -/
def cbuOffsets : List Nat := [0xA8, 0xE8, 0x188, 0x128, 0x1C8, 0x108, 0x168, 0x148, 0x68]

/-- A load goes to the CBU region: it translates to the address, need not wait for the miss address file, and is not forced to
hit the Dcache (12_state_mtu_iprs.md R205), or a fill makes it miss (71_timing.md R1170). -/
def State.loadsCbu (s : State) (r : DRef) (pa : PAddr) : Prop :=
  s.translate r = .ok pa ∧ s.loadHeld r pa = false ∧ (s.mtu.dcMode.getLsbD 1 = false ∨ s.model.missNext = true)

/-- A store goes to the CBU region: it translates to the address, and does not come between the clearing of a force hit bit and
its MBs (13_state_cbu_iprs.md R242). -/
def State.storesCbu (s : State) (r : DRef) (pa : PAddr) : Prop := s.translate r = .ok pa ∧ s.model.owed.storesHeld = false

/-- The load `i` reads the CBU registers by the reference `r`, and `write` puts what it reads in its register. SC_STAT and
EI_STAT are cleared and unlocked, EI_STAT but for a hard error beside a correctable one, of which only the latter is cleared;
with MAF_MODE<MAF_ARB_DISABLE> that waits, and so does the load. ALLOC_CYC, a write-only register and an address without a
register stop it. -/
def readsCbu (s : State) (i : Instr) (r : DRef) (write : State → Quad → State) : Prop :=
  let stopped := s.mtu.mafMode.getLsbD 5 = true
  let reads (pa : PAddr) (c : Cbu) (p : Quad → Prop) : Prop :=
    s.cbu.bcControl.getLsbD 1 = false → s.loadsCbu r pa → ∃ x t, p x ∧ keepsLock s t ∧
      { t with cbu := s.cbu, memsys := s.memsys, lockFlag := s.lockFlag, model := s.model } = s ∧
      t.cbu = (if stopped then s.cbu else c) ∧ (stopped → ∃ e, t.memsys.maf.getLast? = some e ∧ e.waits = true) ∧
      exec i s = .next ((write t x).advance)
  let hard := s.cbu.eiStat &&& 0x33 ≠ 0
  reads 0xFFFFF000A8 s.cbu (fun x => x = BitVec.ofNat 64 s.cbu.scCtl.toNat) ∧
  reads 0xFFFFF000E8 { s.cbu with scStat := 0, scLocked := false } (fun x => x = BitVec.ofNat 64 s.cbu.scStat.toNat) ∧
  reads 0xFFFFF00188 s.cbu (fun x => s.cbu.scLocked = true → x.toNat / 2 ^ 4 % 2 ^ 35 = s.cbu.scAddr.toNat / 2 ^ 4 % 2 ^ 35) ∧
  reads 0xFFFFF00148 s.cbu (fun x => x.toNat / 2 ^ 4 % 2 ^ 36 = s.cbu.eiAddr.toNat / 2 ^ 4) ∧
  reads 0xFFFFF00068 s.cbu (fun x => x.toNat % 2 ^ 16 = s.cbu.fillSyn.toNat) ∧
  reads 0xFFFFF00108 s.cbu (fun x => s.cbu.bcTagLocked = true → ∀ k, 12 ≤ k → k < 39 → k ≠ 18 → k ≠ 19 →
    x.getLsbD k = (s.cbu.bcTagAddr.getLsbD (k - 12) && decide (k < 20 ∨ 19 + s.cbu.bcConfig.toNat % 8 ≤ k))) ∧
  reads 0xFFFFF00168
    (if s.cbu.eiStat.getLsbD 3 = true ∧ hard then { s.cbu with eiStat := s.cbu.eiStat &&& 0xF7 }
     else { s.cbu with eiStat := 0, eiLocked := false, bcTagLocked := false })
    (fun x => x.toNat / 2 ^ 28 % 2 ^ 8 = s.cbu.eiStat.toNat ∧ x.toNat / 2 ^ 24 % 2 ^ 4 = 4) ∧
  ∀ pa : PAddr, 0xFFFFF00000 ≤ pa.toNat → s.loadsCbu r pa →
    let k := pa.toNat % 2 ^ 20
    (k ∉ cbuOffsets → exec i s = .fault .undefinedCbuAddress) ∧
    (k ∈ cbuOffsets → s.cbu.bcControl.getLsbD 1 = true → exec i s = .refused .cbuOrder) ∧
    (k ∈ [0x128, 0x1C8] → s.cbu.bcControl.getLsbD 1 = false → exec i s = .refused .cbuAccess)

/-- The store `i` of `v` writes the CBU registers by the reference `w`: right after an MB, with another MB owed, and, where it
changes more than ALLOC_CYC and PM_MUX_SEL, with no cacheable request of the Istream outstanding; with MAF_MODE<MAF_ARB_DISABLE>
the write waits. A read-only register, an address without a register, reserved bits and values, a missing MB and such a request
stop it. -/
def writesCbu (s : State) (i : Instr) (w : DRef) (v : Quad) : Prop :=
  let stopped := s.mtu.mafMode.getLsbD 5 = true
  let asked (changes : Prop) : Prop := (s.model.cbuQuiet = true ∨ changes) ∧ ∃ a ∈ s.memsys.imaf, a.toNat < 2 ^ 39
  let stores (pa : PAddr) (changes : Prop) (c : Cbu) (q : State → Prop) : Prop :=
    s.model.afterMb = true → ¬asked changes → s.storesCbu w pa → ∃ t, (stopped → t.model.cbuWaits.map (·.2) = some v) ∧ (¬stopped → q t) ∧
      { t with mem := s.mem, memsys := s.memsys, model := s.model } = { s with cbu := if stopped then s.cbu else c } ∧
      t.memsys.wb.length = s.memsys.wb.length ∧ t.memsys.maf = s.memsys.maf ∧ t.model.cbuStore = true ∧
      exec i s = .next t.advance
  let kept (t : State) : Prop := t.mem = s.mem ∧ t.memsys.wb = s.memsys.wb
  let setsOk := v.toNat / 2 ^ 13 % 8 ∈ [1, 2, 4] ∨ v.toNat / 2 ^ 13 % 8 = 7 ∧ v.getLsbD 0 = false
  let newConfig := BitVec.ofNat 29 v.toNat ≠ s.cbu.bcConfig
  let newControl := ∃ k < 36, k ≠ 1 ∧ ¬(19 ≤ k ∧ k ≤ 24) ∧ v.getLsbD k ≠ s.cbu.bcControl.getLsbD k
  let newCtl := BitVec.ofNat 19 v.toNat ≠ s.cbu.scCtl
  (v &&& 0x88008 = 0 → stores 0xFFFFF001C8 newConfig { s.cbu with bcConfig := BitVec.ofNat 29 v.toNat } kept) ∧
  (v &&& 0xA000000 = 0 → stores 0xFFFFF00128 newControl
    { s.cbu with
      bcControl := BitVec.ofNat 36 v.toNat
      bcTagLocked := s.cbu.bcTagLocked && !(v.getLsbD 7 && !s.cbu.bcControl.getLsbD 7) } kept) ∧
  (v &&& 0x70000 = 0 → setsOk → stores 0xFFFFF000A8 newCtl { s.cbu with scCtl := BitVec.ofNat 19 v.toNat } fun t =>
    (v.getLsbD 1 = false → kept t) ∧
      (v.getLsbD 1 = true → ∀ l ∈ t.memsys.caches.scache, l.sub0.valid = false ∧ l.sub1.valid = false)) ∧
  ∀ pa : PAddr, 0xFFFFF00000 ≤ pa.toNat → s.storesCbu w pa →
    let k := pa.toNat % 2 ^ 20
    (k ∉ cbuOffsets → exec i s = .fault .undefinedCbuAddress) ∧
    (k ∈ [0xE8, 0x188, 0x108, 0x168, 0x148, 0x68] → exec i s = .refused .cbuAccess) ∧
    (k = 0xA8 → v &&& 0x70000 ≠ 0 → exec i s = .refused .reservedBit) ∧
    (k = 0xA8 → v &&& 0x70000 = 0 → ¬setsOk → exec i s = .refused .scacheSets) ∧
    (k = 0x128 → v &&& 0xA000000 ≠ 0 → exec i s = .refused .reservedBit) ∧
    (k = 0x1C8 → v &&& 0x88008 ≠ 0 → exec i s = .refused .reservedBit) ∧
    (k = 0x1C8 → v &&& 0x88008 = 0 → s.model.afterMb = false ∨ asked newConfig → exec i s = .refused .cbuOrder) ∧
    (k = 0x128 → v &&& 0xA000000 = 0 → s.model.afterMb = false ∨ asked newControl → exec i s = .refused .cbuOrder) ∧
    (k = 0xA8 → v &&& 0x70000 = 0 → setsOk → s.model.afterMb = false ∨ asked newCtl → exec i s = .refused .cbuOrder)

/-- The load or store `i` reaches no CBU register by the reference `r`: it stops. -/
def reachesNoCbu (s : State) (i : Instr) (r : DRef) : Prop :=
  ∀ pa : PAddr, 0xFFFFF00000 ≤ pa.toNat → (if r.write = true then s.storesCbu r pa else s.loadsCbu r pa) →
    (pa.toNat % 2 ^ 20 ∉ cbuOffsets → exec i s = .fault .undefinedCbuAddress) ∧
    (pa.toNat % 2 ^ 20 ∈ cbuOffsets → exec i s = .refused .cbuAccess)

end Sys2Proof.Machine

/-- The CBU registers, reached by quadword loads and stores: LDQ, LDQ_U, LDG, LDT and HW_LD, STQ, STQ_U, STG, STT and HW_ST.
SC_CTL is read; SC_STAT and EI_STAT are read, cleared and unlocked; EI_ADDR, FILL_SYN and a locked SC_ADDR and BC_TAG_ADDR give
their fields, of BC_TAG_ADDR the tag bits that the size of the Bcache uses; SC_CTL, BC_CONTROL and BC_CONFIG are written right
after an MB, SC_CTL with SC_FLUSH empties the Scache, and BC_FHIT unlocks BC_TAG_ADDR. Every load and store of another width, a
locked load and a conditional store stop, and so do the wrong direction, a missing MB, a cacheable request of the Istream
outstanding where the register changes, ALLOC_CYC, the reserved values, and an address of the region that is no register
(13_state_cbu_iprs.md R240 to R244, R246, R248, R250, R256, R260, R262, R263, R266, R267; the stops are log entries 25, 31 and
32). The loads are outstanding until their register is used, and MAF_MODE<MAF_ARB_DISABLE> holds loads and stores (log entry
38); a fill makes a load miss before DC_FHIT makes it hit (log entry 45). -/
def Obligations.CbuRegistersAreReached : Prop :=
  ∀ (ra rb : Reg) (disp : BitVec 16) (phys alt wrtck vpte : Bool) (offset : BitVec 10) (s : State), s.model.cbuStore = false →
    let hwLoad (quad lock : Bool) : DRef :=
      { write := false, size := if quad = true then 8 else 4, phys := phys, alt := alt, wrtck := wrtck, vpte := vpte,
        hw := true, lock := lock, va := s.readReg rb + offset.signExtend 64, ra := ra, opcode := 0x1B }
    let hwStore (quad : Bool) : DRef :=
      { write := true, size := if quad = true then 8 else 4, phys := phys, alt := alt, hw := true,
        va := s.readReg rb + offset.signExtend 64, ra := ra, opcode := 0x1F }
    readsCbu s (.ldq ra rb disp) (loadRef 0x29 8 ra rb disp s) (fun t x => t.writeReg ra x) ∧
    (ra ≠ 31 →
      readsCbu s (.ldq_u ra rb disp) { loadRef 0x0B 8 ra rb disp s with masked := true } (fun t x => t.writeReg ra x)) ∧
    writesCbu s (.stq ra rb disp) (storeRef 0x2D 8 ra rb disp s) (s.readReg ra) ∧
    writesCbu s (.stq_u ra rb disp) { storeRef 0x0F 8 ra rb disp s with masked := true } (s.readReg ra) ∧
    reachesNoCbu s (.ldl ra rb disp) (loadRef 0x28 4 ra rb disp s) ∧
    reachesNoCbu s (.ldl_l ra rb disp) { loadRef 0x2A 4 ra rb disp s with lock := true } ∧
    reachesNoCbu s (.ldq_l ra rb disp) { loadRef 0x2B 8 ra rb disp s with lock := true } ∧
    reachesNoCbu s (.stl ra rb disp) (storeRef 0x2C 4 ra rb disp s) ∧
    reachesNoCbu s (.stl_c ra rb disp) (storeRef 0x2E 4 ra rb disp s) ∧
    reachesNoCbu s (.stq_c ra rb disp) (storeRef 0x2F 8 ra rb disp s) ∧
    (s.byteWordEnabled = true →
      reachesNoCbu s (.ldbu ra rb disp) (loadRef 0x0A 1 ra rb disp s) ∧
      reachesNoCbu s (.ldwu ra rb disp) (loadRef 0x0C 2 ra rb disp s) ∧
      reachesNoCbu s (.stb ra rb disp) (storeRef 0x0E 1 ra rb disp s) ∧
      reachesNoCbu s (.stw ra rb disp) (storeRef 0x0D 2 ra rb disp s)) ∧
    (s.fpEnabled = true →
      readsCbu s (.ldg ra rb disp) (loadRef 0x21 8 ra rb disp s) (fun t x => t.writeFreg ra (swapG x)) ∧
      readsCbu s (.ldt ra rb disp) (loadRef 0x23 8 ra rb disp s) (fun t x => t.writeFreg ra x) ∧
      writesCbu s (.stg ra rb disp) (storeRef 0x25 8 ra rb disp s) (swapG (s.readFreg ra)) ∧
      writesCbu s (.stt ra rb disp) (storeRef 0x27 8 ra rb disp s) (s.readFreg ra) ∧
      reachesNoCbu s (.ldf ra rb disp) (loadRef 0x20 4 ra rb disp s) ∧
      reachesNoCbu s (.lds ra rb disp) (loadRef 0x22 4 ra rb disp s) ∧
      reachesNoCbu s (.stf ra rb disp) (storeRef 0x24 4 ra rb disp s) ∧
      reachesNoCbu s (.sts ra rb disp) (storeRef 0x26 4 ra rb disp s)) ∧
    (s.palOpcodeAllowed = true →
      readsCbu s (.hw_ld ra rb phys alt wrtck true vpte false offset) (hwLoad true false) (fun t x => t.writeReg ra x) ∧
      writesCbu s (.hw_st ra rb phys alt false true false false offset) (hwStore true) (s.readReg ra) ∧
      (∀ quad lock : Bool, quad = false ∨ lock = true →
        reachesNoCbu s (.hw_ld ra rb phys alt wrtck quad vpte lock offset) (hwLoad quad lock)) ∧
      (∀ quad cond : Bool, quad = false ∨ cond = true →
        reachesNoCbu s (.hw_st ra rb phys alt false quad false cond offset) (hwStore quad)))

/-! ## Translation -/

/-- A virtual reference with a canonical address that no DTB entry maps (R312, whose comparison is log entry 4) and no enabled
superpage is a DTB miss, double for a page table fetch; the miss comes before the alignment check (20_memory.md R327;
60_exceptions.md R966). -/
def Obligations.UnmappedReferencesMiss : Prop :=
  ∀ (s : State) (r : DRef), r.phys = false → -2 ^ 42 ≤ r.va.toInt → r.va.toInt < 2 ^ 42 →
    (∀ e ∈ s.mtu.dtb, ¬s.dtbMaps r.va e) → ¬s.inDataSuperpage r →
      s.translate r =
        .trap (if r.vpte = true then .dtbmissDouble else .dtbmissSingle) { dtbMiss := true, wr := r.write }

/-- A virtual reference of an ordinary load or store that is not naturally aligned and takes no DTB miss is UNALIGN, also with a
bad address; an aligned one with a bad address, or one of LDQ_U, STQ_U, HW_LD or HW_ST, is DFAULT with BAD_VA and ACV (R304,
R318, R327; which of the two comes first is the spec's decision D14, log entry 36). -/
def Obligations.MisalignedAndBadAddressesTrap : Prop :=
  ∀ (s : State) (r : DRef), r.phys = false → r.size ∈ [1, 2, 4, 8] →
    (∀ e c, s.translate r = .trap e c → e ≠ .dtbmissSingle ∧ e ≠ .dtbmissDouble) →
    (r.hw = false → r.masked = false → r.va.toNat % r.size ≠ 0 → s.translate r = .trap .unalign { wr := r.write }) ∧
      ((r.hw = true ∨ r.masked = true ∨ r.va.toNat % r.size = 0) → (r.va.toInt < -2 ^ 42 ∨ 2 ^ 42 ≤ r.va.toInt) →
        s.translate r = .trap .dfault { badVa := true, acv := true, wr := r.write })

/-- References that no page table entry maps. The kernel's superpages: with MCSR<SP1>, va<42:41> = 2 maps to va<39:0>; with
MCSR<SP0>, va<42:30> = 1FFE hex maps to va<29:0>. A reference of HW_LD or HW_ST with PHYS goes to va<39:0> unchecked. The low
bits of HW_LD, HW_ST, LDQ_U and STQ_U are ignored, which is general knowledge (R305, R931; log entry 4). A longword access has
bit 2 of the result inverted with MCSR<M_BIG_ENDIAN> (R302, R310, R320, R321). -/
def Obligations.SuperpageAndPhysicalReferences : Prop :=
  ∀ (s : State) (r : DRef), r.size ∈ [1, 2, 4, 8] →
    let swap : PAddr := if s.mtu.mcsr.getLsbD 0 = true ∧ r.size = 4 then 4 else 0
    (r.phys = true → (r.hw = true ∨ r.masked = true) →
      s.translate r = .ok (BitVec.ofNat 40 (r.va.toNat / r.size * r.size) ^^^ swap)) ∧
    (r.phys = false → (r.hw = true ∨ r.masked = true ∨ r.va.toNat % r.size = 0) → -2 ^ 42 ≤ r.va.toInt → r.va.toInt < 2 ^ 42 →
      s.dataMode r = 0 → (∀ e ∈ s.mtu.dtb, ¬s.dtbMaps r.va e) →
      (s.mtu.mcsr.getLsbD 2 = true → r.va.toNat / 2 ^ 41 % 4 = 2 →
        s.translate r = .ok (BitVec.ofNat 40 (r.va.toNat / r.size * r.size) ^^^ swap)) ∧
      (s.mtu.mcsr.getLsbD 1 = true → r.va.toNat / 2 ^ 30 % 2 ^ 13 = 0x1FFE →
        s.translate r = .ok (BitVec.ofNat 40 (r.va.toNat % 2 ^ 30 / r.size * r.size) ^^^ swap)))

/-- A mapped page, by one DTB entry or several that hold the same: protection by the access mode, fault on read and on write,
and the physical address PFN and offset with the granularity hint. Entries that differ, or an entry beside an enabled superpage,
stop (R312, whose comparison is log entry 4; R313, R325, R327). -/
def Obligations.MappedReferencesAreChecked : Prop :=
  ∀ (s : State) (r : DRef), r.phys = false → r.size ∈ [1, 2, 4, 8] →
    (r.hw = true ∨ r.masked = true ∨ r.va.toNat % r.size = 0) → -2 ^ 42 ≤ r.va.toInt → r.va.toInt < 2 ^ 42 →
    (∀ p : DtbPte, (∃ e ∈ s.mtu.dtb, s.dtbMaps r.va e) → (∀ e ∈ s.mtu.dtb, s.dtbMaps r.va e → e.pte = p) →
      ¬s.inDataSuperpage r →
      let mode := (s.dataMode r).toNat
      let denied := if r.write = true then !p.we.getLsbD mode else !p.re.getLsbD mode || (r.wrtck && !p.we.getLsbD mode)
      let onRead := p.fault_on_read && !r.write
      let onWrite := p.fault_on_write && (r.write || r.wrtck)
      let page := 8192 * 8 ^ p.gh.toNat
      let pa := (p.pfn.toNat / 8 ^ p.gh.toNat * page + r.va.toNat % page) / r.size * r.size
      let swap : PAddr := if s.mtu.mcsr.getLsbD 0 = true ∧ r.size = 4 then 4 else 0
      (denied = false → onRead = false → onWrite = false → s.translate r = .ok (BitVec.ofNat 40 pa ^^^ swap)) ∧
        (denied = true ∨ onRead = true ∨ onWrite = true → s.translate r =
          .trap .dfault { acv := denied, for_ := onRead, fow := onWrite, wr := r.write })) ∧
    (∀ d ∈ s.mtu.dtb, ∀ e ∈ s.mtu.dtb, s.dtbMaps r.va d → s.dtbMaps r.va e → d.pte ≠ e.pte ∨ s.inDataSuperpage r →
      s.translate r = .multiple ∧ ∀ k, translated r k s = .fault .multipleTbMatch)

/-- The translation of a native-mode instruction fetch: sign check, superpages, miss, protection by ICM<CM>; two entries, or an
entry beside an enabled superpage, are UNDEFINED (R312, whose comparison is log entry 4; R313, R318, R326). -/
def Obligations.FetchTranslation : Prop :=
  ∀ (s : State) (va : Quad),
    ((va.toInt < -2 ^ 42 ∨ 2 ^ 42 ≤ va.toInt) → s.translateFetch va = .iaccvio false) ∧
    (-2 ^ 42 ≤ va.toInt → va.toInt < 2 ^ 42 →
      ((∀ e ∈ s.idu.itb, ¬s.itbMaps va e) →
        (s.idu.icm = 0 → s.idu.icsr.getLsbD 29 = true → va.toNat / 2 ^ 41 % 4 = 2 →
          s.translateFetch va = .ok (BitVec.ofNat 40 va.toNat)) ∧
        (s.idu.icm = 0 → s.idu.icsr.getLsbD 28 = true → va.toNat / 2 ^ 30 % 2 ^ 13 = 0x1FFE →
          s.translateFetch va = .ok (BitVec.ofNat 40 (va.toNat % 2 ^ 30))) ∧
        (¬s.inFetchSuperpage va → s.translateFetch va = .itbmiss)) ∧
      (∀ before e rest, s.idu.itb = before ++ e :: rest → s.itbMaps va e →
        let p := e.pte
        ((∀ x ∈ before ++ rest, ¬s.itbMaps va x) → ¬s.inFetchSuperpage va →
          (p.re.getLsbD s.idu.icm.toNat = false → s.translateFetch va = .iaccvio true) ∧
          (p.re.getLsbD s.idu.icm.toNat = true → s.translateFetch va = .ok
            (BitVec.ofNat 40 (p.pfn.toNat / 8 ^ p.gh.toNat * (8192 * 8 ^ p.gh.toNat) +
              va.toNat % (8192 * 8 ^ p.gh.toNat))))) ∧
        ((∃ x ∈ before ++ rest, s.itbMaps va x) ∨ s.inFetchSuperpage va → s.translateFetch va = .multiple)))

/-! ## Control flow -/

/-- BR and BSR write the return address and go to the target, counted in instructions from the next one; a branch keeps
pc<1:0>. The integer conditional branches do so on R[Ra] as a signed number or on its low bit (41_control.md
R560 to R574, R587; log entry 4). -/
def Obligations.BranchesGoToTheirTarget : Prop :=
  (∀ (c : Reg → BitVec 21 → Instr), c ∈ [Instr.br, Instr.bsr] → ∀ (ra : Reg) (disp : BitVec 21) (s : State),
    exec (c ra disp) s = .next
      { s.writeReg ra ((s.pc + 4) &&& ~~~2) with pc := BitVec.ofInt 64 (s.pc.toInt + 4 + 4 * disp.toInt) }) ∧
    branchesWhen .beq (fun a => a = 0) ∧ branchesWhen .bne (fun a => a ≠ 0) ∧ branchesWhen .blt (fun a => a < 0) ∧
    branchesWhen .ble (fun a => a ≤ 0) ∧ branchesWhen .bgt (fun a => 0 < a) ∧ branchesWhen .bge (fun a => 0 ≤ a) ∧
    branchesWhen .blbc (fun a => a % 2 = 0) ∧ branchesWhen .blbs (fun a => a % 2 = 1)

/-- The floating-point conditional branches, on the sign of F[Fa] and on whether it is zero (R575 to R580; log entry 4). -/
def Obligations.FloatingConditionalBranches : Prop :=
  floatBranchesWhen .fbeq (fun _ zero => zero) ∧ floatBranchesWhen .fbne (fun _ zero => !zero) ∧
    floatBranchesWhen .fblt (fun neg zero => neg && !zero) ∧ floatBranchesWhen .fble (fun neg zero => neg || zero) ∧
    floatBranchesWhen .fbgt (fun neg zero => !neg && !zero) ∧ floatBranchesWhen .fbge (fun neg zero => !neg || zero)

/-- The jumps write the return address and go to R[Rb], read before it is written: bits <1:0> cleared in native mode, bit 0
kept in PALmode (R581 to R586; log entries 4 and 8). -/
def Obligations.JumpsGoToTheRegister : Prop :=
  ∀ (c : Reg → Reg → BitVec 14 → Instr), c ∈ [Instr.jmp, Instr.jsr, Instr.ret, Instr.jsr_coroutine] →
    ∀ (ra rb : Reg) (hint : BitVec 14) (s : State), exec (c ra rb hint) s = .next
      { s.writeReg ra ((s.pc + 4) &&& ~~~2) with
        pc := if s.pc.toNat % 2 = 1 then s.readReg rb &&& ~~~2 else s.readReg rb &&& ~~~3 }

/-! ## Barriers, hints, the cycle counter and the interrupt flag -/

/-- TRAPB and EXCB deliver an owed ARITH entry and do nothing else. MB, WMB, FETCH and FETCH_M change no register and no memory:
MB leaves no load and no store outstanding, and tells the system if BC_CONTROL<EI_CMD_GRP3> is set; after WMB the entries of the
write buffer take no more stores and the next one is ordered behind them; FETCH and FETCH_M enter the write buffer with the
physical address of their operand, as the bus has it under ICSR<BSE> (R399), nothing for one in the CBU region, but not between
a store to a CBU control register and its MB (20_memory.md R336, R341, R343; 21_external_interface.md R406, R408; log entries
16, 25, 38). -/
def Obligations.BarriersAndHints : Prop :=
  (∀ (i : Instr) (s : State), i = .trapb ∨ i = .excb →
    (s.arithPending = false → exec i s = .next s.advance) ∧
      (s.arithPending = true → exec i s = .next (enteredAt .arith 0x500 { s with arithPending := false }))) ∧
  (∀ s : State, ∃ t, exec .mb s = .next t ∧ onlyAdvanced s t ∧ t.memsys.wb = [] ∧ t.memsys.maf = [] ∧
    t.model.stale.unbarriered = [] ∧
    (s.cbu.bcControl.getLsbD 3 = true →
      (t.memsys.caches.bus.commands.map (·.command)).getLast? = some .memoryBarrier)) ∧
  (∀ s : State, ∃ t, exec .wmb s = .next t ∧ onlyAdvanced s t ∧ t.memsys.wb.length = s.memsys.wb.length ∧
    (∀ e ∈ t.memsys.wb, e.noMerge = true) ∧ t.memsys.wmbNext = true) ∧
  (∀ (p : (Reg → Instr) × WriteKind), p ∈ [(Instr.fetch, WriteKind.fetch), (Instr.fetch_m, WriteKind.fetchM)] →
    ∀ (rb : Reg) (s : State),
    let r : DRef := { write := false, size := 1, va := s.readReg rb, ra := 31, opcode := 0x18 }
    (s.model.cbuStore = true → exec (p.1 rb) s = .refused .cbuOrder) ∧
    (s.model.cbuStore = false → ∃ t, exec (p.1 rb) s = .next t ∧ onlyAdvanced s t ∧
      (∀ pa, s.translate r = .ok pa → inCbu pa = false →
        ∃ e, t.memsys.wb.getLast? = some e ∧ e.kind = p.2 ∧ e.addr = s.onBus pa) ∧
      (∀ pa, s.translate r = .ok pa → inCbu pa = true → t.memsys = s.memsys)))

/-- RPCC: the offset of CC above, the counter below, which is the value written while it is disabled and free while it
counts. RS and RC: the interrupt flag goes to R[Ra] and is set or cleared (log entries 4 and 34). -/
def Obligations.CycleCounterAndInterruptFlag : Prop :=
  (∀ (ra : Reg) (s : State), ∃ (v : Quad) (k : Model),
    exec (.rpcc ra) s = .next (({ s with model := k }.writeReg ra v).advance) ∧ v.toNat / 2 ^ 32 = s.mtu.ccOffset.toNat ∧
      (s.mtu.ccEnabled = false → k = s.model ∧ v.toNat % 2 ^ 32 = s.mtu.ccCount.toNat) ∧
      (s.mtu.ccEnabled = true → v.toNat % 2 ^ 32 = s.drawValue.toNat % 2 ^ 32)) ∧
  (∀ (ra : Reg) (s : State),
    exec (.rs ra) s = .next (({ s with intrFlag := true }.writeReg ra (if s.intrFlag = true then 1 else 0)).advance) ∧
      exec (.rc ra) s = .next (({ s with intrFlag := false }.writeReg ra (if s.intrFlag = true then 1 else 0)).advance))

/-! ## PALcode -/

/-- CALL_PAL: the entry of a permitted function, the return address in EXC_ADDR, the interrupt flag cleared; OPCDEC for the
others; an owed ARITH entry first (48_palcode.md R920; the interrupt flag's clearing is log entry 4). -/
def Obligations.CallPalEntersPalcode : Prop :=
  ∀ (fn : BitVec 26) (s : State),
    let permitted := (fn.toNat < 0x40 ∧ s.idu.icm = 0) ∨ (0x80 ≤ fn.toNat ∧ fn.toNat ≤ 0xBF)
    (s.arithPending = true → exec (.call_pal fn) s = .next (enteredAt .arith 0x500 { s with arithPending := false })) ∧
      (s.arithPending = false → ¬permitted → exec (.call_pal fn) s = .next (enteredAt .opcdec 0x480 s)) ∧
      (s.arithPending = false → permitted → exec (.call_pal fn) s = .next
        { enteredAt .callPal ((if fn.toNat < 0x80 then 0x2000 else 0x3000) + 0x40 * (fn.toNat % 0x40)) s with
          idu := { s.idu with excAddr := (s.pc + 4) &&& ~~~2 } })

/-- HW_REI and HW_REI_STALL. Where they are allowed, pc becomes EXC_ADDR, whose bit 0 is the new PALmode, with bit 1 zero, and
nothing else changes; elsewhere they raise OPCDEC (48_palcode.md R912, R913, R930). In PALmode an owed ARITH entry is taken
first, and where they raise OPCDEC it takes its place: the spec's decision D25 (60_exceptions.md R971 c and d; log entry 22). -/
def Obligations.HwReiReturns : Prop :=
  ∀ (i : Instr) (s : State), i = .hw_rei 0 ∨ i = .hw_rei_stall 0 →
    (s.palOpcodeAllowed = true →
      (s.palmode = false ∨ s.arithPending = false → exec i s = .next { s with pc := s.idu.excAddr &&& ~~~2 }) ∧
      (s.palmode = true → s.arithPending = true →
        exec i s = .next (enteredAt .arith 0x500 { s with arithPending := false }))) ∧
    (s.palOpcodeAllowed = false → raises i s .opcdec 0x480)

/-- HW_LD: the reference with its options, a longword sign-extended or a quadword, and with LOCK the lock. HW_ST: the reference
with its options; with COND a conditional store (48_palcode.md R931 to R936; the ignored low address bits and the sign extension
are log entry 4). A value the spec leaves open is free (log entry 14); that I/O space reads and stores as memory does and
answers a conditional store freely is the model's choice (log entry 15), and so is that a locked load keeps the lock though its
own fill came with system_lock_flag_h low (log entry 38); Ra = 31 is the spec's decision D19 (log entry 36). -/
def Obligations.HwLoadAndStoreResults : Prop :=
  (∀ (ra rb : Reg) (phys alt wrtck quad vpte lock : Bool) (disp : BitVec 10) (s : State) (pa : PAddr),
    let r : DRef :=
      { write := false, size := if quad = true then 8 else 4, phys := phys, alt := alt, wrtck := wrtck, vpte := vpte,
        hw := true, lock := lock, va := s.readReg rb + disp.signExtend 64, ra := ra, opcode := 0x1B }
    let a := s.onBus pa
    s.palOpcodeAllowed = true → s.reaches r pa →
      let t := if lock = true ∧ s.mtu.mafMode.getLsbD 5 = false then { s.loaded r a with lockFlag := true, lockPa := pa }
        else s.loaded r a
      exec (.hw_ld ra rb phys alt wrtck quad vpte lock disp) s = .next
        ((t.writeReg ra (wrapped (if quad = true then 64 else 32) (s.loadedNumber r a))).advance)) ∧
  (∀ (ra rb : Reg) (phys alt quad : Bool) (disp : BitVec 10) (s : State) (pa : PAddr),
    let r : DRef :=
      { write := true, size := if quad = true then 8 else 4, phys := phys, alt := alt, hw := true,
        va := s.readReg rb + disp.signExtend 64, ra := ra, opcode := 0x1F }
    s.palOpcodeAllowed = true →
      storeWrites (.hw_st ra rb phys alt false quad false false disp) s r pa (s.readReg ra) ∧
        conditionalWrites (.hw_st ra rb phys alt false quad false true disp) s r pa)

namespace Sys2Proof.Machine

/-- The indexes of the registers that HW_MFPR reads (10_state.md R68), PALtemp0 to PALtemp23 included. -/
def readableIprs : List Nat :=
  [0x100, 0x102, 0x103, 0x104, 0x108, 0x109, 0x10A, 0x10B, 0x10C, 0x10D, 0x10E, 0x10F, 0x110, 0x111, 0x112, 0x113, 0x117,
    0x118, 0x11A, 0x11C, 0x203, 0x204, 0x205, 0x206, 0x207, 0x20F, 0x212, 0x213, 0x214, 0x215, 0x216, 0x217] ++
    (List.range 24).map (0x140 + ·)

/-- The indexes of the registers that HW_MTPR writes with any value (R68); ICSR and MCSR have reserved bits. -/
def writableIprs : List Nat :=
  [0x101, 0x102, 0x103, 0x105, 0x106, 0x107, 0x108, 0x109, 0x10A, 0x10B, 0x10C, 0x10E, 0x10F, 0x110, 0x113, 0x115, 0x116,
    0x119, 0x11A, 0x11C, 0x200, 0x201, 0x202, 0x203, 0x208, 0x209, 0x20A, 0x20B, 0x20C, 0x20D, 0x20E, 0x210, 0x212, 0x213,
    0x214, 0x216, 0x217] ++ (List.range 24).map (0x140 + ·)

end Sys2Proof.Machine

namespace Sys2Proof.Machine

/-- What HW_MFPR of an index gives, with the state after it but for the model's own fields (11_state_idu_iprs.md,
12_state_mtu_iprs.md), for the registers whose value does not depend on a free one. -/
def iprReads (s : State) : List (Nat × Nat × State) :=
  let bit (b : Bool) (k : Nat) : Nat := if b = true then 2 ^ k else 0
  let irq (k : Nat) : Nat :=
    bit (s.pins.irq.getLsbD k && (Config.isrShowsMaskedIrq || !s.idu.icsr.getLsbD (20 + k))) (20 + k)
  let i := s.idu
  let p := i.itbPteTemp
  [ (0x100, (i.astrr &&& i.aster).toNat + i.sirr.toNat * 2 ^ 4 + bit i.astPending 19 + irq 0 + irq 1 + irq 2 + irq 3 +
      i.pcRequests.toNat * 2 ^ 27 + bit s.pins.powerFail 30 + bit s.pins.machineCheck 31 +
      bit (i.crdRequest && (Config.isrShowsMaskedIrq || i.icsr.getLsbD 32)) 32 + bit i.sliRequest 33 + bit s.pins.halt 34, s),
    (0x104, p.re.toNat * 2 ^ 9 + bit p.asm 13 + bit (p.gh.toNat != 0) 29 + bit (decide (2 ≤ p.gh.toNat)) 30 +
      bit (p.gh.toNat == 3) 31 + p.pfn.toNat * 2 ^ 32, s),
    (0x10C, i.excSum.toNat * 2 ^ 10, s),
    (0x10D, if Config.excMaskIntegerLow = true then i.excMaskFp.toNat * 2 ^ 32 + i.excMaskInt.toNat
      else i.excMaskInt.toNat * 2 ^ 32 + i.excMaskFp.toNat, s),
    (0x111, s.intid.toNat, s),
    (0x112, i.ifaultVaForm.toNat, s),
    (0x117, bit s.pins.serialData 6, s),
    (0x11A, i.icperrStat.toNat * 2 ^ 11, s),
    (0x203, 0, { s with mtu := { s.mtu with
      dtbPteTemp := (s.mtu.dtb.map (·.pte)).getD s.mtu.dtbPtr .zero, dtbPtr := (s.mtu.dtbPtr + 1) % 64 } }),
    (0x205, s.mtu.mmStat.toNat, s),
    (0x206, s.mtu.va.toNat, { s with mtu := { s.mtu with mmLock := false } }),
    (0x207, (vaFormNumber s.mtu.mvptbr (s.mtu.mcsr.getLsbD 1) s.mtu.va).toNat, s),
    (0x212, s.mtu.dcPerrStat.toNat, s),
    (0x215, s.mtu.dcTestTagTemp.toNat, s) ]

/-- What HW_MFPR gives in the other registers: ITB_PTE loads ITB_PTE_TEMP and moves the pointer (by more when an instruction
before it may have been replayed), IVPTBR has free bits in the layout that does not use them, and DTB_PTE_TEMP has each stored
bit in its place. -/
def iprReadsFree (s : State) (n : Nat) (v : Quad) (t : State) : Prop :=
  (n = 0x102 → v = 0 ∧ ∃ k, (7 ≤ s.model.sinceMtu → k = 0) ∧ t.idu = { s.idu with
    itbPteTemp := (s.idu.itb.map (·.pte)).getD s.idu.itbPtr .zero, itbPtr := (s.idu.itbPtr + 1 + k) % 48 }) ∧
  (n = 0x113 → t.idu = s.idu ∧ v.toNat / 2 ^ 33 = s.idu.ivptbr.toNat / 8 ∧ v.toNat % 2 ^ 30 = 0 ∧
    (s.idu.icsr.getLsbD 28 = true → v.toNat = s.idu.ivptbr.toNat * 2 ^ 30)) ∧
  (n = 0x204 → t.mtu = s.mtu ∧
    let p := s.mtu.dtbPteTemp
    let stored : Nat := p.fault_on_read.toNat * 2 ^ 39 + p.fault_on_write.toNat * 2 ^ 38 + p.asm.toNat * 2 ^ 37 +
      p.gh.toNat * 2 ^ 35 + p.re.toNat * 2 ^ 31 + p.we.toNat * 2 ^ 27 + p.pfn.toNat
    ∀ k : Fin 64, v.getLsbD (Config.dtbPteTempPlaces k).val = stored.testBit k.val)

end Sys2Proof.Machine

/-- HW_MFPR of a readable register, where it is allowed, writes R[Ra] and changes at most registers of the IDU and the MTU (a
read that moves a pointer or unlocks) and the model's own fields; ISR, INTID, the PTE_TEMP registers, EXC_SUM, EXC_MASK, VA
(which unlocks), VA_FORM, IFAULT_VA_FORM, MM_STAT, IVPTBR, SL_RCV and the error registers give what they hold (R122, R124, R128,
R129, R135, R137, R151, R156, R184, R185, R190 to R192, R195, R222; their layouts are parameters, log entry 10). The pointer
that ITB_PTE and DTB_PTE read and advance is the spec's decision D5 (log entry 35), its further steps after a replayed
instruction log entry 24. HW_MTPR of a writable one changes at most registers of the IDU and the MTU, the lines of the Dcache
(DC_FLUSH, DC_TEST_TAG) with the model's note that it has been flushed, the pc, and the model's own fields: `State.model`, and
of MAF_MODE the event by which what has waited arbitrates; of ICSR and MCSR, with their reserved bits as the spec asks, too. -/
def Obligations.InternalRegistersAreReachable : Prop :=
  (∀ n ∈ readableIprs, ∀ (r : Reg) (s : State), s.palOpcodeAllowed = true →
    ∃ (v : Quad) (t : State), exec (.hw_mfpr r r (BitVec.ofNat 16 n)) s = .next ((t.writeReg r v).advance) ∧
      { t with idu := s.idu, mtu := s.mtu, model := s.model } = s ∧ t.idu.icsr = s.idu.icsr ∧
      (∀ p ∈ iprReads s, p.1 = n → v.toNat = p.2.1 ∧ { t with model := p.2.2.model } = p.2.2) ∧
      iprReadsFree s n v t) ∧
  (∀ n, ∀ (r : Reg) (s : State), s.palOpcodeAllowed = true →
    (n ∈ writableIprs ∨
      n = 0x118 ∧ (s.readReg r).getLsbD 18 = false ∧ (s.readReg r).getLsbD 37 = true ∨
      n = 0x20F ∧ s.readReg r &&& 0x28 = 0) →
    ∃ t, exec (.hw_mtpr r r (BitVec.ofNat 16 n)) s = .next t ∧ t.pc = s.pc + 4 ∧
      { t with idu := s.idu, mtu := s.mtu, memsys := s.memsys, pc := s.pc, model := s.model } = s ∧
      let c := s.memsys.caches
      { t.memsys with caches := { t.memsys.caches with
        dcache := c.dcache, dcacheFlushed := c.dcacheFlushed, posted := c.posted } } = s.memsys ∧
      (n ∉ [0x210, 0x214] → t.memsys.caches.dcache = c.dcache ∧ t.memsys.caches.dcacheFlushed = c.dcacheFlushed) ∧
      (t.memsys.caches.posted = c.posted ∨ n = 0x217 ∧ t.memsys.caches.posted = c.posted ++ [.resume]))

/-- What HW_MTPR writes, HW_MFPR reads back, cut to the bits the register has: ICSR beside its self-test bit, MAF_MODE beside
the two bits that say whether loads and stores are outstanding, PMCTR while the counters are off. The translation buffer
registers fill the entry of their pointer and invalidate entries, all, those without ASM, or those that map an address; the
write-only and write-1-to-clear registers have their effect, and nothing else changes (11_state_idu_iprs.md R120, R121, R125 to
R127, R129, R130, R135, R155, R158; 12_state_mtu_iprs.md R180 to R183, R186 to R188, R193, R195, R214 to R216). PAL_BASE<63:14>
read back whole is log entry 18; the pointer's entry, its advance and its reset by ITB_IA and DTB_IA are the spec's decision D5
(log entry 35), its further steps after a replayed instruction log entry 24; the PTE write format is log entry 4. That the other
bits read as zero is the spec's decision D4 (log entry 31), and the comparison by which ITB_IS and DTB_IS invalidate is D6
(R127, R188; log entry 35). -/
def Obligations.IprsReadBackWhatWasWritten : Prop :=
  (∀ p ∈ ([(0x103, 0x7F0), (0x108, 0x7FFF0), (0x109, 0xF), (0x10A, 0xF), (0x10B, 0xFFFFFFFFFFFFFFFD),
      (0x10E, 0xFFFFFFFFFFFFC000), (0x10F, 0x18), (0x110, 0x1F), (0x20F, 0x17), (0x213, 0x1FFB), (0x216, 0xF)] ++
      (List.range 24).map (fun n => (0x140 + n, 0xFFFFFFFFFFFFFFFF)) : List (Nat × Quad)),
    ∀ (r q : Reg) (s : State), s.palOpcodeAllowed = true → (p.1 = 0x20F → s.readReg r &&& 0x28 = 0) →
      ∃ t, exec (.hw_mtpr r r (BitVec.ofNat 16 p.1)) s = .next t ∧
        (t.palOpcodeAllowed = true → ∃ k,
          exec (.hw_mfpr q q (BitVec.ofNat 16 p.1)) t =
            .next (({ t with model := k }.writeReg q (s.readReg r &&& p.2)).advance))) ∧
  (∀ (r q : Reg) (s : State), s.palOpcodeAllowed = true →
    let v := s.readReg r
    let readsBack (n : Nat) (mask : Quad) (p : State → Quad → Prop) : Prop :=
      ∃ t, exec (.hw_mtpr r r (BitVec.ofNat 16 n)) s = .next t ∧
        (t.palOpcodeAllowed = true → ∃ x k, x &&& mask = v &&& mask ∧ p t x ∧
          exec (.hw_mfpr q q (BitVec.ofNat 16 n)) t = .next (({ t with model := k }.writeReg q x).advance))
    (v.getLsbD 18 = false → v.getLsbD 37 = true →
      readsBack 0x118 0xBF7FF20300 (fun _ x => x &&& ~~~0xFF7FF20300 = 0)) ∧
    readsBack 0x217 0x3F (fun t x => x.toNat < 256 ∧ (x.getLsbD 6 = true ↔ t.memsys.maf ≠ []) ∧
      (x.getLsbD 7 = true ↔ t.memsys.wb ≠ [] ∨ t.model.cbuWaits ≠ none)) ∧
    (s.idu.icsr.getLsbD 8 = false → s.idu.icsr.getLsbD 9 = false → readsBack 0x11C 0xFFFFFFFFFFFFFFFF (fun _ _ => True))) ∧
  (∀ (r : Reg) (s : State), s.palOpcodeAllowed = true →
    let v := s.readReg r
    let writes (n : Nat) (p : State → Prop) : Prop := ∃ t, exec (.hw_mtpr r r (BitVec.ofNat 16 n)) s = .next t ∧ p t
    let sets (n : Nat) (u : State) : Prop :=
      ∃ k, exec (.hw_mtpr r r (BitVec.ofNat 16 n)) s = .next ({ u with model := k }.advance)
    let idu (n : Nat) (i : Idu) : Prop := sets n { s with idu := i }
    let mtu (n : Nat) (m : Mtu) : Prop := sets n { s with mtu := m }
    let field (lo n : Nat) : BitVec n := BitVec.ofNat n (v.toNat / 2 ^ lo)
    writes 0x102 (fun t => t.idu.itb = s.idu.itb.set s.idu.itbPtr
        ⟨true, s.idu.itbTag, s.idu.itbAsn, ⟨v.getLsbD 4, field 5 2, field 8 4, field 32 27⟩⟩ ∧
      ∃ n, t.idu.itbPtr = (s.idu.itbPtr + 1 + n) % 48 ∧ (7 ≤ s.model.sinceMtu → n = 0)) ∧
    writes 0x105 (fun t => (∀ e ∈ t.idu.itb, e.valid = false) ∧ t.idu.itbPtr = 0) ∧
    writes 0x106 (fun t => (∀ e ∈ t.idu.itb, e.valid = true → e.pte.asm = true) ∧
      ∀ e ∈ s.idu.itb, e.pte.asm = true → e ∈ t.idu.itb) ∧
    writes 0x107 (fun t => (∀ e ∈ t.idu.itb, ¬s.itbMaps v e) ∧ ∀ e ∈ s.idu.itb, ¬s.itbMaps v e → e ∈ t.idu.itb) ∧
    writes 0x202 (fun t => t.mtu.dtb = s.mtu.dtb.set s.mtu.dtbPtr
        ⟨true, field 13 30, s.mtu.dtbAsn, s.mtu.dtbPte⟩ ∧ t.mtu.dtbPtr = (s.mtu.dtbPtr + 1) % 64) ∧
    writes 0x209 (fun t => (∀ e ∈ t.mtu.dtb, e.valid = true → e.pte.asm = true) ∧
      ∀ e ∈ s.mtu.dtb, e.pte.asm = true → e ∈ t.mtu.dtb) ∧
    writes 0x20A (fun t => (∀ e ∈ t.mtu.dtb, e.valid = false) ∧ t.mtu.dtbPtr = 0) ∧
    writes 0x20B (fun t => (∀ e ∈ t.mtu.dtb, ¬s.dtbMaps v e) ∧ ∀ e ∈ s.mtu.dtb, ¬s.dtbMaps v e → e ∈ t.mtu.dtb) ∧
    writes 0x210 (fun t => t.memsys.caches.dcacheFlushed = true ∧ ∀ l ∈ t.memsys.caches.dcache, l.valid = 0) ∧
    idu 0x101 { s.idu with itbTag := field 13 30 } ∧
    idu 0x10C { s.idu with excSum := 0, swcKilled := false, excMaskInt := 0, excMaskFp := 0 } ∧
    idu 0x113 { s.idu with ivptbr := field 30 34 } ∧
    idu 0x115 { s.idu with
      pcRequests := s.idu.pcRequests &&& ~~~field 27 3
      crdRequest := s.idu.crdRequest && !v.getLsbD 32
      sliRequest := s.idu.sliRequest && !v.getLsbD 33 } ∧
    idu 0x116 { s.idu with slXmit := v.getLsbD 7 } ∧
    idu 0x11A { s.idu with icperrStat := s.idu.icperrStat &&& ~~~field 11 3 } ∧
    mtu 0x200 { s.mtu with dtbAsn := field 57 7 } ∧
    mtu 0x201 { s.mtu with dtbCm := field 3 2 } ∧
    mtu 0x203 { s.mtu with dtbPte :=
      ⟨v.getLsbD 1, v.getLsbD 2, v.getLsbD 4, field 5 2, field 8 4, field 12 4, field 32 27⟩ } ∧
    mtu 0x208 { s.mtu with mvptbr := field 30 34 } ∧
    mtu 0x20C { s.mtu with altMode := field 3 2 } ∧
    mtu 0x20D { s.mtu with ccOffset := field 32 32 } ∧
    mtu 0x20E { s.mtu with
      ccCount := BitVec.ofNat 32 (v.toNat / 2 ^ 4 % 2 ^ 28 * 2 ^ 4), ccEnabled := v.getLsbD 32 } ∧
    mtu 0x212 { s.mtu with dcPerrStat :=
      (if v.getLsbD 1 = true then s.mtu.dcPerrStat &&& 1 else s.mtu.dcPerrStat) &&&
        (if v.getLsbD 0 = true then 0x3E else 0x3F) })

/-- The forms the spec forbids or leaves without a meaning stop by name: must-be-zero fields of HW_REI and HW_ST, register
fields of HW_MFPR and HW_MTPR that differ, an index without a register, and the reserved bits of ICSR and MCSR written
otherwise than they must be (30_encoding.md R482 to R484; log entries 6, 31 and 32). -/
def Obligations.UndefinedPalFormsStop : Prop :=
  ∀ s : State, s.palOpcodeAllowed = true →
    (∀ mbz, mbz ≠ 0 → exec (.hw_rei mbz) s = .refused .mustBeZeroField ∧
      exec (.hw_rei_stall mbz) s = .refused .mustBeZeroField) ∧
    (∀ ra rb phys alt b13 quad b11 cond disp, b13 = true ∨ b11 = true →
      exec (.hw_st ra rb phys alt b13 quad b11 cond disp) s = .refused .mustBeZeroField) ∧
    (∀ ra rb index, ra ≠ rb → exec (.hw_mfpr ra rb index) s = .refused .unequalRegisterFields ∧
      exec (.hw_mtpr ra rb index) s = .refused .unequalRegisterFields) ∧
    (∀ r (index : BitVec 16), index.toNat ∉ readableIprs →
      exec (.hw_mfpr r r index) s = .refused .undefinedIpr) ∧
    (∀ r (index : BitVec 16), index.toNat ∉ writableIprs → index.toNat ∉ [0x118, 0x20F] →
      exec (.hw_mtpr r r index) s = .refused .undefinedIpr) ∧
    (∀ r, (s.readReg r).getLsbD 18 = true ∨ (s.readReg r).getLsbD 37 = false →
      exec (.hw_mtpr r r 0x118) s = .refused .reservedBit) ∧
    (∀ r, s.readReg r &&& 0x28 ≠ 0 → exec (.hw_mtpr r r 0x20F) s = .refused .reservedBit)

namespace Sys2Proof.Machine

/-- The value of an operand (44_fp_common.md R732, R734, R735). -/
def FpOperand.rational (a : FpOperand) : ℚ :=
  match a with
  | .zero _ => 0
  | .finite neg m e => (if neg = true then -1 else 1) * m * 2 ^ e
  | .nonfinite => 0

/-- The sign of an operand, of a zero too. -/
def FpOperand.negative (a : FpOperand) : Bool :=
  match a with
  | .zero neg => neg
  | .finite neg _ _ => neg
  | .nonfinite => false

/-- The magnitude of an exact number. -/
def Exact.magnitude (x : Exact) : ℚ := (x.num : ℚ) / x.den * 2 ^ x.exp

/-- The value of an exact number. -/
def Exact.rational (x : Exact) : ℚ := (if x.neg = true then -1 else 1) * x.magnitude

/-- The magnitude of a rounded number. -/
def Rounded.magnitude (r : Rounded) : ℚ := (r.sig : ℚ) * 2 ^ r.exp

/-- A magnitude that p significant bits can hold, the exponent unbounded. -/
def representable (p : Nat) (y : ℚ) : Prop := ∃ (m : Nat) (e : Int), m < 2 ^ p ∧ y = m * 2 ^ e

end Sys2Proof.Machine

/-! ## Floating point -/

/-- The register moves of opcode 17: longword and quadword, copies of sign and exponent; and the conditional moves, on the
conditions of the floating-point branches (44_fp_common.md section 4; log entry 4). -/
def Obligations.FloatingMoveResults : Prop :=
  (∀ fa fb fc : Reg,
    floatWrites (.cvtlq fb fc) fc (fun s =>
      wrapped 32 ((s.readFreg fb).toNat / 2 ^ 62 * 2 ^ 30 + (s.readFreg fb).toNat / 2 ^ 29 % 2 ^ 30)) ∧
    floatWrites (.cpys fa fb fc) fc (fun s => BitVec.ofNat 64
      ((s.readFreg fa).toNat / 2 ^ 63 * 2 ^ 63 + (s.readFreg fb).toNat % 2 ^ 63)) ∧
    floatWrites (.cpysn fa fb fc) fc (fun s => BitVec.ofNat 64
      ((1 - (s.readFreg fa).toNat / 2 ^ 63) * 2 ^ 63 + (s.readFreg fb).toNat % 2 ^ 63)) ∧
    floatWrites (.cpyse fa fb fc) fc (fun s => BitVec.ofNat 64
      ((s.readFreg fa).toNat / 2 ^ 52 * 2 ^ 52 + (s.readFreg fb).toNat % 2 ^ 52))) ∧
  (∀ (fa fb fc : Reg) (s : State), s.fpEnabled = true →
    let neg := (s.readFreg fa).toInt < 0
    let zero := (s.readFreg fa).toNat % 2 ^ 63 = 0
    let moved := (s.writeFreg fc (s.readFreg fb)).advance
    (exec (.fcmoveq fa fb fc) s = .next (if zero then moved else s.advance)) ∧
      (exec (.fcmovne fa fb fc) s = .next (if zero then s.advance else moved)) ∧
      (exec (.fcmovlt fa fb fc) s = .next (if neg ∧ ¬zero then moved else s.advance)) ∧
      (exec (.fcmovge fa fb fc) s = .next (if neg ∧ ¬zero then s.advance else moved)) ∧
      (exec (.fcmovle fa fb fc) s = .next (if neg ∨ zero then moved else s.advance)) ∧
      (exec (.fcmovgt fa fb fc) s = .next (if neg ∨ zero then s.advance else moved)))

/-- MT_FPCR then MF_FPCR: the fields come back, <48:0> as zero and SUM as the OR of the status bits; <51:49> come back as
written or free (10_state.md R63, R64; log entries 5 and 10): that they read zero where zero was written is the spec's decision
D2 (R763; log entry 36). -/
def Obligations.FpcrReadsBack : Prop :=
  ∀ (f g : Reg) (s : State), s.fpEnabled = true →
    ∃ t v k, exec (.mt_fpcr f f f) s = .next t ∧ { t with fpcr := s.fpcr, pc := s.pc } = s ∧ t.pc = s.pc + 4 ∧
      exec (.mf_fpcr g g g) t = .next (({ t with model := k }.writeFreg g v).advance) ∧
      v.toNat % 2 ^ 49 = 0 ∧
      v.toNat / 2 ^ 52 % 2 ^ 11 = (s.readFreg f).toNat / 2 ^ 52 % 2 ^ 11 ∧
      (v.getLsbD 63 = true ↔ (s.readFreg f).toNat / 2 ^ 52 % 2 ^ 6 ≠ 0) ∧
      ((s.readFreg f).toNat / 2 ^ 49 % 2 ^ 3 = 0 → v.toNat / 2 ^ 49 % 2 ^ 3 = 0)

namespace Sys2Proof.Machine

/-- The qualifiers of a floating-point operate, read from its word (44_fp_common.md R740): /U or /V in w<13>, /I in w<14>,
/S in w<15>, and the rounding in w<12:11>. -/
def qualifiersOf (ieeeForm : Bool) (i : Instr) : Qual where
  u := (encode i).getLsbD 13
  i := (encode i).getLsbD 14
  sw := (encode i).getLsbD 15
  rnd := match (encode i).toNat / 2 ^ 11 % 4 with
    | 0 => some .chop
    | 1 => some .minusInf
    | 2 => some (if ieeeForm = true then .nearest else .away)
    | _ => none

/-- The operations of opcodes 15 and 16 by the low six bits of the function code, given the operands' format and the format
and rounding of the result (45_fp_ieee.md section 2, 46_fp_vax.md section 2). -/
def arithmeticOf (n : Nat) : Option FpOp :=
  match n % 16 with
  | 0 => some .add
  | 1 => some .sub
  | 2 => some .mul
  | 3 => some .div
  | _ => none

end Sys2Proof.Machine

/-- Every add, subtract, multiply and divide of opcodes 16 (S and T, operands read as T_floating) and 15 (F and G, operands read
as G_floating), with every qualifier its word encodes, rounds the exact result of its operands; a nonfinite operand is an
invalid operation, and so is an IEEE zero divided by zero; every other division by zero is that exception (log entries 4 and
36). The rounding is `RangeChecksAndEncoding`, the completion `FloatingOperatesComplete`. -/
def Obligations.FloatingArithmeticFollowsItsWord : Prop :=
  ∀ (i : Instr) (s : State) (op : FpOp), i.opcode = 0x16 ∨ i.opcode = 0x15 →
    i.function % 2 ^ 6 < 4 ∨ 0x20 ≤ i.function % 2 ^ 6 ∧ i.function % 2 ^ 6 < 0x24 →
    arithmeticOf (i.function % 2 ^ 6) = some op → s.fpEnabled = true →
    let ieeeForm := decide (i.opcode = 0x16)
    let read (f : Quad) : FpOperand := if i.opcode = 0x16 then readT f else readG f
    let q := qualifiersOf ieeeForm i
    let a := read (s.readFreg (raOf (encode i)))
    let b := read (s.readFreg (rbOf (encode i)))
    let fmt : FpFormat :=
      if i.function % 2 ^ 6 < 4 then (if ieeeForm = true then .s else .f) else (if ieeeForm = true then .t else .g)
    let mode := q.mode s
    let round (x : Exact) : FpResult := roundResult fmt mode (s.ineEnabled q) x
    let zero (x : FpOperand) : Prop := x = .zero false ∨ x = .zero true
    (a = .nonfinite ∨ b = .nonfinite → exec i s = .next (s.finishFp q (rcOf (encode i)) (.free Exc.inv)).advance) ∧
    (a ≠ .nonfinite → b ≠ .nonfinite →
      (op = .add → exec i s = .next (s.finishFp q (rcOf (encode i)) (round (exactAdd mode a b))).advance) ∧
      (op = .sub → exec i s = .next (s.finishFp q (rcOf (encode i)) (round (exactAdd mode a b.negate))).advance) ∧
      (op = .mul → exec i s = .next (s.finishFp q (rcOf (encode i)) (round (exactMul a b))).advance) ∧
      (op = .div → ¬zero b → exec i s = .next (s.finishFp q (rcOf (encode i)) (round (exactDiv a b))).advance) ∧
      (op = .div → zero b → zero a → i.opcode = 0x16 →
        exec i s = .next (s.finishFp q (rcOf (encode i)) (.free Exc.inv)).advance) ∧
      (op = .div → zero b → ¬zero a ∨ i.opcode = 0x15 →
        exec i s = .next (s.finishFp q (rcOf (encode i)) (.free Exc.dze)).advance))

/-- The conversions and compares of opcodes 15 and 16, by function code, with the qualifiers of their words (log
entries 4 and 36). -/
def Obligations.FloatingConversionsFollowTheirWords : Prop :=
  ∀ (i : Instr) (s : State), s.fpEnabled = true →
    let low := i.function % 2 ^ 6
    let fb := s.readFreg (rbOf (encode i))
    let convert (ieeeForm : Bool) (b : FpOperand) (k : Qual → FpResult) : Prop :=
      exec i s = .next (s.finishFp (qualifiersOf ieeeForm i) (rcOf (encode i))
        (if b = .nonfinite then .free Exc.inv else k (qualifiersOf ieeeForm i))).advance
    let round (fmt : FpFormat) (x : Exact) (q : Qual) : FpResult := roundResult fmt (q.mode s) (s.ineEnabled q) x
    let compare (ieeeForm : Bool) (read : Quad → FpOperand) (p : Int → Bool) : Prop :=
      let a := read (s.readFreg (raOf (encode i)))
      let b := read fb
      exec i s = .next (s.finishFp (qualifiersOf ieeeForm i) (rcOf (encode i))
        (if a = .nonfinite ∨ b = .nonfinite then .free Exc.inv
         else .value (if p (compareFp a b) = true then 0x4000000000000000 else 0) 0)).advance
    (i.opcode = 0x16 →
      (low = 0x2C → i.function / 2 ^ 6 % 2 ^ 4 ≠ 10 → convert true (readT fb) (round .s (exactOf (readT fb)))) ∧
      (low = 0x2C → i.function / 2 ^ 6 % 2 ^ 4 = 10 → convert true (readT fb) (fun _ => .value fb 0)) ∧
      (low = 0x2F → convert true (readT fb) (fun q => integerResult (q.mode s) (exactOf (readT fb)))) ∧
      (low = 0x3C → convert true (.zero false) (round .s (exactOfInt fb))) ∧
      (low = 0x3E → convert true (.zero false) (round .t (exactOfInt fb))) ∧
      (low = 0x24 → compare true readT (fun _ => false)) ∧ (low = 0x25 → compare true readT (fun c => c == 0)) ∧
      (low = 0x26 → compare true readT (fun c => decide (c < 0))) ∧
      (low = 0x27 → compare true readT (fun c => decide (c ≤ 0)))) ∧
    (i.opcode = 0x15 →
      (low = 0x1E → convert false (readD fb) (round .g (exactOf (readD fb)))) ∧
      (low = 0x2C → convert false (readG fb) (round .f (exactOf (readG fb)))) ∧
      (low = 0x2D → convert false (readG fb) (round .d (exactOf (readG fb)))) ∧
      (low = 0x2F → convert false (readG fb) (fun q => integerResult (q.mode s) (exactOf (readG fb)))) ∧
      (low = 0x3C → convert false (.zero false) (round .f (exactOfInt fb))) ∧
      (low = 0x3E → convert false (.zero false) (round .g (exactOfInt fb))) ∧
      (low = 0x25 → compare false readG (fun c => c == 0)) ∧
      (low = 0x26 → compare false readG (fun c => decide (c < 0))) ∧
      (low = 0x27 → compare false readG (fun c => decide (c ≤ 0))))

/-- Sums, differences, products and quotients are computed exactly, comparisons are those of the values, and an exact zero has
the sign of R747 (general knowledge, log entry 4): the common one of two zeros of like sign, otherwise minus only under rounding
toward minus infinity for a sum; the exclusive or for products and quotients; that of the operand for a conversion. -/
def Obligations.ExactResultsAreExact : Prop :=
  ∀ (mode : Rounding) (a b : FpOperand), a ≠ .nonfinite → b ≠ .nonfinite →
    (exactAdd mode a b).rational = a.rational + b.rational ∧
      (exactAdd mode a b.negate).rational = a.rational - b.rational ∧
      (exactMul a b).rational = a.rational * b.rational ∧
      (b.rational ≠ 0 → (exactDiv a b).rational = a.rational / b.rational) ∧
      (exactOf a).rational = a.rational ∧
      (compareFp a b < 0 ↔ a.rational < b.rational) ∧ (compareFp a b = 0 ↔ a.rational = b.rational) ∧
      (a.rational + b.rational = 0 → (exactAdd mode a b).num = 0 ∧ (exactAdd mode a b).neg =
        if a.rational = 0 ∧ a.negative = b.negative then a.negative else decide (mode = .minusInf)) ∧
      b.negate.negative = !b.negative ∧
      (exactMul a b).neg = (a.negative != b.negative) ∧ (exactDiv a b).neg = (a.negative != b.negative) ∧
      (exactOf a).neg = a.negative ∧
      ∀ v : Quad, (exactOfInt v).rational = v.toInt ∧ (v = 0 → (exactOfInt v).neg = false)

/-- Rounding to p bits (R741, whose tie rules are general knowledge, log entry 4): the result has p bits, `inexact` says whether
it differs from the exact number, and among all numbers of p bits it is the one its mode asks for: chopped, toward minus or plus
infinity, nearest with ties to even, or nearest with ties away from zero. -/
def Obligations.RoundingFollowsItsMode : Prop :=
  ∀ (p : Nat) (mode : Rounding) (x : Exact), 2 ≤ p → x.num ≠ 0 → x.den ≠ 0 →
    let r := roundTo p mode x
    let down := r.magnitude ≤ x.magnitude ∧ ∀ y, representable p y → y ≤ x.magnitude → y ≤ r.magnitude
    let up := x.magnitude ≤ r.magnitude ∧ ∀ y, representable p y → x.magnitude ≤ y → r.magnitude ≤ y
    let near := ∀ y, representable p y → |r.magnitude - x.magnitude| ≤ |y - x.magnitude|
    let tied (y : ℚ) := representable p y ∧ y ≠ r.magnitude ∧ |y - x.magnitude| = |r.magnitude - x.magnitude|
    2 ^ (p - 1) ≤ r.sig ∧ r.sig < 2 ^ p ∧ (r.inexact = true ↔ r.magnitude ≠ x.magnitude) ∧
      match mode with
      | .chop => down
      | .minusInf => if x.neg = true then up else down
      | .plusInf => if x.neg = true then down else up
      | .nearest => near ∧ ((∃ y, tied y) → r.sig % 2 = 0)
      | .away => near ∧ ∀ y, tied y → y < r.magnitude

/-- A rounded result that the format cannot hold is an overflow or an underflow, by the limits of R747 (general knowledge, log
entry 4), and otherwise the encoding written has the rounded value: read back in its format (S as T, F as G) it is that number.
The value written on an overflow is free; INE is recorded with the trap as log entry 36 says. An exact zero is written as such,
with its sign in the IEEE formats. A conversion to a quadword rounds to an integer in its mode and writes its low 64 bits: IOV
and INE outside the range, otherwise INE when it differs (R746 step 4, R747). -/
def Obligations.RangeChecksAndEncoding : Prop :=
  (∀ (fmt : FpFormat) (mode : Rounding) (ineEn : Bool) (x : Exact), x.num ≠ 0 → x.den ≠ 0 →
    let r := roundTo fmt.precision mode x
    let extra := if ineEn = true then Exc.ine else 0
    let back (v : Quad) : FpOperand := match fmt with
      | .s => readT v
      | .t => readT v
      | .f => readG v
      | .g => readG v
      | .d => readD v
    ((2 : ℚ) ^ fmt.overflowExp ≤ r.magnitude → roundResult fmt mode ineEn x = .free (Exc.ovf ||| extra)) ∧
      (r.magnitude < (2 : ℚ) ^ fmt.underflowExp → roundResult fmt mode ineEn x = .value 0 (Exc.unf ||| extra)) ∧
      (r.magnitude < (2 : ℚ) ^ fmt.overflowExp → (2 : ℚ) ^ fmt.underflowExp ≤ r.magnitude →
        ∃ v, roundResult fmt mode ineEn x = .value v (if r.inexact = true then Exc.ine else 0) ∧
          back v ≠ .nonfinite ∧ (back v).rational = (if x.neg = true then -1 else 1) * r.magnitude)) ∧
  (∀ (fmt : FpFormat) (mode : Rounding) (ineEn : Bool) (x : Exact), x.num = 0 →
    roundResult fmt mode ineEn x =
      .value (if x.neg = true ∧ (fmt = .s ∨ fmt = .t) then 0x8000000000000000 else 0) 0) ∧
  (∀ (mode : Rounding) (x : Exact), x.den ≠ 0 → ∃ z : Int,
    integerResult mode x = .value (BitVec.ofInt 64 z)
      (if z < -2 ^ 63 ∨ 2 ^ 63 ≤ z then Exc.iov ||| Exc.ine else if (z : ℚ) = x.rational then 0 else Exc.ine) ∧
    let near := |(z : ℚ) - x.rational| ≤ 1 / 2
    let tied := |(z : ℚ) - x.rational| = 1 / 2
    match mode with
    | .chop => z = if 0 ≤ x.rational then ⌊x.rational⌋ else ⌈x.rational⌉
    | .minusInf => z = ⌊x.rational⌋
    | .plusInf => z = ⌈x.rational⌉
    | .nearest => near ∧ (tied → z % 2 = 0)
    | .away => near ∧ (tied → |x.rational| < |(z : ℚ)|))

/-- Every floating-point operate (opcodes 15, 16, 17), with floating point enabled, completes; it changes at most its
destination F[Fc], the FPCR, the exception registers and the owed ARITH entry; and but for MT_FPCR it only sets status bits of
the FPCR. Completion (R742, R746 steps 5 to 7): the FPCR records every exception of the result; the traps enabled are INV, DZE
and OVF always, UNF by /U unless FPCR<UNFD> and <UNDZ> are set and the instruction has /S, INE by /I unless FPCR<INED> is set,
IOV by /V; an enabled one sets its bit of EXC_SUM, the bit of Fc in EXC_MASK and an owed ARITH entry, and EXC_SUM<SWC> by /S,
unless a trap without /S has come (R136); the destination receives the result or a free value. /D takes the rounding mode of
FPCR<DYN_RM> (R741). Which qualifier bit enables which trap is general knowledge (log entry 4); the rest that the spec decides
is log entry 36. -/
def Obligations.FloatingOperatesComplete : Prop :=
  (∀ (q : Qual) (s : State), s.ineEnabled q = (q.i && !s.fpcr.getLsbD 13) ∧
    q.mode s = match q.rnd, s.fpcr.toNat / 2 ^ 9 % 4 with
      | some m, _ => m
      | none, 0 => .chop
      | none, 1 => .minusInf
      | none, 2 => .nearest
      | none, _ => .plusInf) ∧
  (∀ (q : Qual) (fc : Reg) (r : FpResult) (s : State),
    let result : Quad × Exc := match r with
      | .value v e => (v, e)
      | .free e => (s.drawValue, e)
    let e := result.2
    let enabled : List Bool :=
      [true, true, true, q.u && !(s.fpcr.getLsbD 12 && s.fpcr.getLsbD 11 && q.sw), q.i && !s.fpcr.getLsbD 13, q.u]
    let traps (k : Nat) : Bool := e.getLsbD k && enabled.getD k false
    let t := s.finishFp q fc r
    t.fregs = (s.writeFreg fc result.1).fregs ∧
    (∀ k < 14, t.fpcr.getLsbD k = (s.fpcr.getLsbD k || decide (3 ≤ k) && e.getLsbD (k - 3))) ∧
    ((∀ k < 6, traps k = false) → t.idu = s.idu ∧ t.arithPending = s.arithPending) ∧
    (∀ k < 6, traps k = true → t.arithPending = true ∧
      (∀ j < 6, t.idu.excSum.getLsbD (j + 1) = (s.idu.excSum.getLsbD (j + 1) || traps j)) ∧
      t.idu.excSum.getLsbD 0 = (q.sw && (s.idu.excSum.getLsbD 0 || !s.idu.swcKilled)) ∧
      t.idu.swcKilled = (s.idu.swcKilled || !q.sw) ∧ t.idu.excMaskFp = s.idu.excMaskFp ||| 1 <<< fc.toNat)) ∧
  (∀ (i : Instr) (s : State), i.wf = true → i.opcode ∈ [0x15, 0x16, 0x17] → s.fpEnabled = true →
    ∃ t, exec i s = .next t ∧ t.pc = s.pc + 4 ∧
      (∀ r : Reg, r ≠ rcOf (encode i) → t.readFreg r = s.readFreg r) ∧
      { t with
        pc := s.pc
        fregs := s.fregs
        fpcr := s.fpcr
        arithPending := s.arithPending
        idu := { t.idu with
          excSum := s.idu.excSum
          swcKilled := s.idu.swcKilled
          excMaskFp := s.idu.excMaskFp }
        model := s.model } = s ∧
      ((∀ a b c, i ≠ .mt_fpcr a b c) → t.fpcr &&& s.fpcr = s.fpcr ∧ t.fpcr &&& ~~~0x1F8 = s.fpcr &&& ~~~0x1F8))

/-- CVTQL in its three forms: the low longword in register form; an overflow sets FPCR<IOV> and <INE>, and traps with /V
(44_fp_common.md R736, R764 to R766; the operation is general knowledge, log entry 4). The trap is `FloatingOperatesComplete`.
-/
def Obligations.QuadwordToLongword : Prop :=
  ∀ (fb fc : Reg) (s : State), s.fpEnabled = true →
    let n := (s.readFreg fb).toNat
    let v := BitVec.ofNat 64 (n / 2 ^ 30 % 4 * 2 ^ 62 + n % 2 ^ 30 * 2 ^ 29)
    let fits := -2 ^ 31 ≤ (s.readFreg fb).toInt ∧ (s.readFreg fb).toInt < 2 ^ 31
    let flagged := { s with fpcr := s.fpcr ||| 0x180 }
    (fits → ∀ i ∈ [Instr.cvtql fb fc, Instr.cvtql_v fb fc, Instr.cvtql_sv fb fc],
      exec i s = .next ((s.writeFreg fc v).advance)) ∧
    (¬fits →
      exec (.cvtql fb fc) s = .next ((flagged.writeFreg fc v).advance) ∧
      (∀ p ∈ [(Instr.cvtql_v fb fc, false), (Instr.cvtql_sv fb fc, true)],
        exec p.1 s = .next ({ flagged.writeFreg fc v with
          idu := { s.idu with
            excSum := if p.2 = true then s.idu.excSum ||| 0x40 ||| (if s.idu.swcKilled = true then 0 else 1)
              else (s.idu.excSum ||| 0x40) &&& 0x7E
            swcKilled := s.idu.swcKilled || !p.2
            excMaskFp := s.idu.excMaskFp ||| 1 <<< fc.toNat }
          arithPending := true }.advance)))

/-! ## Exceptions, interrupts, events from outside -/

namespace Sys2Proof.Machine

/-- The function codes that name instructions (30_encoding.md R461 to R473; Tables A-5 to A-8), by opcode: w<11:5> for the
integer operates, w<15:5> for the floating-point ones, w<15:0> for opcode 18. -/
def functionCodes (opcode : Nat) : List Nat :=
  match opcode with
  | 0x10 => [0x00, 0x02, 0x09, 0x0B, 0x0F, 0x12, 0x1B, 0x1D, 0x20, 0x22, 0x29, 0x2B, 0x2D, 0x32, 0x3B, 0x3D, 0x40,
      0x49, 0x4D, 0x60, 0x69, 0x6D]
  | 0x11 => [0x00, 0x08, 0x14, 0x16, 0x20, 0x24, 0x26, 0x28, 0x40, 0x44, 0x46, 0x48, 0x61, 0x64, 0x66, 0x6C]
  | 0x12 => [0x02, 0x06, 0x0B, 0x12, 0x16, 0x1B, 0x22, 0x26, 0x2B, 0x30, 0x31, 0x32, 0x34, 0x36, 0x39, 0x3B, 0x3C,
      0x52, 0x57, 0x5A, 0x62, 0x67, 0x6A, 0x72, 0x77, 0x7A]
  | 0x13 => [0x00, 0x20, 0x30, 0x40, 0x60]
  | 0x15 => [0x000, 0x001, 0x002, 0x003, 0x01E, 0x020, 0x021, 0x022, 0x023, 0x02C, 0x02D, 0x02F, 0x03C, 0x03E, 0x080,
      0x081, 0x082, 0x083, 0x09E, 0x0A0, 0x0A1, 0x0A2, 0x0A3, 0x0A5, 0x0A6, 0x0A7, 0x0AC, 0x0AD, 0x0AF, 0x0BC, 0x0BE,
      0x100, 0x101, 0x102, 0x103, 0x11E, 0x120, 0x121, 0x122, 0x123, 0x12C, 0x12D, 0x12F, 0x180, 0x181, 0x182, 0x183,
      0x19E, 0x1A0, 0x1A1, 0x1A2, 0x1A3, 0x1AC, 0x1AD, 0x1AF, 0x400, 0x401, 0x402, 0x403, 0x41E, 0x420, 0x421, 0x422,
      0x423, 0x42C, 0x42D, 0x42F, 0x480, 0x481, 0x482, 0x483, 0x49E, 0x4A0, 0x4A1, 0x4A2, 0x4A3, 0x4A5, 0x4A6, 0x4A7,
      0x4AC, 0x4AD, 0x4AF, 0x500, 0x501, 0x502, 0x503, 0x51E, 0x520, 0x521, 0x522, 0x523, 0x52C, 0x52D, 0x52F, 0x580,
      0x581, 0x582, 0x583, 0x59E, 0x5A0, 0x5A1, 0x5A2, 0x5A3, 0x5AC, 0x5AD, 0x5AF]
  | 0x16 => [0x000, 0x001, 0x002, 0x003, 0x020, 0x021, 0x022, 0x023, 0x02C, 0x02F, 0x03C, 0x03E, 0x040, 0x041, 0x042,
      0x043, 0x060, 0x061, 0x062, 0x063, 0x06C, 0x06F, 0x07C, 0x07E, 0x080, 0x081, 0x082, 0x083, 0x0A0, 0x0A1, 0x0A2,
      0x0A3, 0x0A4, 0x0A5, 0x0A6, 0x0A7, 0x0AC, 0x0AF, 0x0BC, 0x0BE, 0x0C0, 0x0C1, 0x0C2, 0x0C3, 0x0E0, 0x0E1, 0x0E2,
      0x0E3, 0x0EC, 0x0EF, 0x0FC, 0x0FE, 0x100, 0x101, 0x102, 0x103, 0x120, 0x121, 0x122, 0x123, 0x12C, 0x12F, 0x140,
      0x141, 0x142, 0x143, 0x160, 0x161, 0x162, 0x163, 0x16C, 0x16F, 0x180, 0x181, 0x182, 0x183, 0x1A0, 0x1A1, 0x1A2,
      0x1A3, 0x1AC, 0x1AF, 0x1C0, 0x1C1, 0x1C2, 0x1C3, 0x1E0, 0x1E1, 0x1E2, 0x1E3, 0x1EC, 0x1EF, 0x2AC, 0x500, 0x501,
      0x502, 0x503, 0x520, 0x521, 0x522, 0x523, 0x52C, 0x52F, 0x540, 0x541, 0x542, 0x543, 0x560, 0x561, 0x562, 0x563,
      0x56C, 0x56F, 0x580, 0x581, 0x582, 0x583, 0x5A0, 0x5A1, 0x5A2, 0x5A3, 0x5A4, 0x5A5, 0x5A6, 0x5A7, 0x5AC, 0x5AF,
      0x5C0, 0x5C1, 0x5C2, 0x5C3, 0x5E0, 0x5E1, 0x5E2, 0x5E3, 0x5EC, 0x5EF, 0x6AC, 0x700, 0x701, 0x702, 0x703, 0x720,
      0x721, 0x722, 0x723, 0x72C, 0x72F, 0x73C, 0x73E, 0x740, 0x741, 0x742, 0x743, 0x760, 0x761, 0x762, 0x763, 0x76C,
      0x76F, 0x77C, 0x77E, 0x780, 0x781, 0x782, 0x783, 0x7A0, 0x7A1, 0x7A2, 0x7A3, 0x7AC, 0x7AF, 0x7BC, 0x7BE, 0x7C0,
      0x7C1, 0x7C2, 0x7C3, 0x7E0, 0x7E1, 0x7E2, 0x7E3, 0x7EC, 0x7EF, 0x7FC, 0x7FE]
  | 0x17 => [0x010, 0x020, 0x021, 0x022, 0x024, 0x025, 0x02A, 0x02B, 0x02C, 0x02D, 0x02E, 0x02F, 0x030, 0x130, 0x530]
  | 0x18 => [0x0000, 0x0400, 0x4000, 0x4400, 0x8000, 0xA000, 0xC000, 0xE000, 0xF000]
  | 0x1C => [0x00, 0x01]
  | _ => []

/-- The function code of a word of one of these opcodes. -/
def functionOf (w : Long) : Nat :=
  let op := w.toNat / 2 ^ 26
  if op = 0x18 then w.toNat % 2 ^ 16 else if op ∈ [0x15, 0x16, 0x17] then w.toNat / 2 ^ 5 % 2 ^ 11 else w.toNat / 2 ^ 5 % 2 ^ 7

end Sys2Proof.Machine

/-- Disabled instructions raise their exception, precisely: floating point off is FEN for the floating-point operates, loads,
stores and branches; the byte/word extension off is OPCDEC for its six instructions; so are the PALcode-only opcodes where they
are not allowed (60_exceptions.md R972 a, R973 b and c). So it is for words that name no instruction: with floating point off
every word of opcodes 15, 16 and 17 is FEN (30_encoding.md R475 a), with it on still every word of opcode 16 with SRC = 01 (R972
b), and with the extension off every word of opcode 1C is OPCDEC (R480). Otherwise a function code that no table lists, and
HW_REI with TYP 00 or 01, stop (R475, R483; the spec's decision D17, log entry 31). That an owed ARITH entry takes the place
(R971 c) is the spec's decision D25 (log entry 22). -/
def Obligations.DisabledInstructionsRaise : Prop :=
  (∀ (i : Instr) (s : State),
    (i.opcode ∈ [0x15, 0x16, 0x17, 0x20, 0x21, 0x22, 0x23, 0x24, 0x25, 0x26, 0x27, 0x31, 0x32, 0x33, 0x35, 0x36, 0x37] →
      s.fpEnabled = false → raises i s .fen 0x580) ∧
    (i.opcode ∈ [0x0A, 0x0C, 0x0D, 0x0E, 0x1C] → s.byteWordEnabled = false → raises i s .opcdec 0x480) ∧
    (i.opcode ∈ [0x19, 0x1B, 0x1D, 0x1E, 0x1F] →
      s.pc.toNat % 2 = 0 → (s.idu.icsr.getLsbD 27 = false ∨ s.idu.icm ≠ 0) → raises i s .opcdec 0x480)) ∧
  (∀ (w : Long) (s : State),
    let op := w.toNat / 2 ^ 26
    (op ∈ [0x15, 0x16, 0x17] → s.fpEnabled = false → wordRaises w s .fen 0x580) ∧
    (op = 0x16 → w.toNat / 2 ^ 9 % 4 = 1 → wordRaises w s .fen 0x580) ∧
    (op = 0x1C → s.byteWordEnabled = false → wordRaises w s .opcdec 0x480) ∧
    (op ∈ [0x10, 0x11, 0x12, 0x13, 0x15, 0x16, 0x17, 0x18, 0x1C] ∧ functionOf w ∉ functionCodes op ∨
        op = 0x1E ∧ w.toNat / 2 ^ 14 % 4 < 2 →
      (op ∈ [0x15, 0x16, 0x17] → s.fpEnabled = true) → (op = 0x16 → w.toNat / 2 ^ 9 % 4 ≠ 1) →
      (op = 0x1C → s.byteWordEnabled = true) → (op = 0x1E → s.palOpcodeAllowed = true) →
      execDecoded w (decode w) s = .refused .unusedFunctionCode))

/-- Interrupt requests. One is deliverable in native mode exactly when INTID is above IPLR, or for halt and the serial line;
in PALmode never. INTID is the highest target IPL of a pending source, 0 when there is none: software requests SIRR, ASTs at 2,
irq_h at 20 to 23 where ICSR does not mask them, performance counters at 29 (a latched request with ICSR<PME> not 00 and
PMCTR<CTLn> 10 or 11), power fail at 30, machine check and corrected
errors at 31. An AST requests when for some mode its request and its enable are set and the current mode is that mode or a
less privileged one (R985 to R988; INTID with nothing pending is the spec's decision D8, log entry 36). -/
def Obligations.InterruptRequests : Prop :=
  (∀ s : State, s.interruptDeliverable = true ↔
    s.pc.toNat % 2 = 0 ∧ (s.idu.iplr.toNat < s.intid.toNat ∨ s.pins.halt = true ∨
      s.idu.sliRequest = true ∧ s.idu.icsr.getLsbD 33 = true)) ∧
  (∀ s : State,
    let pending (n : Nat) : Prop :=
      (1 ≤ n ∧ n ≤ 15 ∧ s.idu.sirr.getLsbD (n - 1) = true) ∨
      (n = 2 ∧ s.idu.astPending = true) ∨
      (20 ≤ n ∧ n ≤ 23 ∧ s.pins.irq.getLsbD (n - 20) = true ∧ s.idu.icsr.getLsbD n = false) ∨
      (n = 29 ∧ s.idu.icsr.toNat / 2 ^ 8 % 4 ≠ 0 ∧
        ∃ k < 3, s.idu.pcRequests.getLsbD k = true ∧ s.idu.pmctr.toNat / 2 ^ (14 - 2 * k) % 4 ∈ [2, 3]) ∨
      (n = 30 ∧ s.pins.powerFail = true) ∨
      (n = 31 ∧ (s.pins.machineCheck = true ∨ s.idu.crdRequest = true ∧ s.idu.icsr.getLsbD 32 = true))
    (∀ n, pending n → n ≤ s.intid.toNat) ∧ (s.intid ≠ 0 → pending s.intid.toNat)) ∧
  (∀ i : Idu, i.astPending = true ↔
    ∃ m : Nat, m < 4 ∧ i.astrr.getLsbD (3 - m) = true ∧ i.aster.getLsbD (3 - m) = true ∧ m ≤ i.icm.toNat)

/-- Taking an interrupt: with no event to come, no machine check and no ARITH entry owed, no translation that is still changing
and no access violation on the fetch, a deliverable interrupt that may no longer be postponed (log entry 20) is taken before the
instruction at pc; nothing is acknowledged or changed but by the entry sequence (R951, R961, R986). While
MAF_MODE<MAF_ARB_DISABLE> holds the loads that it waits for, the state stays as it is (12_state_mtu_iprs.md R207; 71_timing.md
R1178). HW_MTPR DTB_IS in the shadow of the entry, in native code with ICSR<HWE>, is a broken restriction
(70_reset_and_hazards.md R1112, R1116). -/
def Obligations.InterruptsAreTaken : Prop :=
  ∀ s : State, s.memsys.caches.posted = [] → s.model.inbox = [] → s.machineChecks = [] → s.arithPending = false →
    s.model.former = [] → s.interruptDeliverable = true →
    (∀ form, s.translateFetch (s.pc &&& ~~~3) ≠ .iaccvio form) → Config.interruptBound ≤ s.model.postponed →
    let held := s.mtu.mafMode.getLsbD 5 = true ∧ ∃ e ∈ s.memsys.maf, e.waits = true ∧ e.slot.discards = false
    (s.entryShadow = true → step s = .refused .palcodeRestriction) ∧
      (s.entryShadow = false → held → step s = .next s.begin) ∧
      (s.entryShadow = false → (∀ e ∈ s.memsys.maf, e.waits = false) →
        ∃ t, step s = .next t ∧ { t with model := s.model } = { enteredAt .interrupt 0x100 s.quiet with model := s.model })

/-- A native-mode fetch that fails translation: the access violation and the miss are taken at the instruction, which is not
executed; ITB_TAG receives the page and IFAULT_VA_FORM the page table entry's address, but not for a bad address (R963, R964;
11_state_idu_iprs.md R120, R128); two different entries that map the address stop (20_memory.md R313). No translation is still
changing (20_memory.md R330), and the CBU has accepted every load that the entry waits for (71_timing.md R1178). -/
def Obligations.FetchFaultsAreTaken : Prop :=
  ∀ s : State, s.memsys.caches.posted = [] → s.model.inbox = [] → s.machineChecks = [] → s.arithPending = false →
    s.model.former = [] → (∀ e ∈ s.memsys.maf, e.waits = false) →
    s.palmode = false → s.interruptDeliverable = false →
    let at_ (e : Entry) (offset : Nat) (form : Quad) : Prop :=
      ∃ t, step s = .next t ∧ { t with model := s.model } =
        { enteredAt e offset { s.quiet with idu := { s.idu with
            itbTag := BitVec.ofNat 30 (s.pc.toNat / 2 ^ 13)
            ifaultVaForm := form } } with model := s.model }
    let pteAddress := vaFormNumber s.idu.ivptbr (s.idu.icsr.getLsbD 28) s.pc
    (s.translateFetch (s.pc &&& ~~~3) = .itbmiss → at_ .itbmiss 0x180 pteAddress) ∧
      (s.translateFetch (s.pc &&& ~~~3) = .multiple → step s = .fault .multipleTbMatch) ∧
      (s.entryShadow = false →
        (s.translateFetch (s.pc &&& ~~~3) = .iaccvio true → at_ .iaccvio 0x80 pteAddress) ∧
        (s.translateFetch (s.pc &&& ~~~3) = .iaccvio false → at_ .iaccvio 0x80 s.idu.ifaultVaForm))

namespace Sys2Proof.Machine

/-- addr_h<39:4>, cmd_h and addr_cmd_par_h have odd parity (21_external_interface.md R433). -/
def oddParity (code : BitVec 4) (a : PAddr) (parity : Bool) : Prop :=
  (((Finset.range 40).filter fun k => 4 ≤ k ∧ a.getLsbD k = true).card +
    ((Finset.range 4).filter fun k => code.getLsbD k = true).card + parity.toNat) % 2 = 1

end Sys2Proof.Machine

/-- Other agents. With good parity and no force-hit change under way: FLUSH, INVALIDATE and READ DIRTY/INVALIDATE remove the
block from the Scache and clear the lock flag if it is the locked block, and touch no register; but for INVALIDATE, which loses
what this processor had modified, they leave memory as it reads (of what the Bcache gives wrong beyond correction nothing is
known then, log entry 13). READ changes nothing but the answer and what the probes leave to be seen: in the Scache or the lock
register (addr_res_h<2>), dirty in the Scache, dirty in the Bcache, or neither. SET SHARED and READ DIRTY make the block shared.
NOP changes nothing, and a code without a meaning stops. A write of another agent to addresses that no store waits for changes
the bytes it names, clears the lock if one of them is in its block and touches no register (20_memory.md R292, R352 b;
21_external_interface.md R415, R416, R418, R421). That such a write acts as FLUSH does is log entry 28; what Tables 4-11 and
4-15 do not list, READ DIRTY of a clean block and READ of one clean in the Scache and dirty in the Bcache, is log entry 39. -/
def Obligations.OtherAgentsClearTheLock : Prop :=
  (∀ (code : BitVec 4) (a : PAddr) (parity : Bool) (s : State), s.model.cbuQuiet = false → s.model.deaf = false →
    oddParity code a parity →
    let block := if s.cbu.scCtl.getLsbD 12 = true then 64 else 32
    let locked := a.toNat / block = s.lockPa.toNat / block
    let command := handleEvent (.systemCommand code a parity) s
    let status := if s.dirtyInScache a = true then 2 else if s.dirtyInBcache a = true then 3 else 1
    (code = 0 → command = .next s) ∧
    (code = 1 ∨ code = 2 ∨ code = 7 → ∃ t, command = .next t ∧ t.inScache a = false ∧
      t.lockFlag = (s.lockFlag && !decide locked) ∧
      { t with lockFlag := s.lockFlag, mem := s.mem, memsys := s.memsys, model := s.model } = s ∧
      (code ≠ 2 → t.mem = s.mem ∧ t.model = s.model)) ∧
    (code = 4 → ∃ t, command = .next t ∧
      t.memsys.caches.bus.response.toNat = (if s.inScache a = true ∨ locked then 4 else 0) + status ∧
      { t with memsys := { t.memsys with caches := { t.memsys.caches with
        bus := s.memsys.caches.bus
        driven := s.memsys.caches.driven
        posted := s.memsys.caches.posted
        scSeen := s.memsys.caches.scSeen
        bcSeen := s.memsys.caches.bcSeen } } } = s) ∧
    (code = 3 ∨ code = 5 → ∃ t, command = .next t ∧ { t with memsys := s.memsys } = s ∧ t.inScache a = s.inScache a ∧
      ∀ l ∈ t.memsys.caches.scache, l.holds s.cacheCfg a.toNat = true → (l.sub a.toNat).shared = true) ∧
    (code = 6 ∨ 8 ≤ code.toNat → command = .refused .systemCommand)) ∧
  (∀ (a : PAddr) (bytes : List Byte) (s : State), a.toNat + bytes.length ≤ 0xFFFFF00000 → s.memsys.wb = [] →
    s.model.cbuQuiet = false → Memory.wf s.mem = true →
    let block := if s.cbu.scCtl.getLsbD 12 = true then 64 else 32
    ∃ t, handleEvent (.busWrite a bytes) s = .next t ∧
      { t with mem := s.mem, lockFlag := s.lockFlag, memsys := s.memsys, model := s.model } = s ∧
      (t.lockFlag = true ↔
        s.lockFlag = true ∧ ∀ k < bytes.length, (a.toNat + k) / block ≠ s.lockPa.toNat / block) ∧
      ∀ x, Memory.byte t.mem x =
        if a.toNat ≤ x ∧ x < a.toNat + bytes.length then bytes.getD (x - a.toNat) 0 else Memory.byte s.mem x)

/-- Machine checks and the chip reset. One that fill_error_h reports is owed and records nothing (R974; 61_errors.md R1050): a
waiting load receives the data that the system drives, and so does the block in the Scache, as memory shows, but for what older
stores give the load, and what stores have written in the block since the fill; nothing else changes; but between a store to a
CBU control register and its MB there is none for a cacheable instruction (log entry 25). An owed machine check that comes
before the next instruction, or may no longer be postponed (log entry 43), is entered at offset 400 hex, in PALmode too; an owed
ARITH entry is taken in its place (R971 c, the spec's decision D25, log entry 22). A chip reset from any state gives the reset
registers again, but for the PALtemps, the cycle counter, VA and MM_STAT and the error registers that a reset does not clear
(10_state.md R67, R69; 12_state_mtu_iprs.md R190, R195; 13_state_cbu_iprs.md R246, R248, R260, R262, R267), and without modified
data of this processor memory stays as it reads; that the registers for which the spec gives no reset value, R0 to R30 and F0 to
F30 among them, are zero then is the model's choice (log entry 1). -/
def Obligations.MachineCheckAndReset : Prop :=
  ∀ s : State,
    (∀ (istream : Bool) (a : PAddr) (data : BitVec 128), inCbu a = false →
      (istream = true → a.toNat < 2 ^ 39 → s.model.cbuQuiet = false) →
      ∃ t, handleEvent (.fillError istream a data) s = .next t ∧
        { t with
          regs := s.regs, shadow := s.shadow, fregs := s.fregs, mem := s.mem, memsys := s.memsys, model := s.model } =
          { s with machineChecks := s.machineChecks ++ [istream] } ∧
        ((istream = true ∨ s.memsys.maf = []) → t.regs = s.regs ∧ t.shadow = s.shadow ∧ t.fregs = s.fregs) ∧
        (s.memsys.wb = [] → Memory.wf s.mem = true → ∀ x, Memory.byte t.mem x =
          if a.toNat < 2 ^ 39 ∧ s.inScache a = true ∧ x / 16 = a.toNat / 16 ∧
            s.memsys.caches.storedByte s.cacheCfg x = false then BitVec.ofNat 8 (data.toNat / 2 ^ (8 * (x % 16)))
          else Memory.byte s.mem x) ∧
        (∀ (e : MafEntry) (r : Reg), istream = false → s.memsys.maf = [e] → e.waits = false → e.slot = .int r → r ≠ 31 →
          e.own = 0 → e.addr = a → e.opcode = 0x29 → e.size = 8 →
          t.regs.get r.toFin = BitVec.ofNat 64 (data.toNat / 2 ^ (8 * (a.toNat % 16))))) ∧
    (s.memsys.caches.posted = [] → s.model.inbox = [] → s.entryShadow = false →
      (true ∈ s.machineChecks ∨ s.machineChecks ≠ [] ∧ Config.machineCheckBound ≤ s.model.checkWaited) →
      (s.arithPending = false → ∃ t, step s = .next t ∧ { t with model := s.model } =
        { enteredAt .mchk 0x400 { s.quiet with machineChecks := s.machineChecks.erase (decide (true ∈ s.machineChecks)) } with
          model := s.model }) ∧
      (s.arithPending = true → (∀ e ∈ s.memsys.maf, e.waits = false) →
        ∃ t, step s = .next t ∧ { t with model := s.model } =
          { enteredAt .arith 0x500 { s.quiet with arithPending := false } with model := s.model })) ∧
    ∃ t, handleEvent (.chipReset []) s = .next t ∧
      { t with
        mem := []
        pins := State.reset.pins
        model := Model.reset
        idu := { t.idu with palTemp := Idu.reset.palTemp }
        mtu := { t.mtu with va := 0, mmStat := 0, mmLock := false, ccOffset := 0, ccCount := 0, dcPerrStat := 0 }
        cbu := { t.cbu with
          scStat := 0
          scLocked := false
          scAddr := 0
          bcTagAddr := 0
          bcTagLocked := false
          eiStat := 0
          eiLocked := false
          eiAddr := 0
          fillSyn := 0 }
        memsys := { t.memsys with caches := { t.memsys.caches with
          fills := 0
          dcacheFills := 0
          driven := 0
          poisoned := []
          scSeen := some 0
          bcSeen := some 0 } } } = State.reset ∧
      t.idu.palTemp = s.idu.palTemp ∧ t.mtu.va = s.mtu.va ∧ t.mtu.mmStat = s.mtu.mmStat ∧ t.mtu.mmLock = s.mtu.mmLock ∧
      t.mtu.ccOffset = s.mtu.ccOffset ∧ t.mtu.ccCount = s.mtu.ccCount ∧ t.mtu.dcPerrStat = s.mtu.dcPerrStat ∧
      { t.cbu with scCtl := s.cbu.scCtl, bcControl := s.cbu.bcControl, bcConfig := s.cbu.bcConfig } = s.cbu ∧
      (s.memsys.wb = [] → s.memsys.caches.underScache = [] → s.memsys.caches.underBcache = [] → t.mem = s.mem)

namespace Sys2Proof.Machine

/-- Table 5-35: FILL_SYN for a single wrong data bit 0 to 63 of a quadword (13_state_cbu_iprs.md R268). -/
def fillSyndromes : List Nat :=
  [0xCE, 0xCB, 0xD3, 0xD5, 0xD6, 0xD9, 0xDA, 0xDC, 0x23, 0x25, 0x26, 0x29, 0x2A, 0x2C, 0x31, 0x34, 0x0E, 0x0B, 0x13, 0x15,
   0x16, 0x19, 0x1A, 0x1C, 0xE3, 0xE5, 0xE6, 0xE9, 0xEA, 0xEC, 0xF1, 0xF4, 0x4F, 0x4A, 0x52, 0x54, 0x57, 0x58, 0x5B, 0x5D,
   0xA2, 0xA4, 0xA7, 0xA8, 0xAB, 0xAD, 0xB0, 0xB5, 0x8F, 0x8A, 0x92, 0x94, 0x97, 0x98, 0x9B, 0x9D, 0x62, 0x64, 0x67, 0x68,
   0x6B, 0x6D, 0x70, 0x75]

end Sys2Proof.Machine

/-- Errors are recorded, and the machine check is owed. An Icache parity error goes to ICPERR_STAT, which keeps its first error.
With ECC, one wrong data bit of an octaword of fill data is a correctable error with the syndrome that Table 5-35 gives for it,
one wrong check bit with that bit: it requests its interrupt, enters nothing, and is recorded when no error is. Two wrong data
bits of one quadword are an uncorrectable error: EI_STAT, EI_ADDR and FILL_SYN, which are locked. With byte parity one wrong bit
is uncorrectable. A system command with bad parity is not acknowledged (10_state.md R77; 13_state_cbu_iprs.md R263, R267, R268;
21_external_interface.md R430, R431; 61_errors.md R1032, R1040, R1052, R1070). That BC_TAG_ADDR is locked for noncacheable fills
too is log entry 27. -/
def Obligations.ErrorsAreRecorded : Prop :=
  ∀ s : State,
    (∀ tag : Bool, handleEvent (.icacheParity tag) s = .next
      { s with
        idu := { s.idu with icperrStat :=
          if s.idu.icperrStat &&& 3 = 0 then s.idu.icperrStat ||| (if tag = true then 2 else 1) else s.idu.icperrStat }
        machineChecks := s.machineChecks ++ [true] }) ∧
    (s.cbu.bcControl.getLsbD 15 = false → s.model.cbuQuiet = false → ∀ (system istream : Bool) (a : PAddr), inCbu a = false →
      (system = true ∨ s.cbu.bcOn = true ∧ a.toNat < 2 ^ 39) →
      let source : BitVec 8 := (if system = true then 4 else 0) ||| (if istream = true then 0x40 else 0)
      let fill (flip : BitVec 128) (check : BitVec 16) := handleEvent (.fill system istream false a flip check) s
      let corrected (r : Result State) (syndrome : BitVec 16) : Prop := ∃ t, r = .next t ∧ t.idu.crdRequest = true ∧
        { t with idu := { t.idu with crdRequest := s.idu.crdRequest }, cbu := s.cbu, memsys := s.memsys } = s ∧
        (s.cbu.eiStat &&& 0x3B = 0 → t.cbu.eiStat = source ||| 8 ∧ t.cbu.eiAddr = a ∧ t.cbu.fillSyn = syndrome)
      let fails (r : Result State) (syndrome : BitVec 16) : Prop := s.cbu.eiStat &&& 0x33 = 0 →
        ∃ t, r = .next t ∧ t.cbu.eiStat = (s.cbu.eiStat &&& 8) ||| source ||| 0x10 ∧ t.cbu.eiLocked = true ∧ t.cbu.eiAddr = a ∧
          t.cbu.fillSyn = syndrome ∧ t.cbu.bcTagLocked = (s.cbu.bcTagLocked || s.cbu.bcOn) ∧
          { t with
            regs := s.regs, shadow := s.shadow, fregs := s.fregs, mem := s.mem, cbu := s.cbu, memsys := s.memsys,
            model := s.model } = { s with machineChecks := s.machineChecks ++ [istream] }
      (s.cbu.bcControl.getLsbD 6 = true →
        (∀ k < 128, corrected (fill (1 <<< k) 0) (BitVec.ofNat 16 (fillSyndromes.getD (k % 64) 0 * 256 ^ (k / 64)))) ∧
        (∀ k < 16, corrected (fill 0 (1 <<< k)) (1 <<< k)) ∧
        (∀ j k h, j < 64 → k < 64 → j ≠ k → h < 2 → fails (fill ((1 <<< (64 * h + j)) ||| (1 <<< (64 * h + k))) 0)
          (BitVec.ofNat 16 (Nat.xor (fillSyndromes.getD j 0) (fillSyndromes.getD k 0) * 256 ^ h)))) ∧
      (s.cbu.bcControl.getLsbD 6 = false → ∀ k < 128, fails (fill (1 <<< k) 0) (1 <<< (k / 8)))) ∧
    (∀ (code : BitVec 4) (a : PAddr) (parity : Bool), s.model.cbuQuiet = false →
      ¬oddParity code a parity → s.cbu.bcControl.getLsbD 28 = false → s.cbu.bcControl.getLsbD 15 = false →
      s.cbu.eiStat &&& 0x33 = 0 →
      ∃ t, handleEvent (.systemCommand code a parity) s = .next t ∧ t.memsys.caches.bus.response.toNat % 4 = 1 ∧
        t.cbu.eiStat &&& 0xBF = (s.cbu.eiStat &&& 8) ||| 0x24 ∧ t.cbu.eiLocked = true ∧ t.cbu.eiAddr = a ∧
        { t with cbu := s.cbu, memsys := s.memsys, model := s.model } =
          { s with machineChecks := s.machineChecks ++ [false] })

/-! ## Whole-machine rules -/

/-- Frame of the register files, for every instruction: the registers that change are those its word names as written
(`writesOf`: Rc or Fc of an operate, Ra or Fa of a load, a conditional store, a jump or branch that links, LDA, RPCC, RS,
RC, HW_MFPR), and number 31 of either file never. A PALshadow register counts under the number it overlays. -/
def Obligations.OnlyNamedRegistersChange : Prop :=
  ∀ (i : Instr) (s t : State), i.wf = true → exec i s = .next t →
    (∀ r : Reg, r = 31 ∨ intName r ∉ writesOf (encode i) → t.regs.get r.toFin = s.regs.get r.toFin) ∧
      (∀ (r : Reg) (k : Fin 8), shadowSlot r = some k → intName r ∉ writesOf (encode i) →
        t.shadow.get k = s.shadow.get k) ∧
      (∀ r : Reg, r = 31 ∨ fpName r ∉ writesOf (encode i) → t.fregs.get r.toFin = s.fregs.get r.toFin)

/-- Frame of memory, for every instruction that is not a store: no byte changes. -/
def Obligations.OnlyStoresChangeMemory : Prop :=
  ∀ (i : Instr) (s t : State), exec i s = .next t →
    i.opcode ∉ [0x0D, 0x0E, 0x0F, 0x1F, 0x24, 0x25, 0x26, 0x27, 0x2C, 0x2D, 0x2E, 0x2F] → t.mem = s.mem

/-- Isolation of the internal processor registers: no instruction outside the PALcode-only opcodes 19, 1B, 1D, 1E, 1F changes
one, but for what an exception records (EXC_ADDR; EXC_SUM and EXC_MASK of an arithmetic trap; VA and MM_STAT with their lock).
And PALmode is entered from native mode only at an entry point, in the block of PAL_BASE, or by HW_REI (48_palcode.md R911);
that a native jump does not enter it, whatever bit 0 of its register, is the spec's decision D3 (41_control.md R585; log entry
8). -/
def Obligations.OnlyPalcodeChangesInternalRegisters : Prop :=
  (∀ (i : Instr) (s t : State), s.palmode = false → exec i s = .next t → t.palmode = true → i.opcode = 0x1E ∨
    (t.pc.toNat / 2 ^ 14 = s.idu.palBase.toNat ∧ t.pc.toNat % 2 ^ 14 % 64 = 1 ∧ t.model.lastEntry ≠ none)) ∧
  ∀ (i : Instr) (s t : State), exec i s = .next t → i.opcode ∉ [0x19, 0x1B, 0x1D, 0x1E, 0x1F] →
    { t.idu with
      excAddr := s.idu.excAddr
      excSum := s.idu.excSum
      swcKilled := s.idu.swcKilled
      excMaskInt := s.idu.excMaskInt
      excMaskFp := s.idu.excMaskFp } = s.idu ∧
    { t.mtu with va := s.mtu.va, mmStat := s.mtu.mmStat, mmLock := s.mtu.mmLock } = s.mtu ∧ t.pins = s.pins

/-- The PALshadow registers overlay R8 to R14 and R25 in PALmode with ICSR<SDE>: these numbers then read and write the shadow
registers alone, and in every other condition, as all other numbers always, the architected ones, and no instruction changes a
shadow register (10_state.md R54). -/
def Obligations.PalshadowRegistersOverlay : Prop :=
  ∀ s : State,
    let overlaid : List (Reg × Fin 8) := [(8, 0), (9, 1), (10, 2), (11, 3), (12, 4), (13, 5), (14, 6), (25, 7)]
    let overlay := s.pc.toNat % 2 = 1 ∧ s.idu.icsr.getLsbD 30 = true
    (¬overlay → ∀ (i : Instr) (t : State), exec i s = .next t → t.shadow = s.shadow) ∧
    (overlay → ∀ p ∈ overlaid, s.readReg p.1 = s.shadow.get p.2 ∧
      ∀ v, s.writeReg p.1 v = { s with shadow := s.shadow.set p.2 v }) ∧
    (∀ r : Reg, r ≠ 31 → ¬(overlay ∧ r ∈ overlaid.map (·.1)) → s.readReg r = s.regs.get r.toFin ∧
      ∀ v, s.writeReg r v = { s with regs := s.regs.set r.toFin v })
end

