-- ==== Sys2Proof/Laws/Encoding.lean ====
section
/-!
SUPPORT. The fields of an encoded word, format by format: what each field function reads from what each format function
writes.
-/

namespace Sys2Proof

/-- A power-of-two quotient and remainder of a word is a field. -/
theorem toNat_div_mod (w : Long) (lo n : Nat) : w.toNat / 2 ^ lo % 2 ^ n = (field w lo n).toNat := by
  simp only [field, BitVec.extractLsb'_toNat, Nat.shiftRight_eq_div_pow]

/-- The opcode as a quotient. -/
theorem toNat_opcode (w : Long) : w.toNat / 2 ^ 26 = (opcodeOf w).toNat := by
  have h := toNat_div_mod w 26 6
  have hw := w.isLt
  rw [Nat.mod_eq_of_lt (by omega)] at h
  exact h

/-! ### encMem -/

@[simp] theorem opcodeOf_encMem (op : BitVec 6) (ra rb : Reg) (disp : BitVec 16) :
    opcodeOf (encMem op ra rb disp) = op := by
  apply BitVec.eq_of_getLsbD_eq
  intro i hi
  simp (disch := omega) only [opcodeOf, field, encMem, BitVec.getLsbD_extractLsb', BitVec.getLsbD_append, if_neg, hi,
    decide_true, Bool.true_and]
  congr 1
  omega

@[simp] theorem raOf_encMem (op : BitVec 6) (ra rb : Reg) (disp : BitVec 16) :
    raOf (encMem op ra rb disp) = ra := by
  apply BitVec.eq_of_getLsbD_eq
  intro i hi
  simp (disch := omega) only [raOf, field, encMem, BitVec.getLsbD_extractLsb', BitVec.getLsbD_append, if_neg, if_pos, hi,
    decide_true, Bool.true_and]
  congr 1
  omega

@[simp] theorem rbOf_encMem (op : BitVec 6) (ra rb : Reg) (disp : BitVec 16) :
    rbOf (encMem op ra rb disp) = rb := by
  apply BitVec.eq_of_getLsbD_eq
  intro i hi
  simp (disch := omega) only [rbOf, field, encMem, BitVec.getLsbD_extractLsb', BitVec.getLsbD_append, if_neg, if_pos, hi,
    decide_true, Bool.true_and]
  congr 1
  omega

@[simp] theorem field_0_16_encMem (op : BitVec 6) (ra rb : Reg) (disp : BitVec 16) :
    field (encMem op ra rb disp) 0 16 = disp := by
  apply BitVec.eq_of_getLsbD_eq
  intro i hi
  simp (disch := omega) only [field, encMem, BitVec.getLsbD_extractLsb', BitVec.getLsbD_append, if_pos, hi,
    decide_true, Bool.true_and]
  congr 1
  omega

/-! ### encBranch -/

@[simp] theorem opcodeOf_encBranch (op : BitVec 6) (ra : Reg) (disp : BitVec 21) :
    opcodeOf (encBranch op ra disp) = op := by
  apply BitVec.eq_of_getLsbD_eq
  intro i hi
  simp (disch := omega) only [opcodeOf, field, encBranch, BitVec.getLsbD_extractLsb', BitVec.getLsbD_append, if_neg, hi,
    decide_true, Bool.true_and]
  congr 1
  omega

@[simp] theorem raOf_encBranch (op : BitVec 6) (ra : Reg) (disp : BitVec 21) :
    raOf (encBranch op ra disp) = ra := by
  apply BitVec.eq_of_getLsbD_eq
  intro i hi
  simp (disch := omega) only [raOf, field, encBranch, BitVec.getLsbD_extractLsb', BitVec.getLsbD_append, if_neg, if_pos, hi,
    decide_true, Bool.true_and]
  congr 1
  omega

@[simp] theorem field_0_21_encBranch (op : BitVec 6) (ra : Reg) (disp : BitVec 21) :
    field (encBranch op ra disp) 0 21 = disp := by
  apply BitVec.eq_of_getLsbD_eq
  intro i hi
  simp (disch := omega) only [field, encBranch, BitVec.getLsbD_extractLsb', BitVec.getLsbD_append, if_pos, hi,
    decide_true, Bool.true_and]
  congr 1
  omega

/-! ### encFloat -/

@[simp] theorem opcodeOf_encFloat (op : BitVec 6) (fn : BitVec 11) (fa fb fc : Reg) :
    opcodeOf (encFloat op fn fa fb fc) = op := by
  apply BitVec.eq_of_getLsbD_eq
  intro i hi
  simp (disch := omega) only [opcodeOf, field, encFloat, BitVec.getLsbD_extractLsb', BitVec.getLsbD_append, if_neg, hi,
    decide_true, Bool.true_and]
  congr 1
  omega

@[simp] theorem raOf_encFloat (op : BitVec 6) (fn : BitVec 11) (fa fb fc : Reg) :
    raOf (encFloat op fn fa fb fc) = fa := by
  apply BitVec.eq_of_getLsbD_eq
  intro i hi
  simp (disch := omega) only [raOf, field, encFloat, BitVec.getLsbD_extractLsb', BitVec.getLsbD_append, if_neg, if_pos, hi,
    decide_true, Bool.true_and]
  congr 1
  omega

@[simp] theorem rbOf_encFloat (op : BitVec 6) (fn : BitVec 11) (fa fb fc : Reg) :
    rbOf (encFloat op fn fa fb fc) = fb := by
  apply BitVec.eq_of_getLsbD_eq
  intro i hi
  simp (disch := omega) only [rbOf, field, encFloat, BitVec.getLsbD_extractLsb', BitVec.getLsbD_append, if_neg, if_pos, hi,
    decide_true, Bool.true_and]
  congr 1
  omega

@[simp] theorem rcOf_encFloat (op : BitVec 6) (fn : BitVec 11) (fa fb fc : Reg) :
    rcOf (encFloat op fn fa fb fc) = fc := by
  apply BitVec.eq_of_getLsbD_eq
  intro i hi
  simp (disch := omega) only [rcOf, field, encFloat, BitVec.getLsbD_extractLsb', BitVec.getLsbD_append, if_pos, hi,
    decide_true, Bool.true_and]
  congr 1
  omega

@[simp] theorem field_5_11_encFloat (op : BitVec 6) (fn : BitVec 11) (fa fb fc : Reg) :
    field (encFloat op fn fa fb fc) 5 11 = fn := by
  apply BitVec.eq_of_getLsbD_eq
  intro i hi
  simp (disch := omega) only [field, encFloat, BitVec.getLsbD_extractLsb', BitVec.getLsbD_append, if_neg, if_pos, hi,
    decide_true, Bool.true_and]
  congr 1
  omega

/-! ### encJump -/

@[simp] theorem opcodeOf_encJump (sel : BitVec 2) (ra rb : Reg) (hint : BitVec 14) :
    opcodeOf (encJump sel ra rb hint) = 0x1A := by
  apply BitVec.eq_of_getLsbD_eq
  intro i hi
  simp (disch := omega) only [opcodeOf, field, encJump, BitVec.getLsbD_extractLsb', BitVec.getLsbD_append, if_neg, hi,
    decide_true, Bool.true_and]
  congr 1
  omega

@[simp] theorem raOf_encJump (sel : BitVec 2) (ra rb : Reg) (hint : BitVec 14) :
    raOf (encJump sel ra rb hint) = ra := by
  apply BitVec.eq_of_getLsbD_eq
  intro i hi
  simp (disch := omega) only [raOf, field, encJump, BitVec.getLsbD_extractLsb', BitVec.getLsbD_append, if_neg, if_pos, hi,
    decide_true, Bool.true_and]
  congr 1
  omega

@[simp] theorem rbOf_encJump (sel : BitVec 2) (ra rb : Reg) (hint : BitVec 14) :
    rbOf (encJump sel ra rb hint) = rb := by
  apply BitVec.eq_of_getLsbD_eq
  intro i hi
  simp (disch := omega) only [rbOf, field, encJump, BitVec.getLsbD_extractLsb', BitVec.getLsbD_append, if_neg, if_pos, hi,
    decide_true, Bool.true_and]
  congr 1
  omega

@[simp] theorem field_14_2_encJump (sel : BitVec 2) (ra rb : Reg) (hint : BitVec 14) :
    field (encJump sel ra rb hint) 14 2 = sel := by
  apply BitVec.eq_of_getLsbD_eq
  intro i hi
  simp (disch := omega) only [field, encJump, BitVec.getLsbD_extractLsb', BitVec.getLsbD_append, if_neg, if_pos, hi,
    decide_true, Bool.true_and]
  congr 1
  omega

@[simp] theorem field_0_14_encJump (sel : BitVec 2) (ra rb : Reg) (hint : BitVec 14) :
    field (encJump sel ra rb hint) 0 14 = hint := by
  apply BitVec.eq_of_getLsbD_eq
  intro i hi
  simp (disch := omega) only [field, encJump, BitVec.getLsbD_extractLsb', BitVec.getLsbD_append, if_pos, hi,
    decide_true, Bool.true_and]
  congr 1
  omega

/-! ### encHwMem -/

@[simp] theorem opcodeOf_encHwMem (op : BitVec 6) (ra rb : Reg) (b15 b14 b13 b12 b11 b10 : Bool) (disp : BitVec 10) :
    opcodeOf (encHwMem op ra rb b15 b14 b13 b12 b11 b10 disp) = op := by
  apply BitVec.eq_of_getLsbD_eq
  intro i hi
  simp (disch := omega) only [opcodeOf, field, encHwMem, BitVec.getLsbD_extractLsb', BitVec.getLsbD_append, if_neg, hi,
    decide_true, Bool.true_and]
  congr 1
  omega

@[simp] theorem raOf_encHwMem (op : BitVec 6) (ra rb : Reg) (b15 b14 b13 b12 b11 b10 : Bool) (disp : BitVec 10) :
    raOf (encHwMem op ra rb b15 b14 b13 b12 b11 b10 disp) = ra := by
  apply BitVec.eq_of_getLsbD_eq
  intro i hi
  simp (disch := omega) only [raOf, field, encHwMem, BitVec.getLsbD_extractLsb', BitVec.getLsbD_append, if_neg, if_pos, hi,
    decide_true, Bool.true_and]
  congr 1
  omega

@[simp] theorem rbOf_encHwMem (op : BitVec 6) (ra rb : Reg) (b15 b14 b13 b12 b11 b10 : Bool) (disp : BitVec 10) :
    rbOf (encHwMem op ra rb b15 b14 b13 b12 b11 b10 disp) = rb := by
  apply BitVec.eq_of_getLsbD_eq
  intro i hi
  simp (disch := omega) only [rbOf, field, encHwMem, BitVec.getLsbD_extractLsb', BitVec.getLsbD_append, if_neg, if_pos, hi,
    decide_true, Bool.true_and]
  congr 1
  omega

@[simp] theorem field_0_10_encHwMem (op : BitVec 6) (ra rb : Reg) (b15 b14 b13 b12 b11 b10 : Bool) (disp : BitVec 10) :
    field (encHwMem op ra rb b15 b14 b13 b12 b11 b10 disp) 0 10 = disp := by
  apply BitVec.eq_of_getLsbD_eq
  intro i hi
  simp (disch := omega) only [field, encHwMem, BitVec.getLsbD_extractLsb', BitVec.getLsbD_append, if_pos, hi,
    decide_true, Bool.true_and]
  congr 1
  omega

/-! ### encOperate -/

@[simp] theorem opcodeOf_encOperate (op : BitVec 6) (fn : BitVec 7) (ra : Reg) (b : Operand) (rc : Reg) :
    opcodeOf (encOperate op fn ra b rc) = op := by
  cases b <;>
  · apply BitVec.eq_of_getLsbD_eq
    intro i hi
    simp (disch := omega) only [opcodeOf, field, encOperate, BitVec.getLsbD_extractLsb', BitVec.getLsbD_append, if_neg, hi,
      decide_true, Bool.true_and]
    congr 1
    omega

@[simp] theorem raOf_encOperate (op : BitVec 6) (fn : BitVec 7) (ra : Reg) (b : Operand) (rc : Reg) :
    raOf (encOperate op fn ra b rc) = ra := by
  cases b <;>
  · apply BitVec.eq_of_getLsbD_eq
    intro i hi
    simp (disch := omega) only [raOf, field, encOperate, BitVec.getLsbD_extractLsb', BitVec.getLsbD_append, if_neg, if_pos, hi,
      decide_true, Bool.true_and]
    congr 1
    omega

@[simp] theorem rcOf_encOperate (op : BitVec 6) (fn : BitVec 7) (ra : Reg) (b : Operand) (rc : Reg) :
    rcOf (encOperate op fn ra b rc) = rc := by
  cases b <;>
  · apply BitVec.eq_of_getLsbD_eq
    intro i hi
    simp (disch := omega) only [rcOf, field, encOperate, BitVec.getLsbD_extractLsb', BitVec.getLsbD_append, if_pos, hi,
      decide_true, Bool.true_and]
    congr 1
    omega

@[simp] theorem field_5_7_encOperate (op : BitVec 6) (fn : BitVec 7) (ra : Reg) (b : Operand) (rc : Reg) :
    field (encOperate op fn ra b rc) 5 7 = fn := by
  cases b <;>
  · apply BitVec.eq_of_getLsbD_eq
    intro i hi
    simp (disch := omega) only [field, encOperate, BitVec.getLsbD_extractLsb', BitVec.getLsbD_append, if_neg, if_pos, hi,
      decide_true, Bool.true_and]
    congr 1
    omega

@[simp] theorem operandOf_encOperate (op : BitVec 6) (fn : BitVec 7) (ra : Reg) (b : Operand) (rc : Reg) :
    operandOf (encOperate op fn ra b rc) = b := by
  cases b with
  | reg rb =>
    have h : (encOperate op fn ra (.reg rb) rc).getLsbD 12 = false := by
      simp only [encOperate, BitVec.getLsbD_append]
      rfl
    have hr : rbOf (encOperate op fn ra (.reg rb) rc) = rb := by
      apply BitVec.eq_of_getLsbD_eq
      intro i hi
      simp (disch := omega) only [rbOf, field, encOperate, BitVec.getLsbD_extractLsb', BitVec.getLsbD_append, if_neg,
        if_pos, hi, decide_true, Bool.true_and]
      congr 1
      omega
    simp only [operandOf, h, hr, cond_false]
  | lit n =>
    have h : (encOperate op fn ra (.lit n) rc).getLsbD 12 = true := by
      simp only [encOperate, BitVec.getLsbD_append]
      rfl
    have hr : field (encOperate op fn ra (.lit n) rc) 13 8 = n := by
      apply BitVec.eq_of_getLsbD_eq
      intro i hi
      simp (disch := omega) only [field, encOperate, BitVec.getLsbD_extractLsb', BitVec.getLsbD_append, if_neg,
        if_pos, hi, decide_true, Bool.true_and]
      congr 1
      omega
    simp only [operandOf, h, hr, cond_true]

/-! ### Single bits and parts -/

/-- The qualifier bits of a floating-point word are those of its function code. -/
theorem getLsbD_encFloat (op : BitVec 6) (fn : BitVec 11) (fa fb fc : Reg) (i : Nat) (h5 : 5 ≤ i) (h16 : i < 16) :
    (encFloat op fn fa fb fc).getLsbD i = fn.getLsbD (i - 5) := by
  simp (disch := omega) only [encFloat, BitVec.getLsbD_append, if_neg, if_pos]

@[simp] theorem field_11_2_encFloat (op : BitVec 6) (fn : BitVec 11) (fa fb fc : Reg) :
    field (encFloat op fn fa fb fc) 11 2 = fn.extractLsb' 6 2 := by
  apply BitVec.eq_of_getLsbD_eq
  intro i hi
  simp (disch := omega) only [field, encFloat, BitVec.getLsbD_extractLsb', BitVec.getLsbD_append, if_neg, if_pos, hi,
    decide_true, Bool.true_and]
  congr 1
  omega

@[simp] theorem getLsbD_15_encHwMem (op : BitVec 6) (ra rb : Reg) (b15 b14 b13 b12 b11 b10 : Bool)
    (disp : BitVec 10) : (encHwMem op ra rb b15 b14 b13 b12 b11 b10 disp).getLsbD 15 = b15 := by
  simp only [encHwMem, bitField, BitVec.getLsbD_append]
  cases b15 <;> rfl

@[simp] theorem getLsbD_14_encHwMem (op : BitVec 6) (ra rb : Reg) (b15 b14 b13 b12 b11 b10 : Bool)
    (disp : BitVec 10) : (encHwMem op ra rb b15 b14 b13 b12 b11 b10 disp).getLsbD 14 = b14 := by
  simp only [encHwMem, bitField, BitVec.getLsbD_append]
  cases b14 <;> rfl

@[simp] theorem getLsbD_13_encHwMem (op : BitVec 6) (ra rb : Reg) (b15 b14 b13 b12 b11 b10 : Bool)
    (disp : BitVec 10) : (encHwMem op ra rb b15 b14 b13 b12 b11 b10 disp).getLsbD 13 = b13 := by
  simp only [encHwMem, bitField, BitVec.getLsbD_append]
  cases b13 <;> rfl

@[simp] theorem getLsbD_12_encHwMem (op : BitVec 6) (ra rb : Reg) (b15 b14 b13 b12 b11 b10 : Bool)
    (disp : BitVec 10) : (encHwMem op ra rb b15 b14 b13 b12 b11 b10 disp).getLsbD 12 = b12 := by
  simp only [encHwMem, bitField, BitVec.getLsbD_append]
  cases b12 <;> rfl

@[simp] theorem getLsbD_11_encHwMem (op : BitVec 6) (ra rb : Reg) (b15 b14 b13 b12 b11 b10 : Bool)
    (disp : BitVec 10) : (encHwMem op ra rb b15 b14 b13 b12 b11 b10 disp).getLsbD 11 = b11 := by
  simp only [encHwMem, bitField, BitVec.getLsbD_append]
  cases b11 <;> rfl

@[simp] theorem getLsbD_10_encHwMem (op : BitVec 6) (ra rb : Reg) (b15 b14 b13 b12 b11 b10 : Bool)
    (disp : BitVec 10) : (encHwMem op ra rb b15 b14 b13 b12 b11 b10 disp).getLsbD 10 = b10 := by
  simp only [encHwMem, bitField, BitVec.getLsbD_append]
  cases b10 <;> rfl

@[simp] theorem field_14_2_encMem (op : BitVec 6) (ra rb : Reg) (t : BitVec 2) (z : BitVec 14) :
    field (encMem op ra rb (t ++ z)) 14 2 = t := by
  apply BitVec.eq_of_getLsbD_eq
  intro i hi
  simp (disch := omega) only [field, encMem, BitVec.getLsbD_extractLsb', BitVec.getLsbD_append, if_neg, if_pos, hi,
    decide_true, Bool.true_and]
  congr 1
  omega

@[simp] theorem field_0_14_encMem (op : BitVec 6) (ra rb : Reg) (t : BitVec 2) (z : BitVec 14) :
    field (encMem op ra rb (t ++ z)) 0 14 = z := by
  apply BitVec.eq_of_getLsbD_eq
  intro i hi
  simp (disch := omega) only [field, encMem, BitVec.getLsbD_extractLsb', BitVec.getLsbD_append, if_pos, hi,
    decide_true, Bool.true_and]
  congr 1
  omega

@[simp] theorem opcodeOf_callPal (op : BitVec 6) (fn : BitVec 26) :
    opcodeOf (op ++ fn) = op := by
  apply BitVec.eq_of_getLsbD_eq
  intro i hi
  simp (disch := omega) only [opcodeOf, field, BitVec.getLsbD_extractLsb', BitVec.getLsbD_append, if_neg, hi,
    decide_true, Bool.true_and]
  congr 1
  omega

@[simp] theorem field_0_26_callPal (op : BitVec 6) (fn : BitVec 26) :
    field (op ++ fn) 0 26 = fn := by
  apply BitVec.eq_of_getLsbD_eq
  intro i hi
  simp (disch := omega) only [field, BitVec.getLsbD_extractLsb', BitVec.getLsbD_append, if_pos, hi,
    decide_true, Bool.true_and]
  congr 1
  omega

end Sys2Proof
end

