-- ==== Sys2Proof/Laws/State.lean ====
section
/-!
SUPPORT. What every update of the state leaves alone: one lemma for each field that it does not change, and the value of
each field that it sets.
-/

namespace Sys2Proof.Machine

/-! ### State.drawn -/

@[simp] theorem State.drawn_regs (s : State) : s.drawn.regs = s.regs := rfl
@[simp] theorem State.drawn_shadow (s : State) : s.drawn.shadow = s.shadow := rfl
@[simp] theorem State.drawn_fregs (s : State) : s.drawn.fregs = s.fregs := rfl
@[simp] theorem State.drawn_pc (s : State) : s.drawn.pc = s.pc := rfl
@[simp] theorem State.drawn_fpcr (s : State) : s.drawn.fpcr = s.fpcr := rfl
@[simp] theorem State.drawn_lockFlag (s : State) : s.drawn.lockFlag = s.lockFlag := rfl
@[simp] theorem State.drawn_lockPa (s : State) : s.drawn.lockPa = s.lockPa := rfl
@[simp] theorem State.drawn_intrFlag (s : State) : s.drawn.intrFlag = s.intrFlag := rfl
@[simp] theorem State.drawn_arithPending (s : State) : s.drawn.arithPending = s.arithPending := rfl
@[simp] theorem State.drawn_machineChecks (s : State) : s.drawn.machineChecks = s.machineChecks := rfl
@[simp] theorem State.drawn_idu (s : State) : s.drawn.idu = s.idu := rfl
@[simp] theorem State.drawn_mtu (s : State) : s.drawn.mtu = s.mtu := rfl
@[simp] theorem State.drawn_cbu (s : State) : s.drawn.cbu = s.cbu := rfl
@[simp] theorem State.drawn_pins (s : State) : s.drawn.pins = s.pins := rfl
@[simp] theorem State.drawn_mem (s : State) : s.drawn.mem = s.mem := rfl
@[simp] theorem State.drawn_memsys (s : State) : s.drawn.memsys = s.memsys := rfl

/-! ### State.setPc -/

@[simp] theorem State.setPc_regs (s : State) (t : Quad) : (s.setPc t).regs = s.regs := rfl
@[simp] theorem State.setPc_shadow (s : State) (t : Quad) : (s.setPc t).shadow = s.shadow := rfl
@[simp] theorem State.setPc_fregs (s : State) (t : Quad) : (s.setPc t).fregs = s.fregs := rfl
@[simp] theorem State.setPc_pc (s : State) (t : Quad) : (s.setPc t).pc = t := rfl
@[simp] theorem State.setPc_fpcr (s : State) (t : Quad) : (s.setPc t).fpcr = s.fpcr := rfl
@[simp] theorem State.setPc_lockFlag (s : State) (t : Quad) : (s.setPc t).lockFlag = s.lockFlag := rfl
@[simp] theorem State.setPc_lockPa (s : State) (t : Quad) : (s.setPc t).lockPa = s.lockPa := rfl
@[simp] theorem State.setPc_intrFlag (s : State) (t : Quad) : (s.setPc t).intrFlag = s.intrFlag := rfl
@[simp] theorem State.setPc_arithPending (s : State) (t : Quad) : (s.setPc t).arithPending = s.arithPending := rfl
@[simp] theorem State.setPc_machineChecks (s : State) (t : Quad) : (s.setPc t).machineChecks = s.machineChecks := rfl
@[simp] theorem State.setPc_idu (s : State) (t : Quad) : (s.setPc t).idu = s.idu := rfl
@[simp] theorem State.setPc_mtu (s : State) (t : Quad) : (s.setPc t).mtu = s.mtu := rfl
@[simp] theorem State.setPc_cbu (s : State) (t : Quad) : (s.setPc t).cbu = s.cbu := rfl
@[simp] theorem State.setPc_pins (s : State) (t : Quad) : (s.setPc t).pins = s.pins := rfl
@[simp] theorem State.setPc_mem (s : State) (t : Quad) : (s.setPc t).mem = s.mem := rfl
@[simp] theorem State.setPc_memsys (s : State) (t : Quad) : (s.setPc t).memsys = s.memsys := rfl
@[simp] theorem State.setPc_model (s : State) (t : Quad) : (s.setPc t).model = s.model := rfl

/-! ### State.advance -/

@[simp] theorem State.advance_regs (s : State) : s.advance.regs = s.regs := rfl
@[simp] theorem State.advance_shadow (s : State) : s.advance.shadow = s.shadow := rfl
@[simp] theorem State.advance_fregs (s : State) : s.advance.fregs = s.fregs := rfl
@[simp] theorem State.advance_pc (s : State) : s.advance.pc = s.pc + 4 := rfl
@[simp] theorem State.advance_fpcr (s : State) : s.advance.fpcr = s.fpcr := rfl
@[simp] theorem State.advance_lockFlag (s : State) : s.advance.lockFlag = s.lockFlag := rfl
@[simp] theorem State.advance_lockPa (s : State) : s.advance.lockPa = s.lockPa := rfl
@[simp] theorem State.advance_intrFlag (s : State) : s.advance.intrFlag = s.intrFlag := rfl
@[simp] theorem State.advance_arithPending (s : State) : s.advance.arithPending = s.arithPending := rfl
@[simp] theorem State.advance_machineChecks (s : State) : s.advance.machineChecks = s.machineChecks := rfl
@[simp] theorem State.advance_idu (s : State) : s.advance.idu = s.idu := rfl
@[simp] theorem State.advance_mtu (s : State) : s.advance.mtu = s.mtu := rfl
@[simp] theorem State.advance_cbu (s : State) : s.advance.cbu = s.cbu := rfl
@[simp] theorem State.advance_pins (s : State) : s.advance.pins = s.pins := rfl
@[simp] theorem State.advance_mem (s : State) : s.advance.mem = s.mem := rfl
@[simp] theorem State.advance_memsys (s : State) : s.advance.memsys = s.memsys := rfl
@[simp] theorem State.advance_model (s : State) : s.advance.model = s.model := rfl

/-! ### State.writeReg -/

@[simp] theorem State.writeReg_fregs (s : State) (r : Reg) (v : Quad) : (s.writeReg r v).fregs = s.fregs := by
  unfold State.writeReg
  cases r == 31 with
  | true => rfl
  | false => cases s.shadowOf r <;> rfl
@[simp] theorem State.writeReg_pc (s : State) (r : Reg) (v : Quad) : (s.writeReg r v).pc = s.pc := by
  unfold State.writeReg
  cases r == 31 with
  | true => rfl
  | false => cases s.shadowOf r <;> rfl
@[simp] theorem State.writeReg_fpcr (s : State) (r : Reg) (v : Quad) : (s.writeReg r v).fpcr = s.fpcr := by
  unfold State.writeReg
  cases r == 31 with
  | true => rfl
  | false => cases s.shadowOf r <;> rfl
@[simp] theorem State.writeReg_lockFlag (s : State) (r : Reg) (v : Quad) : (s.writeReg r v).lockFlag = s.lockFlag := by
  unfold State.writeReg
  cases r == 31 with
  | true => rfl
  | false => cases s.shadowOf r <;> rfl
@[simp] theorem State.writeReg_lockPa (s : State) (r : Reg) (v : Quad) : (s.writeReg r v).lockPa = s.lockPa := by
  unfold State.writeReg
  cases r == 31 with
  | true => rfl
  | false => cases s.shadowOf r <;> rfl
@[simp] theorem State.writeReg_intrFlag (s : State) (r : Reg) (v : Quad) : (s.writeReg r v).intrFlag = s.intrFlag := by
  unfold State.writeReg
  cases r == 31 with
  | true => rfl
  | false => cases s.shadowOf r <;> rfl
@[simp] theorem State.writeReg_arithPending (s : State) (r : Reg) (v : Quad) : (s.writeReg r v).arithPending = s.arithPending := by
  unfold State.writeReg
  cases r == 31 with
  | true => rfl
  | false => cases s.shadowOf r <;> rfl
@[simp] theorem State.writeReg_machineChecks (s : State) (r : Reg) (v : Quad) : (s.writeReg r v).machineChecks = s.machineChecks := by
  unfold State.writeReg
  cases r == 31 with
  | true => rfl
  | false => cases s.shadowOf r <;> rfl
@[simp] theorem State.writeReg_idu (s : State) (r : Reg) (v : Quad) : (s.writeReg r v).idu = s.idu := by
  unfold State.writeReg
  cases r == 31 with
  | true => rfl
  | false => cases s.shadowOf r <;> rfl
@[simp] theorem State.writeReg_mtu (s : State) (r : Reg) (v : Quad) : (s.writeReg r v).mtu = s.mtu := by
  unfold State.writeReg
  cases r == 31 with
  | true => rfl
  | false => cases s.shadowOf r <;> rfl
@[simp] theorem State.writeReg_cbu (s : State) (r : Reg) (v : Quad) : (s.writeReg r v).cbu = s.cbu := by
  unfold State.writeReg
  cases r == 31 with
  | true => rfl
  | false => cases s.shadowOf r <;> rfl
@[simp] theorem State.writeReg_pins (s : State) (r : Reg) (v : Quad) : (s.writeReg r v).pins = s.pins := by
  unfold State.writeReg
  cases r == 31 with
  | true => rfl
  | false => cases s.shadowOf r <;> rfl
@[simp] theorem State.writeReg_mem (s : State) (r : Reg) (v : Quad) : (s.writeReg r v).mem = s.mem := by
  unfold State.writeReg
  cases r == 31 with
  | true => rfl
  | false => cases s.shadowOf r <;> rfl
@[simp] theorem State.writeReg_memsys (s : State) (r : Reg) (v : Quad) : (s.writeReg r v).memsys = s.memsys := by
  unfold State.writeReg
  cases r == 31 with
  | true => rfl
  | false => cases s.shadowOf r <;> rfl
@[simp] theorem State.writeReg_model (s : State) (r : Reg) (v : Quad) : (s.writeReg r v).model = s.model := by
  unfold State.writeReg
  cases r == 31 with
  | true => rfl
  | false => cases s.shadowOf r <;> rfl

/-! ### State.writeFreg -/

@[simp] theorem State.writeFreg_regs (s : State) (r : Reg) (v : Quad) : (s.writeFreg r v).regs = s.regs := by
  unfold State.writeFreg
  cases r == 31 <;> rfl
@[simp] theorem State.writeFreg_shadow (s : State) (r : Reg) (v : Quad) : (s.writeFreg r v).shadow = s.shadow := by
  unfold State.writeFreg
  cases r == 31 <;> rfl
@[simp] theorem State.writeFreg_pc (s : State) (r : Reg) (v : Quad) : (s.writeFreg r v).pc = s.pc := by
  unfold State.writeFreg
  cases r == 31 <;> rfl
@[simp] theorem State.writeFreg_fpcr (s : State) (r : Reg) (v : Quad) : (s.writeFreg r v).fpcr = s.fpcr := by
  unfold State.writeFreg
  cases r == 31 <;> rfl
@[simp] theorem State.writeFreg_lockFlag (s : State) (r : Reg) (v : Quad) : (s.writeFreg r v).lockFlag = s.lockFlag := by
  unfold State.writeFreg
  cases r == 31 <;> rfl
@[simp] theorem State.writeFreg_lockPa (s : State) (r : Reg) (v : Quad) : (s.writeFreg r v).lockPa = s.lockPa := by
  unfold State.writeFreg
  cases r == 31 <;> rfl
@[simp] theorem State.writeFreg_intrFlag (s : State) (r : Reg) (v : Quad) : (s.writeFreg r v).intrFlag = s.intrFlag := by
  unfold State.writeFreg
  cases r == 31 <;> rfl
@[simp] theorem State.writeFreg_arithPending (s : State) (r : Reg) (v : Quad) : (s.writeFreg r v).arithPending = s.arithPending := by
  unfold State.writeFreg
  cases r == 31 <;> rfl
@[simp] theorem State.writeFreg_machineChecks (s : State) (r : Reg) (v : Quad) : (s.writeFreg r v).machineChecks = s.machineChecks := by
  unfold State.writeFreg
  cases r == 31 <;> rfl
@[simp] theorem State.writeFreg_idu (s : State) (r : Reg) (v : Quad) : (s.writeFreg r v).idu = s.idu := by
  unfold State.writeFreg
  cases r == 31 <;> rfl
@[simp] theorem State.writeFreg_mtu (s : State) (r : Reg) (v : Quad) : (s.writeFreg r v).mtu = s.mtu := by
  unfold State.writeFreg
  cases r == 31 <;> rfl
@[simp] theorem State.writeFreg_cbu (s : State) (r : Reg) (v : Quad) : (s.writeFreg r v).cbu = s.cbu := by
  unfold State.writeFreg
  cases r == 31 <;> rfl
@[simp] theorem State.writeFreg_pins (s : State) (r : Reg) (v : Quad) : (s.writeFreg r v).pins = s.pins := by
  unfold State.writeFreg
  cases r == 31 <;> rfl
@[simp] theorem State.writeFreg_mem (s : State) (r : Reg) (v : Quad) : (s.writeFreg r v).mem = s.mem := by
  unfold State.writeFreg
  cases r == 31 <;> rfl
@[simp] theorem State.writeFreg_memsys (s : State) (r : Reg) (v : Quad) : (s.writeFreg r v).memsys = s.memsys := by
  unfold State.writeFreg
  cases r == 31 <;> rfl
@[simp] theorem State.writeFreg_model (s : State) (r : Reg) (v : Quad) : (s.writeFreg r v).model = s.model := by
  unfold State.writeFreg
  cases r == 31 <;> rfl

/-! ### State.storeBytes -/

@[simp] theorem State.storeBytes_regs (s : State) (a n : Nat) (v : Quad) : (s.storeBytes a n v).regs = s.regs := rfl
@[simp] theorem State.storeBytes_shadow (s : State) (a n : Nat) (v : Quad) : (s.storeBytes a n v).shadow = s.shadow := rfl
@[simp] theorem State.storeBytes_fregs (s : State) (a n : Nat) (v : Quad) : (s.storeBytes a n v).fregs = s.fregs := rfl
@[simp] theorem State.storeBytes_pc (s : State) (a n : Nat) (v : Quad) : (s.storeBytes a n v).pc = s.pc := rfl
@[simp] theorem State.storeBytes_fpcr (s : State) (a n : Nat) (v : Quad) : (s.storeBytes a n v).fpcr = s.fpcr := rfl
@[simp] theorem State.storeBytes_lockFlag (s : State) (a n : Nat) (v : Quad) : (s.storeBytes a n v).lockFlag = s.lockFlag := rfl
@[simp] theorem State.storeBytes_lockPa (s : State) (a n : Nat) (v : Quad) : (s.storeBytes a n v).lockPa = s.lockPa := rfl
@[simp] theorem State.storeBytes_intrFlag (s : State) (a n : Nat) (v : Quad) : (s.storeBytes a n v).intrFlag = s.intrFlag := rfl
@[simp] theorem State.storeBytes_arithPending (s : State) (a n : Nat) (v : Quad) : (s.storeBytes a n v).arithPending = s.arithPending := rfl
@[simp] theorem State.storeBytes_machineChecks (s : State) (a n : Nat) (v : Quad) : (s.storeBytes a n v).machineChecks = s.machineChecks := rfl
@[simp] theorem State.storeBytes_idu (s : State) (a n : Nat) (v : Quad) : (s.storeBytes a n v).idu = s.idu := rfl
@[simp] theorem State.storeBytes_mtu (s : State) (a n : Nat) (v : Quad) : (s.storeBytes a n v).mtu = s.mtu := rfl
@[simp] theorem State.storeBytes_cbu (s : State) (a n : Nat) (v : Quad) : (s.storeBytes a n v).cbu = s.cbu := rfl
@[simp] theorem State.storeBytes_pins (s : State) (a n : Nat) (v : Quad) : (s.storeBytes a n v).pins = s.pins := rfl
@[simp] theorem State.storeBytes_mem (s : State) (a n : Nat) (v : Quad) : (s.storeBytes a n v).mem = Memory.writeBytes s.mem a v n := rfl
@[simp] theorem State.storeBytes_memsys (s : State) (a n : Nat) (v : Quad) : (s.storeBytes a n v).memsys = s.memsys := rfl

/-! ### State.withMemSys -/

@[simp] theorem State.withMemSys_regs (s : State) (f : CacheCfg → MemSys → MemSys) : (s.withMemSys f).regs = s.regs := rfl
@[simp] theorem State.withMemSys_shadow (s : State) (f : CacheCfg → MemSys → MemSys) : (s.withMemSys f).shadow = s.shadow := rfl
@[simp] theorem State.withMemSys_fregs (s : State) (f : CacheCfg → MemSys → MemSys) : (s.withMemSys f).fregs = s.fregs := rfl
@[simp] theorem State.withMemSys_pc (s : State) (f : CacheCfg → MemSys → MemSys) : (s.withMemSys f).pc = s.pc := rfl
@[simp] theorem State.withMemSys_fpcr (s : State) (f : CacheCfg → MemSys → MemSys) : (s.withMemSys f).fpcr = s.fpcr := rfl
@[simp] theorem State.withMemSys_lockPa (s : State) (f : CacheCfg → MemSys → MemSys) : (s.withMemSys f).lockPa = s.lockPa := rfl
@[simp] theorem State.withMemSys_intrFlag (s : State) (f : CacheCfg → MemSys → MemSys) : (s.withMemSys f).intrFlag = s.intrFlag := rfl
@[simp] theorem State.withMemSys_arithPending (s : State) (f : CacheCfg → MemSys → MemSys) : (s.withMemSys f).arithPending = s.arithPending := rfl
@[simp] theorem State.withMemSys_machineChecks (s : State) (f : CacheCfg → MemSys → MemSys) : (s.withMemSys f).machineChecks = s.machineChecks := rfl
@[simp] theorem State.withMemSys_idu (s : State) (f : CacheCfg → MemSys → MemSys) : (s.withMemSys f).idu = s.idu := rfl
@[simp] theorem State.withMemSys_mtu (s : State) (f : CacheCfg → MemSys → MemSys) : (s.withMemSys f).mtu = s.mtu := rfl
@[simp] theorem State.withMemSys_cbu (s : State) (f : CacheCfg → MemSys → MemSys) : (s.withMemSys f).cbu = s.cbu := rfl
@[simp] theorem State.withMemSys_pins (s : State) (f : CacheCfg → MemSys → MemSys) : (s.withMemSys f).pins = s.pins := rfl
@[simp] theorem State.withMemSys_mem (s : State) (f : CacheCfg → MemSys → MemSys) : (s.withMemSys f).mem = s.mem := rfl
@[simp] theorem State.withMemSys_memsys (s : State) (f : CacheCfg → MemSys → MemSys) : (s.withMemSys f).memsys = f s.cacheCfg s.memsys := rfl
@[simp] theorem State.withMemSys_model (s : State) (f : CacheCfg → MemSys → MemSys) : (s.withMemSys f).model = s.model := rfl

/-! ### State.onCaches -/

@[simp] theorem State.onCaches_regs (s : State) (f : Caches → Caches) : (s.onCaches f).regs = s.regs := rfl
@[simp] theorem State.onCaches_shadow (s : State) (f : Caches → Caches) : (s.onCaches f).shadow = s.shadow := rfl
@[simp] theorem State.onCaches_fregs (s : State) (f : Caches → Caches) : (s.onCaches f).fregs = s.fregs := rfl
@[simp] theorem State.onCaches_pc (s : State) (f : Caches → Caches) : (s.onCaches f).pc = s.pc := rfl
@[simp] theorem State.onCaches_fpcr (s : State) (f : Caches → Caches) : (s.onCaches f).fpcr = s.fpcr := rfl
@[simp] theorem State.onCaches_lockFlag (s : State) (f : Caches → Caches) : (s.onCaches f).lockFlag = s.lockFlag := rfl
@[simp] theorem State.onCaches_lockPa (s : State) (f : Caches → Caches) : (s.onCaches f).lockPa = s.lockPa := rfl
@[simp] theorem State.onCaches_intrFlag (s : State) (f : Caches → Caches) : (s.onCaches f).intrFlag = s.intrFlag := rfl
@[simp] theorem State.onCaches_arithPending (s : State) (f : Caches → Caches) : (s.onCaches f).arithPending = s.arithPending := rfl
@[simp] theorem State.onCaches_machineChecks (s : State) (f : Caches → Caches) : (s.onCaches f).machineChecks = s.machineChecks := rfl
@[simp] theorem State.onCaches_idu (s : State) (f : Caches → Caches) : (s.onCaches f).idu = s.idu := rfl
@[simp] theorem State.onCaches_mtu (s : State) (f : Caches → Caches) : (s.onCaches f).mtu = s.mtu := rfl
@[simp] theorem State.onCaches_cbu (s : State) (f : Caches → Caches) : (s.onCaches f).cbu = s.cbu := rfl
@[simp] theorem State.onCaches_pins (s : State) (f : Caches → Caches) : (s.onCaches f).pins = s.pins := rfl
@[simp] theorem State.onCaches_mem (s : State) (f : Caches → Caches) : (s.onCaches f).mem = s.mem := rfl
@[simp] theorem State.onCaches_memsys (s : State) (f : Caches → Caches) : (s.onCaches f).memsys = s.memsys.onCaches f := rfl
@[simp] theorem State.onCaches_model (s : State) (f : Caches → Caches) : (s.onCaches f).model = s.model := rfl

/-! ### State.withCbu -/

@[simp] theorem State.withCbu_regs (s : State) (c : Cbu) : (s.withCbu c).regs = s.regs := rfl
@[simp] theorem State.withCbu_shadow (s : State) (c : Cbu) : (s.withCbu c).shadow = s.shadow := rfl
@[simp] theorem State.withCbu_fregs (s : State) (c : Cbu) : (s.withCbu c).fregs = s.fregs := rfl
@[simp] theorem State.withCbu_pc (s : State) (c : Cbu) : (s.withCbu c).pc = s.pc := rfl
@[simp] theorem State.withCbu_fpcr (s : State) (c : Cbu) : (s.withCbu c).fpcr = s.fpcr := rfl
@[simp] theorem State.withCbu_lockFlag (s : State) (c : Cbu) : (s.withCbu c).lockFlag = s.lockFlag := rfl
@[simp] theorem State.withCbu_lockPa (s : State) (c : Cbu) : (s.withCbu c).lockPa = s.lockPa := rfl
@[simp] theorem State.withCbu_intrFlag (s : State) (c : Cbu) : (s.withCbu c).intrFlag = s.intrFlag := rfl
@[simp] theorem State.withCbu_arithPending (s : State) (c : Cbu) : (s.withCbu c).arithPending = s.arithPending := rfl
@[simp] theorem State.withCbu_machineChecks (s : State) (c : Cbu) : (s.withCbu c).machineChecks = s.machineChecks := rfl
@[simp] theorem State.withCbu_idu (s : State) (c : Cbu) : (s.withCbu c).idu = s.idu := rfl
@[simp] theorem State.withCbu_mtu (s : State) (c : Cbu) : (s.withCbu c).mtu = s.mtu := rfl
@[simp] theorem State.withCbu_cbu (s : State) (c : Cbu) : (s.withCbu c).cbu = c := rfl
@[simp] theorem State.withCbu_pins (s : State) (c : Cbu) : (s.withCbu c).pins = s.pins := rfl
@[simp] theorem State.withCbu_mem (s : State) (c : Cbu) : (s.withCbu c).mem = s.mem := rfl
@[simp] theorem State.withCbu_model (s : State) (c : Cbu) : (s.withCbu c).model = s.model := rfl

/-! ### State.barrier -/

@[simp] theorem State.barrier_regs (s : State) : s.barrier.regs = s.regs := rfl
@[simp] theorem State.barrier_shadow (s : State) : s.barrier.shadow = s.shadow := rfl
@[simp] theorem State.barrier_fregs (s : State) : s.barrier.fregs = s.fregs := rfl
@[simp] theorem State.barrier_pc (s : State) : s.barrier.pc = s.pc := rfl
@[simp] theorem State.barrier_fpcr (s : State) : s.barrier.fpcr = s.fpcr := rfl
@[simp] theorem State.barrier_lockPa (s : State) : s.barrier.lockPa = s.lockPa := rfl
@[simp] theorem State.barrier_intrFlag (s : State) : s.barrier.intrFlag = s.intrFlag := rfl
@[simp] theorem State.barrier_arithPending (s : State) : s.barrier.arithPending = s.arithPending := rfl
@[simp] theorem State.barrier_machineChecks (s : State) : s.barrier.machineChecks = s.machineChecks := rfl
@[simp] theorem State.barrier_idu (s : State) : s.barrier.idu = s.idu := rfl
@[simp] theorem State.barrier_mtu (s : State) : s.barrier.mtu = s.mtu := rfl
@[simp] theorem State.barrier_cbu (s : State) : s.barrier.cbu = s.cbu := rfl
@[simp] theorem State.barrier_pins (s : State) : s.barrier.pins = s.pins := rfl
@[simp] theorem State.barrier_mem (s : State) : s.barrier.mem = s.mem := rfl

/-! ### State.drained -/

@[simp] theorem State.drained_regs (s : State) : s.drained.regs = s.regs := rfl
@[simp] theorem State.drained_shadow (s : State) : s.drained.shadow = s.shadow := rfl
@[simp] theorem State.drained_fregs (s : State) : s.drained.fregs = s.fregs := rfl
@[simp] theorem State.drained_pc (s : State) : s.drained.pc = s.pc := rfl
@[simp] theorem State.drained_fpcr (s : State) : s.drained.fpcr = s.fpcr := rfl
@[simp] theorem State.drained_lockPa (s : State) : s.drained.lockPa = s.lockPa := rfl
@[simp] theorem State.drained_intrFlag (s : State) : s.drained.intrFlag = s.intrFlag := rfl
@[simp] theorem State.drained_arithPending (s : State) : s.drained.arithPending = s.arithPending := rfl
@[simp] theorem State.drained_machineChecks (s : State) : s.drained.machineChecks = s.machineChecks := rfl
@[simp] theorem State.drained_idu (s : State) : s.drained.idu = s.idu := rfl
@[simp] theorem State.drained_mtu (s : State) : s.drained.mtu = s.mtu := rfl
@[simp] theorem State.drained_cbu (s : State) : s.drained.cbu = s.cbu := rfl
@[simp] theorem State.drained_pins (s : State) : s.drained.pins = s.pins := rfl
@[simp] theorem State.drained_mem (s : State) : s.drained.mem = s.mem := rfl
@[simp] theorem State.drained_model (s : State) : s.drained.model = s.model := rfl

/-! ### State.read -/

@[simp] theorem State.read_regs (s : State) (r : DRef) (pa : PAddr) : (s.read r pa).regs = s.regs := rfl
@[simp] theorem State.read_shadow (s : State) (r : DRef) (pa : PAddr) : (s.read r pa).shadow = s.shadow := rfl
@[simp] theorem State.read_fregs (s : State) (r : DRef) (pa : PAddr) : (s.read r pa).fregs = s.fregs := rfl
@[simp] theorem State.read_pc (s : State) (r : DRef) (pa : PAddr) : (s.read r pa).pc = s.pc := rfl
@[simp] theorem State.read_fpcr (s : State) (r : DRef) (pa : PAddr) : (s.read r pa).fpcr = s.fpcr := rfl
@[simp] theorem State.read_lockPa (s : State) (r : DRef) (pa : PAddr) : (s.read r pa).lockPa = s.lockPa := rfl
@[simp] theorem State.read_intrFlag (s : State) (r : DRef) (pa : PAddr) : (s.read r pa).intrFlag = s.intrFlag := rfl
@[simp] theorem State.read_arithPending (s : State) (r : DRef) (pa : PAddr) : (s.read r pa).arithPending = s.arithPending := rfl
@[simp] theorem State.read_machineChecks (s : State) (r : DRef) (pa : PAddr) : (s.read r pa).machineChecks = s.machineChecks := rfl
@[simp] theorem State.read_idu (s : State) (r : DRef) (pa : PAddr) : (s.read r pa).idu = s.idu := rfl
@[simp] theorem State.read_mtu (s : State) (r : DRef) (pa : PAddr) : (s.read r pa).mtu = s.mtu := rfl
@[simp] theorem State.read_cbu (s : State) (r : DRef) (pa : PAddr) : (s.read r pa).cbu = s.cbu := rfl
@[simp] theorem State.read_pins (s : State) (r : DRef) (pa : PAddr) : (s.read r pa).pins = s.pins := rfl
@[simp] theorem State.read_mem (s : State) (r : DRef) (pa : PAddr) : (s.read r pa).mem = s.mem := rfl
@[simp] theorem State.read_model (s : State) (r : DRef) (pa : PAddr) : (s.read r pa).model = s.model := rfl

/-! ### State.loaded -/

@[simp] theorem State.loaded_regs (s : State) (r : DRef) (pa : PAddr) : (s.loaded r pa).regs = s.regs := rfl
@[simp] theorem State.loaded_shadow (s : State) (r : DRef) (pa : PAddr) : (s.loaded r pa).shadow = s.shadow := rfl
@[simp] theorem State.loaded_fregs (s : State) (r : DRef) (pa : PAddr) : (s.loaded r pa).fregs = s.fregs := rfl
@[simp] theorem State.loaded_pc (s : State) (r : DRef) (pa : PAddr) : (s.loaded r pa).pc = s.pc := rfl
@[simp] theorem State.loaded_fpcr (s : State) (r : DRef) (pa : PAddr) : (s.loaded r pa).fpcr = s.fpcr := rfl
@[simp] theorem State.loaded_lockPa (s : State) (r : DRef) (pa : PAddr) : (s.loaded r pa).lockPa = s.lockPa := rfl
@[simp] theorem State.loaded_intrFlag (s : State) (r : DRef) (pa : PAddr) : (s.loaded r pa).intrFlag = s.intrFlag := rfl
@[simp] theorem State.loaded_arithPending (s : State) (r : DRef) (pa : PAddr) : (s.loaded r pa).arithPending = s.arithPending := rfl
@[simp] theorem State.loaded_machineChecks (s : State) (r : DRef) (pa : PAddr) : (s.loaded r pa).machineChecks = s.machineChecks := rfl
@[simp] theorem State.loaded_idu (s : State) (r : DRef) (pa : PAddr) : (s.loaded r pa).idu = s.idu := rfl
@[simp] theorem State.loaded_mtu (s : State) (r : DRef) (pa : PAddr) : (s.loaded r pa).mtu = s.mtu := rfl
@[simp] theorem State.loaded_pins (s : State) (r : DRef) (pa : PAddr) : (s.loaded r pa).pins = s.pins := rfl
@[simp] theorem State.loaded_mem (s : State) (r : DRef) (pa : PAddr) : (s.loaded r pa).mem = s.mem := rfl

/-! ### State.noteCbuLoad -/

@[simp] theorem State.noteCbuLoad_regs (s : State) (r : DRef) (pa : PAddr) (t : State) : (s.noteCbuLoad r pa t).regs = t.regs := rfl
@[simp] theorem State.noteCbuLoad_shadow (s : State) (r : DRef) (pa : PAddr) (t : State) : (s.noteCbuLoad r pa t).shadow = t.shadow := rfl
@[simp] theorem State.noteCbuLoad_fregs (s : State) (r : DRef) (pa : PAddr) (t : State) : (s.noteCbuLoad r pa t).fregs = t.fregs := rfl
@[simp] theorem State.noteCbuLoad_pc (s : State) (r : DRef) (pa : PAddr) (t : State) : (s.noteCbuLoad r pa t).pc = t.pc := rfl
@[simp] theorem State.noteCbuLoad_fpcr (s : State) (r : DRef) (pa : PAddr) (t : State) : (s.noteCbuLoad r pa t).fpcr = t.fpcr := rfl
@[simp] theorem State.noteCbuLoad_lockPa (s : State) (r : DRef) (pa : PAddr) (t : State) : (s.noteCbuLoad r pa t).lockPa = t.lockPa := rfl
@[simp] theorem State.noteCbuLoad_intrFlag (s : State) (r : DRef) (pa : PAddr) (t : State) : (s.noteCbuLoad r pa t).intrFlag = t.intrFlag := rfl
@[simp] theorem State.noteCbuLoad_arithPending (s : State) (r : DRef) (pa : PAddr) (t : State) : (s.noteCbuLoad r pa t).arithPending = t.arithPending := rfl
@[simp] theorem State.noteCbuLoad_machineChecks (s : State) (r : DRef) (pa : PAddr) (t : State) : (s.noteCbuLoad r pa t).machineChecks = t.machineChecks := rfl
@[simp] theorem State.noteCbuLoad_idu (s : State) (r : DRef) (pa : PAddr) (t : State) : (s.noteCbuLoad r pa t).idu = t.idu := rfl
@[simp] theorem State.noteCbuLoad_mtu (s : State) (r : DRef) (pa : PAddr) (t : State) : (s.noteCbuLoad r pa t).mtu = t.mtu := rfl
@[simp] theorem State.noteCbuLoad_cbu (s : State) (r : DRef) (pa : PAddr) (t : State) : (s.noteCbuLoad r pa t).cbu = t.cbu := rfl
@[simp] theorem State.noteCbuLoad_pins (s : State) (r : DRef) (pa : PAddr) (t : State) : (s.noteCbuLoad r pa t).pins = t.pins := rfl
@[simp] theorem State.noteCbuLoad_mem (s : State) (r : DRef) (pa : PAddr) (t : State) : (s.noteCbuLoad r pa t).mem = t.mem := rfl

/-! ### State.dcacheStore -/

@[simp] theorem State.dcacheStore_regs (s : State) (r : DRef) (pa : PAddr) (t : State) : (s.dcacheStore r pa t).regs = t.regs := rfl
@[simp] theorem State.dcacheStore_shadow (s : State) (r : DRef) (pa : PAddr) (t : State) : (s.dcacheStore r pa t).shadow = t.shadow := rfl
@[simp] theorem State.dcacheStore_fregs (s : State) (r : DRef) (pa : PAddr) (t : State) : (s.dcacheStore r pa t).fregs = t.fregs := rfl
@[simp] theorem State.dcacheStore_pc (s : State) (r : DRef) (pa : PAddr) (t : State) : (s.dcacheStore r pa t).pc = t.pc := rfl
@[simp] theorem State.dcacheStore_fpcr (s : State) (r : DRef) (pa : PAddr) (t : State) : (s.dcacheStore r pa t).fpcr = t.fpcr := rfl
@[simp] theorem State.dcacheStore_lockFlag (s : State) (r : DRef) (pa : PAddr) (t : State) : (s.dcacheStore r pa t).lockFlag = t.lockFlag := rfl
@[simp] theorem State.dcacheStore_lockPa (s : State) (r : DRef) (pa : PAddr) (t : State) : (s.dcacheStore r pa t).lockPa = t.lockPa := rfl
@[simp] theorem State.dcacheStore_intrFlag (s : State) (r : DRef) (pa : PAddr) (t : State) : (s.dcacheStore r pa t).intrFlag = t.intrFlag := rfl
@[simp] theorem State.dcacheStore_arithPending (s : State) (r : DRef) (pa : PAddr) (t : State) : (s.dcacheStore r pa t).arithPending = t.arithPending := rfl
@[simp] theorem State.dcacheStore_machineChecks (s : State) (r : DRef) (pa : PAddr) (t : State) : (s.dcacheStore r pa t).machineChecks = t.machineChecks := rfl
@[simp] theorem State.dcacheStore_idu (s : State) (r : DRef) (pa : PAddr) (t : State) : (s.dcacheStore r pa t).idu = t.idu := rfl
@[simp] theorem State.dcacheStore_mtu (s : State) (r : DRef) (pa : PAddr) (t : State) : (s.dcacheStore r pa t).mtu = t.mtu := rfl
@[simp] theorem State.dcacheStore_cbu (s : State) (r : DRef) (pa : PAddr) (t : State) : (s.dcacheStore r pa t).cbu = t.cbu := rfl
@[simp] theorem State.dcacheStore_pins (s : State) (r : DRef) (pa : PAddr) (t : State) : (s.dcacheStore r pa t).pins = t.pins := rfl
@[simp] theorem State.dcacheStore_mem (s : State) (r : DRef) (pa : PAddr) (t : State) : (s.dcacheStore r pa t).mem = t.mem := rfl
@[simp] theorem State.dcacheStore_model (s : State) (r : DRef) (pa : PAddr) (t : State) : (s.dcacheStore r pa t).model = t.model := rfl

/-! ### State.noteUnknown -/

@[simp] theorem State.noteUnknown_regs (s : State) (l : List Nat) : (s.noteUnknown l).regs = s.regs := rfl
@[simp] theorem State.noteUnknown_shadow (s : State) (l : List Nat) : (s.noteUnknown l).shadow = s.shadow := rfl
@[simp] theorem State.noteUnknown_fregs (s : State) (l : List Nat) : (s.noteUnknown l).fregs = s.fregs := rfl
@[simp] theorem State.noteUnknown_pc (s : State) (l : List Nat) : (s.noteUnknown l).pc = s.pc := rfl
@[simp] theorem State.noteUnknown_fpcr (s : State) (l : List Nat) : (s.noteUnknown l).fpcr = s.fpcr := rfl
@[simp] theorem State.noteUnknown_lockFlag (s : State) (l : List Nat) : (s.noteUnknown l).lockFlag = s.lockFlag := rfl
@[simp] theorem State.noteUnknown_lockPa (s : State) (l : List Nat) : (s.noteUnknown l).lockPa = s.lockPa := rfl
@[simp] theorem State.noteUnknown_intrFlag (s : State) (l : List Nat) : (s.noteUnknown l).intrFlag = s.intrFlag := rfl
@[simp] theorem State.noteUnknown_arithPending (s : State) (l : List Nat) : (s.noteUnknown l).arithPending = s.arithPending := rfl
@[simp] theorem State.noteUnknown_machineChecks (s : State) (l : List Nat) : (s.noteUnknown l).machineChecks = s.machineChecks := rfl
@[simp] theorem State.noteUnknown_idu (s : State) (l : List Nat) : (s.noteUnknown l).idu = s.idu := rfl
@[simp] theorem State.noteUnknown_mtu (s : State) (l : List Nat) : (s.noteUnknown l).mtu = s.mtu := rfl
@[simp] theorem State.noteUnknown_cbu (s : State) (l : List Nat) : (s.noteUnknown l).cbu = s.cbu := rfl
@[simp] theorem State.noteUnknown_pins (s : State) (l : List Nat) : (s.noteUnknown l).pins = s.pins := rfl
@[simp] theorem State.noteUnknown_mem (s : State) (l : List Nat) : (s.noteUnknown l).mem = s.mem := rfl
@[simp] theorem State.noteUnknown_memsys (s : State) (l : List Nat) : (s.noteUnknown l).memsys = s.memsys := rfl

/-! ### State.condWritten -/

@[simp] theorem State.condWritten_regs (s : State) (ok : Bool) (n : Nat) (pa : PAddr) (v : Quad) : (s.condWritten ok n pa v).regs = s.regs := by
  unfold State.condWritten
  cases ok <;> rfl
@[simp] theorem State.condWritten_shadow (s : State) (ok : Bool) (n : Nat) (pa : PAddr) (v : Quad) : (s.condWritten ok n pa v).shadow = s.shadow := by
  unfold State.condWritten
  cases ok <;> rfl
@[simp] theorem State.condWritten_fregs (s : State) (ok : Bool) (n : Nat) (pa : PAddr) (v : Quad) : (s.condWritten ok n pa v).fregs = s.fregs := by
  unfold State.condWritten
  cases ok <;> rfl
@[simp] theorem State.condWritten_pc (s : State) (ok : Bool) (n : Nat) (pa : PAddr) (v : Quad) : (s.condWritten ok n pa v).pc = s.pc := by
  unfold State.condWritten
  cases ok <;> rfl
@[simp] theorem State.condWritten_fpcr (s : State) (ok : Bool) (n : Nat) (pa : PAddr) (v : Quad) : (s.condWritten ok n pa v).fpcr = s.fpcr := by
  unfold State.condWritten
  cases ok <;> rfl
@[simp] theorem State.condWritten_lockFlag (s : State) (ok : Bool) (n : Nat) (pa : PAddr) (v : Quad) : (s.condWritten ok n pa v).lockFlag = s.lockFlag := by
  unfold State.condWritten
  cases ok <;> rfl
@[simp] theorem State.condWritten_lockPa (s : State) (ok : Bool) (n : Nat) (pa : PAddr) (v : Quad) : (s.condWritten ok n pa v).lockPa = s.lockPa := by
  unfold State.condWritten
  cases ok <;> rfl
@[simp] theorem State.condWritten_intrFlag (s : State) (ok : Bool) (n : Nat) (pa : PAddr) (v : Quad) : (s.condWritten ok n pa v).intrFlag = s.intrFlag := by
  unfold State.condWritten
  cases ok <;> rfl
@[simp] theorem State.condWritten_arithPending (s : State) (ok : Bool) (n : Nat) (pa : PAddr) (v : Quad) : (s.condWritten ok n pa v).arithPending = s.arithPending := by
  unfold State.condWritten
  cases ok <;> rfl
@[simp] theorem State.condWritten_machineChecks (s : State) (ok : Bool) (n : Nat) (pa : PAddr) (v : Quad) : (s.condWritten ok n pa v).machineChecks = s.machineChecks := by
  unfold State.condWritten
  cases ok <;> rfl
@[simp] theorem State.condWritten_idu (s : State) (ok : Bool) (n : Nat) (pa : PAddr) (v : Quad) : (s.condWritten ok n pa v).idu = s.idu := by
  unfold State.condWritten
  cases ok <;> rfl
@[simp] theorem State.condWritten_mtu (s : State) (ok : Bool) (n : Nat) (pa : PAddr) (v : Quad) : (s.condWritten ok n pa v).mtu = s.mtu := by
  unfold State.condWritten
  cases ok <;> rfl
@[simp] theorem State.condWritten_cbu (s : State) (ok : Bool) (n : Nat) (pa : PAddr) (v : Quad) : (s.condWritten ok n pa v).cbu = s.cbu := by
  unfold State.condWritten
  cases ok <;> rfl
@[simp] theorem State.condWritten_pins (s : State) (ok : Bool) (n : Nat) (pa : PAddr) (v : Quad) : (s.condWritten ok n pa v).pins = s.pins := by
  unfold State.condWritten
  cases ok <;> rfl
@[simp] theorem State.condWritten_memsys (s : State) (ok : Bool) (n : Nat) (pa : PAddr) (v : Quad) : (s.condWritten ok n pa v).memsys = s.memsys := by
  unfold State.condWritten
  cases ok <;> rfl

/-! ### State.stored -/

@[simp] theorem State.stored_regs (s : State) (n : Nat) (pa : PAddr) (v : Quad) : (s.stored n pa v).regs = s.regs := rfl
@[simp] theorem State.stored_shadow (s : State) (n : Nat) (pa : PAddr) (v : Quad) : (s.stored n pa v).shadow = s.shadow := rfl
@[simp] theorem State.stored_fregs (s : State) (n : Nat) (pa : PAddr) (v : Quad) : (s.stored n pa v).fregs = s.fregs := rfl
@[simp] theorem State.stored_pc (s : State) (n : Nat) (pa : PAddr) (v : Quad) : (s.stored n pa v).pc = s.pc := rfl
@[simp] theorem State.stored_fpcr (s : State) (n : Nat) (pa : PAddr) (v : Quad) : (s.stored n pa v).fpcr = s.fpcr := rfl
@[simp] theorem State.stored_lockPa (s : State) (n : Nat) (pa : PAddr) (v : Quad) : (s.stored n pa v).lockPa = s.lockPa := rfl
@[simp] theorem State.stored_intrFlag (s : State) (n : Nat) (pa : PAddr) (v : Quad) : (s.stored n pa v).intrFlag = s.intrFlag := rfl
@[simp] theorem State.stored_arithPending (s : State) (n : Nat) (pa : PAddr) (v : Quad) : (s.stored n pa v).arithPending = s.arithPending := rfl
@[simp] theorem State.stored_machineChecks (s : State) (n : Nat) (pa : PAddr) (v : Quad) : (s.stored n pa v).machineChecks = s.machineChecks := rfl
@[simp] theorem State.stored_idu (s : State) (n : Nat) (pa : PAddr) (v : Quad) : (s.stored n pa v).idu = s.idu := rfl
@[simp] theorem State.stored_mtu (s : State) (n : Nat) (pa : PAddr) (v : Quad) : (s.stored n pa v).mtu = s.mtu := rfl
@[simp] theorem State.stored_cbu (s : State) (n : Nat) (pa : PAddr) (v : Quad) : (s.stored n pa v).cbu = s.cbu := rfl
@[simp] theorem State.stored_pins (s : State) (n : Nat) (pa : PAddr) (v : Quad) : (s.stored n pa v).pins = s.pins := rfl
@[simp] theorem State.stored_mem (s : State) (n : Nat) (pa : PAddr) (v : Quad) : (s.stored n pa v).mem = Memory.writeBytes s.mem pa.toNat v n := rfl

/-! ### State.condStored -/

@[simp] theorem State.condStored_regs (s : State) (r : DRef) (pa : PAddr) (v : Quad) : (s.condStored r pa v).regs = s.regs := by
  unfold State.condStored
  cases pa.getLsbD 39 <;> cases s.condSucceeds pa <;> rfl
@[simp] theorem State.condStored_shadow (s : State) (r : DRef) (pa : PAddr) (v : Quad) : (s.condStored r pa v).shadow = s.shadow := by
  unfold State.condStored
  cases pa.getLsbD 39 <;> cases s.condSucceeds pa <;> rfl
@[simp] theorem State.condStored_fregs (s : State) (r : DRef) (pa : PAddr) (v : Quad) : (s.condStored r pa v).fregs = s.fregs := by
  unfold State.condStored
  cases pa.getLsbD 39 <;> cases s.condSucceeds pa <;> rfl
@[simp] theorem State.condStored_pc (s : State) (r : DRef) (pa : PAddr) (v : Quad) : (s.condStored r pa v).pc = s.pc := by
  unfold State.condStored
  cases pa.getLsbD 39 <;> cases s.condSucceeds pa <;> rfl
@[simp] theorem State.condStored_fpcr (s : State) (r : DRef) (pa : PAddr) (v : Quad) : (s.condStored r pa v).fpcr = s.fpcr := by
  unfold State.condStored
  cases pa.getLsbD 39 <;> cases s.condSucceeds pa <;> rfl
@[simp] theorem State.condStored_lockFlag (s : State) (r : DRef) (pa : PAddr) (v : Quad) : (s.condStored r pa v).lockFlag = false := by
  unfold State.condStored
  cases pa.getLsbD 39 <;> cases s.condSucceeds pa <;> rfl
@[simp] theorem State.condStored_lockPa (s : State) (r : DRef) (pa : PAddr) (v : Quad) : (s.condStored r pa v).lockPa = s.lockPa := by
  unfold State.condStored
  cases pa.getLsbD 39 <;> cases s.condSucceeds pa <;> rfl
@[simp] theorem State.condStored_intrFlag (s : State) (r : DRef) (pa : PAddr) (v : Quad) : (s.condStored r pa v).intrFlag = s.intrFlag := by
  unfold State.condStored
  cases pa.getLsbD 39 <;> cases s.condSucceeds pa <;> rfl
@[simp] theorem State.condStored_arithPending (s : State) (r : DRef) (pa : PAddr) (v : Quad) : (s.condStored r pa v).arithPending = s.arithPending := by
  unfold State.condStored
  cases pa.getLsbD 39 <;> cases s.condSucceeds pa <;> rfl
@[simp] theorem State.condStored_machineChecks (s : State) (r : DRef) (pa : PAddr) (v : Quad) : (s.condStored r pa v).machineChecks = s.machineChecks := by
  unfold State.condStored
  cases pa.getLsbD 39 <;> cases s.condSucceeds pa <;> rfl
@[simp] theorem State.condStored_idu (s : State) (r : DRef) (pa : PAddr) (v : Quad) : (s.condStored r pa v).idu = s.idu := by
  unfold State.condStored
  cases pa.getLsbD 39 <;> cases s.condSucceeds pa <;> rfl
@[simp] theorem State.condStored_mtu (s : State) (r : DRef) (pa : PAddr) (v : Quad) : (s.condStored r pa v).mtu = s.mtu := by
  unfold State.condStored
  cases pa.getLsbD 39 <;> cases s.condSucceeds pa <;> rfl
@[simp] theorem State.condStored_cbu (s : State) (r : DRef) (pa : PAddr) (v : Quad) : (s.condStored r pa v).cbu = s.cbu := by
  unfold State.condStored
  cases pa.getLsbD 39 <;> cases s.condSucceeds pa <;> rfl
@[simp] theorem State.condStored_pins (s : State) (r : DRef) (pa : PAddr) (v : Quad) : (s.condStored r pa v).pins = s.pins := by
  unfold State.condStored
  cases pa.getLsbD 39 <;> cases s.condSucceeds pa <;> rfl

/-! ### State.lowerByte -/

@[simp] theorem State.lowerByte_regs (s : State) (a : Nat) (v : Byte) : (s.lowerByte a v).regs = s.regs := rfl
@[simp] theorem State.lowerByte_shadow (s : State) (a : Nat) (v : Byte) : (s.lowerByte a v).shadow = s.shadow := rfl
@[simp] theorem State.lowerByte_fregs (s : State) (a : Nat) (v : Byte) : (s.lowerByte a v).fregs = s.fregs := rfl
@[simp] theorem State.lowerByte_pc (s : State) (a : Nat) (v : Byte) : (s.lowerByte a v).pc = s.pc := rfl
@[simp] theorem State.lowerByte_fpcr (s : State) (a : Nat) (v : Byte) : (s.lowerByte a v).fpcr = s.fpcr := rfl
@[simp] theorem State.lowerByte_lockFlag (s : State) (a : Nat) (v : Byte) : (s.lowerByte a v).lockFlag = s.lockFlag := rfl
@[simp] theorem State.lowerByte_lockPa (s : State) (a : Nat) (v : Byte) : (s.lowerByte a v).lockPa = s.lockPa := rfl
@[simp] theorem State.lowerByte_intrFlag (s : State) (a : Nat) (v : Byte) : (s.lowerByte a v).intrFlag = s.intrFlag := rfl
@[simp] theorem State.lowerByte_arithPending (s : State) (a : Nat) (v : Byte) : (s.lowerByte a v).arithPending = s.arithPending := rfl
@[simp] theorem State.lowerByte_machineChecks (s : State) (a : Nat) (v : Byte) : (s.lowerByte a v).machineChecks = s.machineChecks := rfl
@[simp] theorem State.lowerByte_idu (s : State) (a : Nat) (v : Byte) : (s.lowerByte a v).idu = s.idu := rfl
@[simp] theorem State.lowerByte_mtu (s : State) (a : Nat) (v : Byte) : (s.lowerByte a v).mtu = s.mtu := rfl
@[simp] theorem State.lowerByte_cbu (s : State) (a : Nat) (v : Byte) : (s.lowerByte a v).cbu = s.cbu := rfl
@[simp] theorem State.lowerByte_pins (s : State) (a : Nat) (v : Byte) : (s.lowerByte a v).pins = s.pins := rfl
@[simp] theorem State.lowerByte_mem (s : State) (a : Nat) (v : Byte) : (s.lowerByte a v).mem = bif s.memsys.covers a then s.mem else Memory.write s.mem a v := rfl
@[simp] theorem State.lowerByte_model (s : State) (a : Nat) (v : Byte) : (s.lowerByte a v).model = s.model := rfl

/-! ### State.lowerLong -/

@[simp] theorem State.lowerLong_regs (s : State) (p : Nat × Long) : (s.lowerLong p).regs = s.regs := by
  simp [State.lowerLong, State.lowered]
@[simp] theorem State.lowerLong_shadow (s : State) (p : Nat × Long) : (s.lowerLong p).shadow = s.shadow := by
  simp [State.lowerLong, State.lowered]
@[simp] theorem State.lowerLong_fregs (s : State) (p : Nat × Long) : (s.lowerLong p).fregs = s.fregs := by
  simp [State.lowerLong, State.lowered]
@[simp] theorem State.lowerLong_pc (s : State) (p : Nat × Long) : (s.lowerLong p).pc = s.pc := by
  simp [State.lowerLong, State.lowered]
@[simp] theorem State.lowerLong_fpcr (s : State) (p : Nat × Long) : (s.lowerLong p).fpcr = s.fpcr := by
  simp [State.lowerLong, State.lowered]
@[simp] theorem State.lowerLong_lockFlag (s : State) (p : Nat × Long) : (s.lowerLong p).lockFlag = s.lockFlag := by
  simp [State.lowerLong, State.lowered]
@[simp] theorem State.lowerLong_lockPa (s : State) (p : Nat × Long) : (s.lowerLong p).lockPa = s.lockPa := by
  simp [State.lowerLong, State.lowered]
@[simp] theorem State.lowerLong_intrFlag (s : State) (p : Nat × Long) : (s.lowerLong p).intrFlag = s.intrFlag := by
  simp [State.lowerLong, State.lowered]
@[simp] theorem State.lowerLong_arithPending (s : State) (p : Nat × Long) : (s.lowerLong p).arithPending = s.arithPending := by
  simp [State.lowerLong, State.lowered]
@[simp] theorem State.lowerLong_machineChecks (s : State) (p : Nat × Long) : (s.lowerLong p).machineChecks = s.machineChecks := by
  simp [State.lowerLong, State.lowered]
@[simp] theorem State.lowerLong_idu (s : State) (p : Nat × Long) : (s.lowerLong p).idu = s.idu := by
  simp [State.lowerLong, State.lowered]
@[simp] theorem State.lowerLong_mtu (s : State) (p : Nat × Long) : (s.lowerLong p).mtu = s.mtu := by
  simp [State.lowerLong, State.lowered]
@[simp] theorem State.lowerLong_cbu (s : State) (p : Nat × Long) : (s.lowerLong p).cbu = s.cbu := by
  simp [State.lowerLong, State.lowered]
@[simp] theorem State.lowerLong_pins (s : State) (p : Nat × Long) : (s.lowerLong p).pins = s.pins := by
  simp [State.lowerLong, State.lowered]

/-! ### State.discard -/

theorem State.discard_cons (p : Nat × Long) (l : Longs) (s : State) : State.discard (p :: l) s = State.discard l (s.lowerLong p) := by
  simp only [State.discard, List.foldl_cons]

@[simp] theorem State.discard_regs (s : State) (l : Longs) : (s.discard l).regs = s.regs := by
  induction l generalizing s with
  | nil => rfl
  | cons p l ih => rw [State.discard_cons, ih, State.lowerLong_regs]
@[simp] theorem State.discard_shadow (s : State) (l : Longs) : (s.discard l).shadow = s.shadow := by
  induction l generalizing s with
  | nil => rfl
  | cons p l ih => rw [State.discard_cons, ih, State.lowerLong_shadow]
@[simp] theorem State.discard_fregs (s : State) (l : Longs) : (s.discard l).fregs = s.fregs := by
  induction l generalizing s with
  | nil => rfl
  | cons p l ih => rw [State.discard_cons, ih, State.lowerLong_fregs]
@[simp] theorem State.discard_pc (s : State) (l : Longs) : (s.discard l).pc = s.pc := by
  induction l generalizing s with
  | nil => rfl
  | cons p l ih => rw [State.discard_cons, ih, State.lowerLong_pc]
@[simp] theorem State.discard_fpcr (s : State) (l : Longs) : (s.discard l).fpcr = s.fpcr := by
  induction l generalizing s with
  | nil => rfl
  | cons p l ih => rw [State.discard_cons, ih, State.lowerLong_fpcr]
@[simp] theorem State.discard_lockFlag (s : State) (l : Longs) : (s.discard l).lockFlag = s.lockFlag := by
  induction l generalizing s with
  | nil => rfl
  | cons p l ih => rw [State.discard_cons, ih, State.lowerLong_lockFlag]
@[simp] theorem State.discard_lockPa (s : State) (l : Longs) : (s.discard l).lockPa = s.lockPa := by
  induction l generalizing s with
  | nil => rfl
  | cons p l ih => rw [State.discard_cons, ih, State.lowerLong_lockPa]
@[simp] theorem State.discard_intrFlag (s : State) (l : Longs) : (s.discard l).intrFlag = s.intrFlag := by
  induction l generalizing s with
  | nil => rfl
  | cons p l ih => rw [State.discard_cons, ih, State.lowerLong_intrFlag]
@[simp] theorem State.discard_arithPending (s : State) (l : Longs) : (s.discard l).arithPending = s.arithPending := by
  induction l generalizing s with
  | nil => rfl
  | cons p l ih => rw [State.discard_cons, ih, State.lowerLong_arithPending]
@[simp] theorem State.discard_machineChecks (s : State) (l : Longs) : (s.discard l).machineChecks = s.machineChecks := by
  induction l generalizing s with
  | nil => rfl
  | cons p l ih => rw [State.discard_cons, ih, State.lowerLong_machineChecks]
@[simp] theorem State.discard_idu (s : State) (l : Longs) : (s.discard l).idu = s.idu := by
  induction l generalizing s with
  | nil => rfl
  | cons p l ih => rw [State.discard_cons, ih, State.lowerLong_idu]
@[simp] theorem State.discard_mtu (s : State) (l : Longs) : (s.discard l).mtu = s.mtu := by
  induction l generalizing s with
  | nil => rfl
  | cons p l ih => rw [State.discard_cons, ih, State.lowerLong_mtu]
@[simp] theorem State.discard_cbu (s : State) (l : Longs) : (s.discard l).cbu = s.cbu := by
  induction l generalizing s with
  | nil => rfl
  | cons p l ih => rw [State.discard_cons, ih, State.lowerLong_cbu]
@[simp] theorem State.discard_pins (s : State) (l : Longs) : (s.discard l).pins = s.pins := by
  induction l generalizing s with
  | nil => rfl
  | cons p l ih => rw [State.discard_cons, ih, State.lowerLong_pins]

/-! ### State.answer -/

@[simp] theorem State.answer_regs (s : State) (b d : Bool) (r : Answer) (a : PAddr) : (s.answer b d r a).regs = s.regs := rfl
@[simp] theorem State.answer_shadow (s : State) (b d : Bool) (r : Answer) (a : PAddr) : (s.answer b d r a).shadow = s.shadow := rfl
@[simp] theorem State.answer_fregs (s : State) (b d : Bool) (r : Answer) (a : PAddr) : (s.answer b d r a).fregs = s.fregs := rfl
@[simp] theorem State.answer_pc (s : State) (b d : Bool) (r : Answer) (a : PAddr) : (s.answer b d r a).pc = s.pc := rfl
@[simp] theorem State.answer_fpcr (s : State) (b d : Bool) (r : Answer) (a : PAddr) : (s.answer b d r a).fpcr = s.fpcr := rfl
@[simp] theorem State.answer_lockFlag (s : State) (b d : Bool) (r : Answer) (a : PAddr) : (s.answer b d r a).lockFlag = s.lockFlag := rfl
@[simp] theorem State.answer_lockPa (s : State) (b d : Bool) (r : Answer) (a : PAddr) : (s.answer b d r a).lockPa = s.lockPa := rfl
@[simp] theorem State.answer_intrFlag (s : State) (b d : Bool) (r : Answer) (a : PAddr) : (s.answer b d r a).intrFlag = s.intrFlag := rfl
@[simp] theorem State.answer_arithPending (s : State) (b d : Bool) (r : Answer) (a : PAddr) : (s.answer b d r a).arithPending = s.arithPending := rfl
@[simp] theorem State.answer_machineChecks (s : State) (b d : Bool) (r : Answer) (a : PAddr) : (s.answer b d r a).machineChecks = s.machineChecks := rfl
@[simp] theorem State.answer_idu (s : State) (b d : Bool) (r : Answer) (a : PAddr) : (s.answer b d r a).idu = s.idu := rfl
@[simp] theorem State.answer_mtu (s : State) (b d : Bool) (r : Answer) (a : PAddr) : (s.answer b d r a).mtu = s.mtu := rfl
@[simp] theorem State.answer_cbu (s : State) (b d : Bool) (r : Answer) (a : PAddr) : (s.answer b d r a).cbu = s.cbu := rfl
@[simp] theorem State.answer_pins (s : State) (b d : Bool) (r : Answer) (a : PAddr) : (s.answer b d r a).pins = s.pins := rfl
@[simp] theorem State.answer_mem (s : State) (b d : Bool) (r : Answer) (a : PAddr) : (s.answer b d r a).mem = s.mem := rfl
@[simp] theorem State.answer_model (s : State) (b d : Bool) (r : Answer) (a : PAddr) : (s.answer b d r a).model = s.model := rfl

/-! ### State.probeSeen -/

@[simp] theorem State.probeSeen_regs (s : State) (op : ScacheOp) (b c : Bool) (a : PAddr) : (s.probeSeen op b c a).regs = s.regs := rfl
@[simp] theorem State.probeSeen_shadow (s : State) (op : ScacheOp) (b c : Bool) (a : PAddr) : (s.probeSeen op b c a).shadow = s.shadow := rfl
@[simp] theorem State.probeSeen_fregs (s : State) (op : ScacheOp) (b c : Bool) (a : PAddr) : (s.probeSeen op b c a).fregs = s.fregs := rfl
@[simp] theorem State.probeSeen_pc (s : State) (op : ScacheOp) (b c : Bool) (a : PAddr) : (s.probeSeen op b c a).pc = s.pc := rfl
@[simp] theorem State.probeSeen_fpcr (s : State) (op : ScacheOp) (b c : Bool) (a : PAddr) : (s.probeSeen op b c a).fpcr = s.fpcr := rfl
@[simp] theorem State.probeSeen_lockFlag (s : State) (op : ScacheOp) (b c : Bool) (a : PAddr) : (s.probeSeen op b c a).lockFlag = s.lockFlag := rfl
@[simp] theorem State.probeSeen_lockPa (s : State) (op : ScacheOp) (b c : Bool) (a : PAddr) : (s.probeSeen op b c a).lockPa = s.lockPa := rfl
@[simp] theorem State.probeSeen_intrFlag (s : State) (op : ScacheOp) (b c : Bool) (a : PAddr) : (s.probeSeen op b c a).intrFlag = s.intrFlag := rfl
@[simp] theorem State.probeSeen_arithPending (s : State) (op : ScacheOp) (b c : Bool) (a : PAddr) : (s.probeSeen op b c a).arithPending = s.arithPending := rfl
@[simp] theorem State.probeSeen_machineChecks (s : State) (op : ScacheOp) (b c : Bool) (a : PAddr) : (s.probeSeen op b c a).machineChecks = s.machineChecks := rfl
@[simp] theorem State.probeSeen_idu (s : State) (op : ScacheOp) (b c : Bool) (a : PAddr) : (s.probeSeen op b c a).idu = s.idu := rfl
@[simp] theorem State.probeSeen_mtu (s : State) (op : ScacheOp) (b c : Bool) (a : PAddr) : (s.probeSeen op b c a).mtu = s.mtu := rfl
@[simp] theorem State.probeSeen_cbu (s : State) (op : ScacheOp) (b c : Bool) (a : PAddr) : (s.probeSeen op b c a).cbu = s.cbu := rfl
@[simp] theorem State.probeSeen_pins (s : State) (op : ScacheOp) (b c : Bool) (a : PAddr) : (s.probeSeen op b c a).pins = s.pins := rfl
@[simp] theorem State.probeSeen_mem (s : State) (op : ScacheOp) (b c : Bool) (a : PAddr) : (s.probeSeen op b c a).mem = s.mem := rfl
@[simp] theorem State.probeSeen_model (s : State) (op : ScacheOp) (b c : Bool) (a : PAddr) : (s.probeSeen op b c a).model = s.model := rfl

/-! ### State.holdBlock -/

@[simp] theorem State.holdBlock_regs (s : State) (a : Nat) : (s.holdBlock a).regs = s.regs := rfl
@[simp] theorem State.holdBlock_shadow (s : State) (a : Nat) : (s.holdBlock a).shadow = s.shadow := rfl
@[simp] theorem State.holdBlock_fregs (s : State) (a : Nat) : (s.holdBlock a).fregs = s.fregs := rfl
@[simp] theorem State.holdBlock_pc (s : State) (a : Nat) : (s.holdBlock a).pc = s.pc := rfl
@[simp] theorem State.holdBlock_fpcr (s : State) (a : Nat) : (s.holdBlock a).fpcr = s.fpcr := rfl
@[simp] theorem State.holdBlock_lockFlag (s : State) (a : Nat) : (s.holdBlock a).lockFlag = s.lockFlag := rfl
@[simp] theorem State.holdBlock_lockPa (s : State) (a : Nat) : (s.holdBlock a).lockPa = s.lockPa := rfl
@[simp] theorem State.holdBlock_intrFlag (s : State) (a : Nat) : (s.holdBlock a).intrFlag = s.intrFlag := rfl
@[simp] theorem State.holdBlock_arithPending (s : State) (a : Nat) : (s.holdBlock a).arithPending = s.arithPending := rfl
@[simp] theorem State.holdBlock_machineChecks (s : State) (a : Nat) : (s.holdBlock a).machineChecks = s.machineChecks := rfl
@[simp] theorem State.holdBlock_idu (s : State) (a : Nat) : (s.holdBlock a).idu = s.idu := rfl
@[simp] theorem State.holdBlock_mtu (s : State) (a : Nat) : (s.holdBlock a).mtu = s.mtu := rfl
@[simp] theorem State.holdBlock_cbu (s : State) (a : Nat) : (s.holdBlock a).cbu = s.cbu := rfl
@[simp] theorem State.holdBlock_pins (s : State) (a : Nat) : (s.holdBlock a).pins = s.pins := rfl
@[simp] theorem State.holdBlock_mem (s : State) (a : Nat) : (s.holdBlock a).mem = s.mem := rfl
@[simp] theorem State.holdBlock_memsys (s : State) (a : Nat) : (s.holdBlock a).memsys = s.memsys := rfl

/-! ### State.takeForced -/

/-- A read in Scache force hit mode changes SC_STAT alone. -/
theorem Cbu.forcedRead_frame (c : Cbu) (p : BitVec 8) : { c.forcedRead p with scStat := c.scStat } = c := by
  rcases c with ⟨_, _, _ | _, _⟩ <;> rfl

theorem State.takeForced_cbu (s : State) : { s.takeForced.cbu with scStat := s.cbu.scStat } = s.cbu := by
  unfold State.takeForced
  dsimp only
  split
  · rfl
  · exact Cbu.forcedRead_frame _ _

/-- With nothing posted nothing is taken. -/
theorem State.takeForced_nil (s : State) (h : s.memsys.caches.posted.filterMap Event.forced = []) : s.takeForced.cbu = s.cbu := by
  unfold State.takeForced
  dsimp only
  rw [h]
  rfl

/-! ### State.istreamRead -/

@[simp] theorem State.istreamRead_regs (s : State) (pa : PAddr) : (s.istreamRead pa).regs = s.regs := rfl
@[simp] theorem State.istreamRead_shadow (s : State) (pa : PAddr) : (s.istreamRead pa).shadow = s.shadow := rfl
@[simp] theorem State.istreamRead_fregs (s : State) (pa : PAddr) : (s.istreamRead pa).fregs = s.fregs := rfl
@[simp] theorem State.istreamRead_pc (s : State) (pa : PAddr) : (s.istreamRead pa).pc = s.pc := rfl
@[simp] theorem State.istreamRead_fpcr (s : State) (pa : PAddr) : (s.istreamRead pa).fpcr = s.fpcr := rfl
@[simp] theorem State.istreamRead_lockPa (s : State) (pa : PAddr) : (s.istreamRead pa).lockPa = s.lockPa := rfl
@[simp] theorem State.istreamRead_intrFlag (s : State) (pa : PAddr) : (s.istreamRead pa).intrFlag = s.intrFlag := rfl
@[simp] theorem State.istreamRead_arithPending (s : State) (pa : PAddr) : (s.istreamRead pa).arithPending = s.arithPending := rfl
@[simp] theorem State.istreamRead_machineChecks (s : State) (pa : PAddr) : (s.istreamRead pa).machineChecks = s.machineChecks := rfl
@[simp] theorem State.istreamRead_idu (s : State) (pa : PAddr) : (s.istreamRead pa).idu = s.idu := rfl
@[simp] theorem State.istreamRead_mtu (s : State) (pa : PAddr) : (s.istreamRead pa).mtu = s.mtu := rfl
theorem State.istreamRead_cbu (s : State) (pa : PAddr) : { (s.istreamRead pa).cbu with scStat := s.cbu.scStat } = s.cbu :=
  State.takeForced_cbu _
@[simp] theorem State.istreamRead_pins (s : State) (pa : PAddr) : (s.istreamRead pa).pins = s.pins := rfl
@[simp] theorem State.istreamRead_mem (s : State) (pa : PAddr) : (s.istreamRead pa).mem = s.mem := rfl

/-! ### State.oweCheck -/

@[simp] theorem State.oweCheck_regs (s : State) (now : Bool) : (s.oweCheck now).regs = s.regs := rfl
@[simp] theorem State.oweCheck_shadow (s : State) (now : Bool) : (s.oweCheck now).shadow = s.shadow := rfl
@[simp] theorem State.oweCheck_fregs (s : State) (now : Bool) : (s.oweCheck now).fregs = s.fregs := rfl
@[simp] theorem State.oweCheck_pc (s : State) (now : Bool) : (s.oweCheck now).pc = s.pc := rfl
@[simp] theorem State.oweCheck_fpcr (s : State) (now : Bool) : (s.oweCheck now).fpcr = s.fpcr := rfl
@[simp] theorem State.oweCheck_lockFlag (s : State) (now : Bool) : (s.oweCheck now).lockFlag = s.lockFlag := rfl
@[simp] theorem State.oweCheck_lockPa (s : State) (now : Bool) : (s.oweCheck now).lockPa = s.lockPa := rfl
@[simp] theorem State.oweCheck_intrFlag (s : State) (now : Bool) : (s.oweCheck now).intrFlag = s.intrFlag := rfl
@[simp] theorem State.oweCheck_arithPending (s : State) (now : Bool) : (s.oweCheck now).arithPending = s.arithPending := rfl
@[simp] theorem State.oweCheck_idu (s : State) (now : Bool) : (s.oweCheck now).idu = s.idu := rfl
@[simp] theorem State.oweCheck_mtu (s : State) (now : Bool) : (s.oweCheck now).mtu = s.mtu := rfl
@[simp] theorem State.oweCheck_cbu (s : State) (now : Bool) : (s.oweCheck now).cbu = s.cbu := rfl
@[simp] theorem State.oweCheck_pins (s : State) (now : Bool) : (s.oweCheck now).pins = s.pins := rfl
@[simp] theorem State.oweCheck_mem (s : State) (now : Bool) : (s.oweCheck now).mem = s.mem := rfl
@[simp] theorem State.oweCheck_memsys (s : State) (now : Bool) : (s.oweCheck now).memsys = s.memsys := rfl
@[simp] theorem State.oweCheck_model (s : State) (now : Bool) : (s.oweCheck now).model = s.model := rfl

/-! ### State.drainFor -/

@[simp] theorem State.drainFor_regs (s : State) (e : Entry) : (s.drainFor e).regs = s.regs := by
  unfold State.drainFor
  cases e.drains && s.memsys.maf.any (·.waits) <;> rfl
@[simp] theorem State.drainFor_shadow (s : State) (e : Entry) : (s.drainFor e).shadow = s.shadow := by
  unfold State.drainFor
  cases e.drains && s.memsys.maf.any (·.waits) <;> rfl
@[simp] theorem State.drainFor_fregs (s : State) (e : Entry) : (s.drainFor e).fregs = s.fregs := by
  unfold State.drainFor
  cases e.drains && s.memsys.maf.any (·.waits) <;> rfl
@[simp] theorem State.drainFor_pc (s : State) (e : Entry) : (s.drainFor e).pc = s.pc := by
  unfold State.drainFor
  cases e.drains && s.memsys.maf.any (·.waits) <;> rfl
@[simp] theorem State.drainFor_fpcr (s : State) (e : Entry) : (s.drainFor e).fpcr = s.fpcr := by
  unfold State.drainFor
  cases e.drains && s.memsys.maf.any (·.waits) <;> rfl
@[simp] theorem State.drainFor_lockPa (s : State) (e : Entry) : (s.drainFor e).lockPa = s.lockPa := by
  unfold State.drainFor
  cases e.drains && s.memsys.maf.any (·.waits) <;> rfl
@[simp] theorem State.drainFor_intrFlag (s : State) (e : Entry) : (s.drainFor e).intrFlag = s.intrFlag := by
  unfold State.drainFor
  cases e.drains && s.memsys.maf.any (·.waits) <;> rfl
@[simp] theorem State.drainFor_arithPending (s : State) (e : Entry) : (s.drainFor e).arithPending = s.arithPending := by
  unfold State.drainFor
  cases e.drains && s.memsys.maf.any (·.waits) <;> rfl
@[simp] theorem State.drainFor_machineChecks (s : State) (e : Entry) : (s.drainFor e).machineChecks = s.machineChecks := by
  unfold State.drainFor
  cases e.drains && s.memsys.maf.any (·.waits) <;> rfl
@[simp] theorem State.drainFor_idu (s : State) (e : Entry) : (s.drainFor e).idu = s.idu := by
  unfold State.drainFor
  cases e.drains && s.memsys.maf.any (·.waits) <;> rfl
@[simp] theorem State.drainFor_mtu (s : State) (e : Entry) : (s.drainFor e).mtu = s.mtu := by
  unfold State.drainFor
  cases e.drains && s.memsys.maf.any (·.waits) <;> rfl
@[simp] theorem State.drainFor_cbu (s : State) (e : Entry) : (s.drainFor e).cbu = s.cbu := by
  unfold State.drainFor
  cases e.drains && s.memsys.maf.any (·.waits) <;> rfl
@[simp] theorem State.drainFor_pins (s : State) (e : Entry) : (s.drainFor e).pins = s.pins := by
  unfold State.drainFor
  cases e.drains && s.memsys.maf.any (·.waits) <;> rfl
@[simp] theorem State.drainFor_mem (s : State) (e : Entry) : (s.drainFor e).mem = s.mem := by
  unfold State.drainFor
  cases e.drains && s.memsys.maf.any (·.waits) <;> rfl
@[simp] theorem State.drainFor_model (s : State) (e : Entry) : (s.drainFor e).model = s.model := by
  unfold State.drainFor
  cases e.drains && s.memsys.maf.any (·.waits) <;> rfl

/-! ### State.probed -/

@[simp] theorem State.probed_regs (s : State) (a : PAddr) : (s.probed a).regs = s.regs := by
  unfold State.probed
  cases s.sameBlock a s.lockPa <;> rfl
@[simp] theorem State.probed_shadow (s : State) (a : PAddr) : (s.probed a).shadow = s.shadow := by
  unfold State.probed
  cases s.sameBlock a s.lockPa <;> rfl
@[simp] theorem State.probed_fregs (s : State) (a : PAddr) : (s.probed a).fregs = s.fregs := by
  unfold State.probed
  cases s.sameBlock a s.lockPa <;> rfl
@[simp] theorem State.probed_pc (s : State) (a : PAddr) : (s.probed a).pc = s.pc := by
  unfold State.probed
  cases s.sameBlock a s.lockPa <;> rfl
@[simp] theorem State.probed_fpcr (s : State) (a : PAddr) : (s.probed a).fpcr = s.fpcr := by
  unfold State.probed
  cases s.sameBlock a s.lockPa <;> rfl
@[simp] theorem State.probed_lockPa (s : State) (a : PAddr) : (s.probed a).lockPa = s.lockPa := by
  unfold State.probed
  cases s.sameBlock a s.lockPa <;> rfl
@[simp] theorem State.probed_intrFlag (s : State) (a : PAddr) : (s.probed a).intrFlag = s.intrFlag := by
  unfold State.probed
  cases s.sameBlock a s.lockPa <;> rfl
@[simp] theorem State.probed_arithPending (s : State) (a : PAddr) : (s.probed a).arithPending = s.arithPending := by
  unfold State.probed
  cases s.sameBlock a s.lockPa <;> rfl
@[simp] theorem State.probed_machineChecks (s : State) (a : PAddr) : (s.probed a).machineChecks = s.machineChecks := by
  unfold State.probed
  cases s.sameBlock a s.lockPa <;> rfl
@[simp] theorem State.probed_idu (s : State) (a : PAddr) : (s.probed a).idu = s.idu := by
  unfold State.probed
  cases s.sameBlock a s.lockPa <;> rfl
@[simp] theorem State.probed_mtu (s : State) (a : PAddr) : (s.probed a).mtu = s.mtu := by
  unfold State.probed
  cases s.sameBlock a s.lockPa <;> rfl
@[simp] theorem State.probed_cbu (s : State) (a : PAddr) : (s.probed a).cbu = s.cbu := by
  unfold State.probed
  cases s.sameBlock a s.lockPa <;> rfl
@[simp] theorem State.probed_pins (s : State) (a : PAddr) : (s.probed a).pins = s.pins := by
  unfold State.probed
  cases s.sameBlock a s.lockPa <;> rfl
@[simp] theorem State.probed_mem (s : State) (a : PAddr) : (s.probed a).mem = s.mem := by
  unfold State.probed
  cases s.sameBlock a s.lockPa <;> rfl
@[simp] theorem State.probed_memsys (s : State) (a : PAddr) : (s.probed a).memsys = s.memsys := by
  unfold State.probed
  cases s.sameBlock a s.lockPa <;> rfl
@[simp] theorem State.probed_model (s : State) (a : PAddr) : (s.probed a).model = s.model := by
  unfold State.probed
  cases s.sameBlock a s.lockPa <;> rfl

/-! ### State.afterMfpr -/

@[simp] theorem State.afterMfpr_regs (s : State) (i : BitVec 16) : (s.afterMfpr i).regs = s.regs := by
  unfold State.afterMfpr
  cases i.extractLsb' 8 8 == 2 <;> rfl
@[simp] theorem State.afterMfpr_shadow (s : State) (i : BitVec 16) : (s.afterMfpr i).shadow = s.shadow := by
  unfold State.afterMfpr
  cases i.extractLsb' 8 8 == 2 <;> rfl
@[simp] theorem State.afterMfpr_fregs (s : State) (i : BitVec 16) : (s.afterMfpr i).fregs = s.fregs := by
  unfold State.afterMfpr
  cases i.extractLsb' 8 8 == 2 <;> rfl
@[simp] theorem State.afterMfpr_pc (s : State) (i : BitVec 16) : (s.afterMfpr i).pc = s.pc := by
  unfold State.afterMfpr
  cases i.extractLsb' 8 8 == 2 <;> rfl
@[simp] theorem State.afterMfpr_fpcr (s : State) (i : BitVec 16) : (s.afterMfpr i).fpcr = s.fpcr := by
  unfold State.afterMfpr
  cases i.extractLsb' 8 8 == 2 <;> rfl
@[simp] theorem State.afterMfpr_lockFlag (s : State) (i : BitVec 16) : (s.afterMfpr i).lockFlag = s.lockFlag := by
  unfold State.afterMfpr
  cases i.extractLsb' 8 8 == 2 <;> rfl
@[simp] theorem State.afterMfpr_lockPa (s : State) (i : BitVec 16) : (s.afterMfpr i).lockPa = s.lockPa := by
  unfold State.afterMfpr
  cases i.extractLsb' 8 8 == 2 <;> rfl
@[simp] theorem State.afterMfpr_intrFlag (s : State) (i : BitVec 16) : (s.afterMfpr i).intrFlag = s.intrFlag := by
  unfold State.afterMfpr
  cases i.extractLsb' 8 8 == 2 <;> rfl
@[simp] theorem State.afterMfpr_arithPending (s : State) (i : BitVec 16) : (s.afterMfpr i).arithPending = s.arithPending := by
  unfold State.afterMfpr
  cases i.extractLsb' 8 8 == 2 <;> rfl
@[simp] theorem State.afterMfpr_machineChecks (s : State) (i : BitVec 16) : (s.afterMfpr i).machineChecks = s.machineChecks := by
  unfold State.afterMfpr
  cases i.extractLsb' 8 8 == 2 <;> rfl
@[simp] theorem State.afterMfpr_idu (s : State) (i : BitVec 16) : (s.afterMfpr i).idu = s.idu := by
  unfold State.afterMfpr
  cases i.extractLsb' 8 8 == 2 <;> rfl
@[simp] theorem State.afterMfpr_mtu (s : State) (i : BitVec 16) : (s.afterMfpr i).mtu = s.mtu := by
  unfold State.afterMfpr
  cases i.extractLsb' 8 8 == 2 <;> rfl
@[simp] theorem State.afterMfpr_cbu (s : State) (i : BitVec 16) : (s.afterMfpr i).cbu = s.cbu := by
  unfold State.afterMfpr
  cases i.extractLsb' 8 8 == 2 <;> rfl
@[simp] theorem State.afterMfpr_pins (s : State) (i : BitVec 16) : (s.afterMfpr i).pins = s.pins := by
  unfold State.afterMfpr
  cases i.extractLsb' 8 8 == 2 <;> rfl
@[simp] theorem State.afterMfpr_mem (s : State) (i : BitVec 16) : (s.afterMfpr i).mem = s.mem := by
  unfold State.afterMfpr
  cases i.extractLsb' 8 8 == 2 <;> rfl
@[simp] theorem State.afterMfpr_memsys (s : State) (i : BitVec 16) : (s.afterMfpr i).memsys = s.memsys := by
  unfold State.afterMfpr
  cases i.extractLsb' 8 8 == 2 <;> rfl

/-! ### State.setLock -/

@[simp] theorem State.setLock_regs (s : State) (pa : PAddr) : (s.setLock pa).regs = s.regs := rfl
@[simp] theorem State.setLock_shadow (s : State) (pa : PAddr) : (s.setLock pa).shadow = s.shadow := rfl
@[simp] theorem State.setLock_fregs (s : State) (pa : PAddr) : (s.setLock pa).fregs = s.fregs := rfl
@[simp] theorem State.setLock_pc (s : State) (pa : PAddr) : (s.setLock pa).pc = s.pc := rfl
@[simp] theorem State.setLock_fpcr (s : State) (pa : PAddr) : (s.setLock pa).fpcr = s.fpcr := rfl
@[simp] theorem State.setLock_lockFlag (s : State) (pa : PAddr) : (s.setLock pa).lockFlag = true := rfl
@[simp] theorem State.setLock_lockPa (s : State) (pa : PAddr) : (s.setLock pa).lockPa = pa := rfl
@[simp] theorem State.setLock_intrFlag (s : State) (pa : PAddr) : (s.setLock pa).intrFlag = s.intrFlag := rfl
@[simp] theorem State.setLock_arithPending (s : State) (pa : PAddr) : (s.setLock pa).arithPending = s.arithPending := rfl
@[simp] theorem State.setLock_machineChecks (s : State) (pa : PAddr) : (s.setLock pa).machineChecks = s.machineChecks := rfl
@[simp] theorem State.setLock_idu (s : State) (pa : PAddr) : (s.setLock pa).idu = s.idu := rfl
@[simp] theorem State.setLock_mtu (s : State) (pa : PAddr) : (s.setLock pa).mtu = s.mtu := rfl
@[simp] theorem State.setLock_cbu (s : State) (pa : PAddr) : (s.setLock pa).cbu = s.cbu := rfl
@[simp] theorem State.setLock_pins (s : State) (pa : PAddr) : (s.setLock pa).pins = s.pins := rfl
@[simp] theorem State.setLock_mem (s : State) (pa : PAddr) : (s.setLock pa).mem = s.mem := rfl
@[simp] theorem State.setLock_memsys (s : State) (pa : PAddr) : (s.setLock pa).memsys = s.memsys := rfl
@[simp] theorem State.setLock_model (s : State) (pa : PAddr) : (s.setLock pa).model = s.model := rfl

/-! ### State.locks -/

@[simp] theorem State.locks_regs (s : State) (pa : PAddr) : (s.locks pa).regs = s.regs := by
  unfold State.locks
  cases s.stopped <;> rfl
@[simp] theorem State.locks_shadow (s : State) (pa : PAddr) : (s.locks pa).shadow = s.shadow := by
  unfold State.locks
  cases s.stopped <;> rfl
@[simp] theorem State.locks_fregs (s : State) (pa : PAddr) : (s.locks pa).fregs = s.fregs := by
  unfold State.locks
  cases s.stopped <;> rfl
@[simp] theorem State.locks_pc (s : State) (pa : PAddr) : (s.locks pa).pc = s.pc := by
  unfold State.locks
  cases s.stopped <;> rfl
@[simp] theorem State.locks_fpcr (s : State) (pa : PAddr) : (s.locks pa).fpcr = s.fpcr := by
  unfold State.locks
  cases s.stopped <;> rfl
@[simp] theorem State.locks_intrFlag (s : State) (pa : PAddr) : (s.locks pa).intrFlag = s.intrFlag := by
  unfold State.locks
  cases s.stopped <;> rfl
@[simp] theorem State.locks_arithPending (s : State) (pa : PAddr) : (s.locks pa).arithPending = s.arithPending := by
  unfold State.locks
  cases s.stopped <;> rfl
@[simp] theorem State.locks_machineChecks (s : State) (pa : PAddr) : (s.locks pa).machineChecks = s.machineChecks := by
  unfold State.locks
  cases s.stopped <;> rfl
@[simp] theorem State.locks_idu (s : State) (pa : PAddr) : (s.locks pa).idu = s.idu := by
  unfold State.locks
  cases s.stopped <;> rfl
@[simp] theorem State.locks_mtu (s : State) (pa : PAddr) : (s.locks pa).mtu = s.mtu := by
  unfold State.locks
  cases s.stopped <;> rfl
@[simp] theorem State.locks_cbu (s : State) (pa : PAddr) : (s.locks pa).cbu = s.cbu := by
  unfold State.locks
  cases s.stopped <;> rfl
@[simp] theorem State.locks_pins (s : State) (pa : PAddr) : (s.locks pa).pins = s.pins := by
  unfold State.locks
  cases s.stopped <;> rfl
@[simp] theorem State.locks_mem (s : State) (pa : PAddr) : (s.locks pa).mem = s.mem := by
  unfold State.locks
  cases s.stopped <;> rfl
@[simp] theorem State.locks_memsys (s : State) (pa : PAddr) : (s.locks pa).memsys = s.memsys := by
  unfold State.locks
  cases s.stopped <;> rfl
@[simp] theorem State.locks_model (s : State) (pa : PAddr) : (s.locks pa).model = s.model := by
  unfold State.locks
  cases s.stopped <;> rfl

/-- A locked load that the CBU has accepted sets the lock (20_memory.md R351). -/
theorem State.locks_of_running (s : State) (pa : PAddr) (h : s.stopped = false) : s.locks pa = s.setLock pa := by
  unfold State.locks
  rw [h]
  rfl

/-- One that MAF_MODE<MAF_ARB_DISABLE> holds back does not (12_state_mtu_iprs.md R207). -/
theorem State.locks_of_stopped (s : State) (pa : PAddr) (h : s.stopped = true) : s.locks pa = s := by
  unfold State.locks
  rw [h]
  rfl

/-! ### State.writeIcm -/

@[simp] theorem State.writeIcm_regs (s : State) (v : Quad) : (s.writeIcm v).regs = s.regs := rfl
@[simp] theorem State.writeIcm_shadow (s : State) (v : Quad) : (s.writeIcm v).shadow = s.shadow := rfl
@[simp] theorem State.writeIcm_fregs (s : State) (v : Quad) : (s.writeIcm v).fregs = s.fregs := rfl
@[simp] theorem State.writeIcm_pc (s : State) (v : Quad) : (s.writeIcm v).pc = s.pc := rfl
@[simp] theorem State.writeIcm_fpcr (s : State) (v : Quad) : (s.writeIcm v).fpcr = s.fpcr := rfl
@[simp] theorem State.writeIcm_lockFlag (s : State) (v : Quad) : (s.writeIcm v).lockFlag = s.lockFlag := rfl
@[simp] theorem State.writeIcm_lockPa (s : State) (v : Quad) : (s.writeIcm v).lockPa = s.lockPa := rfl
@[simp] theorem State.writeIcm_intrFlag (s : State) (v : Quad) : (s.writeIcm v).intrFlag = s.intrFlag := rfl
@[simp] theorem State.writeIcm_arithPending (s : State) (v : Quad) : (s.writeIcm v).arithPending = s.arithPending := rfl
@[simp] theorem State.writeIcm_machineChecks (s : State) (v : Quad) : (s.writeIcm v).machineChecks = s.machineChecks := rfl
@[simp] theorem State.writeIcm_mtu (s : State) (v : Quad) : (s.writeIcm v).mtu = s.mtu := rfl
@[simp] theorem State.writeIcm_cbu (s : State) (v : Quad) : (s.writeIcm v).cbu = s.cbu := rfl
@[simp] theorem State.writeIcm_pins (s : State) (v : Quad) : (s.writeIcm v).pins = s.pins := rfl
@[simp] theorem State.writeIcm_mem (s : State) (v : Quad) : (s.writeIcm v).mem = s.mem := rfl
@[simp] theorem State.writeIcm_memsys (s : State) (v : Quad) : (s.writeIcm v).memsys = s.memsys := rfl

/-! ### State.writeMafMode -/

@[simp] theorem State.writeMafMode_regs (s : State) (v : Quad) : (s.writeMafMode v).regs = s.regs := rfl
@[simp] theorem State.writeMafMode_shadow (s : State) (v : Quad) : (s.writeMafMode v).shadow = s.shadow := rfl
@[simp] theorem State.writeMafMode_fregs (s : State) (v : Quad) : (s.writeMafMode v).fregs = s.fregs := rfl
@[simp] theorem State.writeMafMode_pc (s : State) (v : Quad) : (s.writeMafMode v).pc = s.pc := rfl
@[simp] theorem State.writeMafMode_fpcr (s : State) (v : Quad) : (s.writeMafMode v).fpcr = s.fpcr := rfl
@[simp] theorem State.writeMafMode_lockFlag (s : State) (v : Quad) : (s.writeMafMode v).lockFlag = s.lockFlag := rfl
@[simp] theorem State.writeMafMode_lockPa (s : State) (v : Quad) : (s.writeMafMode v).lockPa = s.lockPa := rfl
@[simp] theorem State.writeMafMode_intrFlag (s : State) (v : Quad) : (s.writeMafMode v).intrFlag = s.intrFlag := rfl
@[simp] theorem State.writeMafMode_arithPending (s : State) (v : Quad) : (s.writeMafMode v).arithPending = s.arithPending := rfl
@[simp] theorem State.writeMafMode_machineChecks (s : State) (v : Quad) : (s.writeMafMode v).machineChecks = s.machineChecks := rfl
@[simp] theorem State.writeMafMode_idu (s : State) (v : Quad) : (s.writeMafMode v).idu = s.idu := rfl
@[simp] theorem State.writeMafMode_cbu (s : State) (v : Quad) : (s.writeMafMode v).cbu = s.cbu := rfl
@[simp] theorem State.writeMafMode_pins (s : State) (v : Quad) : (s.writeMafMode v).pins = s.pins := rfl
@[simp] theorem State.writeMafMode_mem (s : State) (v : Quad) : (s.writeMafMode v).mem = s.mem := rfl
@[simp] theorem State.writeMafMode_model (s : State) (v : Quad) : (s.writeMafMode v).model = s.model := rfl

/-! ### State.keepFlip -/

@[simp] theorem State.keepFlip_regs (s : State) (b q : Bool) (a : PAddr) (d : BitVec 128) (c : BitVec 16) : (s.keepFlip b q a d c).regs = s.regs := rfl
@[simp] theorem State.keepFlip_shadow (s : State) (b q : Bool) (a : PAddr) (d : BitVec 128) (c : BitVec 16) : (s.keepFlip b q a d c).shadow = s.shadow := rfl
@[simp] theorem State.keepFlip_fregs (s : State) (b q : Bool) (a : PAddr) (d : BitVec 128) (c : BitVec 16) : (s.keepFlip b q a d c).fregs = s.fregs := rfl
@[simp] theorem State.keepFlip_pc (s : State) (b q : Bool) (a : PAddr) (d : BitVec 128) (c : BitVec 16) : (s.keepFlip b q a d c).pc = s.pc := rfl
@[simp] theorem State.keepFlip_fpcr (s : State) (b q : Bool) (a : PAddr) (d : BitVec 128) (c : BitVec 16) : (s.keepFlip b q a d c).fpcr = s.fpcr := rfl
@[simp] theorem State.keepFlip_lockFlag (s : State) (b q : Bool) (a : PAddr) (d : BitVec 128) (c : BitVec 16) : (s.keepFlip b q a d c).lockFlag = s.lockFlag := rfl
@[simp] theorem State.keepFlip_lockPa (s : State) (b q : Bool) (a : PAddr) (d : BitVec 128) (c : BitVec 16) : (s.keepFlip b q a d c).lockPa = s.lockPa := rfl
@[simp] theorem State.keepFlip_intrFlag (s : State) (b q : Bool) (a : PAddr) (d : BitVec 128) (c : BitVec 16) : (s.keepFlip b q a d c).intrFlag = s.intrFlag := rfl
@[simp] theorem State.keepFlip_arithPending (s : State) (b q : Bool) (a : PAddr) (d : BitVec 128) (c : BitVec 16) : (s.keepFlip b q a d c).arithPending = s.arithPending := rfl
@[simp] theorem State.keepFlip_machineChecks (s : State) (b q : Bool) (a : PAddr) (d : BitVec 128) (c : BitVec 16) : (s.keepFlip b q a d c).machineChecks = s.machineChecks := rfl
@[simp] theorem State.keepFlip_idu (s : State) (b q : Bool) (a : PAddr) (d : BitVec 128) (c : BitVec 16) : (s.keepFlip b q a d c).idu = s.idu := rfl
@[simp] theorem State.keepFlip_mtu (s : State) (b q : Bool) (a : PAddr) (d : BitVec 128) (c : BitVec 16) : (s.keepFlip b q a d c).mtu = s.mtu := rfl
@[simp] theorem State.keepFlip_cbu (s : State) (b q : Bool) (a : PAddr) (d : BitVec 128) (c : BitVec 16) : (s.keepFlip b q a d c).cbu = s.cbu := rfl
@[simp] theorem State.keepFlip_pins (s : State) (b q : Bool) (a : PAddr) (d : BitVec 128) (c : BitVec 16) : (s.keepFlip b q a d c).pins = s.pins := rfl
@[simp] theorem State.keepFlip_mem (s : State) (b q : Bool) (a : PAddr) (d : BitVec 128) (c : BitVec 16) : (s.keepFlip b q a d c).mem = s.mem := rfl
@[simp] theorem State.keepFlip_model (s : State) (b q : Bool) (a : PAddr) (d : BitVec 128) (c : BitVec 16) : (s.keepFlip b q a d c).model = s.model := rfl

/-! ### State.latchMm -/

@[simp] theorem State.latchMm_regs (s : State) (va : Quad) (m : BitVec 17) : (s.latchMm va m).regs = s.regs := by
  unfold State.latchMm
  cases s.mtu.mmLock <;> rfl
@[simp] theorem State.latchMm_shadow (s : State) (va : Quad) (m : BitVec 17) : (s.latchMm va m).shadow = s.shadow := by
  unfold State.latchMm
  cases s.mtu.mmLock <;> rfl
@[simp] theorem State.latchMm_fregs (s : State) (va : Quad) (m : BitVec 17) : (s.latchMm va m).fregs = s.fregs := by
  unfold State.latchMm
  cases s.mtu.mmLock <;> rfl
@[simp] theorem State.latchMm_pc (s : State) (va : Quad) (m : BitVec 17) : (s.latchMm va m).pc = s.pc := by
  unfold State.latchMm
  cases s.mtu.mmLock <;> rfl
@[simp] theorem State.latchMm_fpcr (s : State) (va : Quad) (m : BitVec 17) : (s.latchMm va m).fpcr = s.fpcr := by
  unfold State.latchMm
  cases s.mtu.mmLock <;> rfl
@[simp] theorem State.latchMm_lockFlag (s : State) (va : Quad) (m : BitVec 17) : (s.latchMm va m).lockFlag = s.lockFlag := by
  unfold State.latchMm
  cases s.mtu.mmLock <;> rfl
@[simp] theorem State.latchMm_lockPa (s : State) (va : Quad) (m : BitVec 17) : (s.latchMm va m).lockPa = s.lockPa := by
  unfold State.latchMm
  cases s.mtu.mmLock <;> rfl
@[simp] theorem State.latchMm_intrFlag (s : State) (va : Quad) (m : BitVec 17) : (s.latchMm va m).intrFlag = s.intrFlag := by
  unfold State.latchMm
  cases s.mtu.mmLock <;> rfl
@[simp] theorem State.latchMm_arithPending (s : State) (va : Quad) (m : BitVec 17) : (s.latchMm va m).arithPending = s.arithPending := by
  unfold State.latchMm
  cases s.mtu.mmLock <;> rfl
@[simp] theorem State.latchMm_machineChecks (s : State) (va : Quad) (m : BitVec 17) : (s.latchMm va m).machineChecks = s.machineChecks := by
  unfold State.latchMm
  cases s.mtu.mmLock <;> rfl
@[simp] theorem State.latchMm_idu (s : State) (va : Quad) (m : BitVec 17) : (s.latchMm va m).idu = s.idu := by
  unfold State.latchMm
  cases s.mtu.mmLock <;> rfl
@[simp] theorem State.latchMm_cbu (s : State) (va : Quad) (m : BitVec 17) : (s.latchMm va m).cbu = s.cbu := by
  unfold State.latchMm
  cases s.mtu.mmLock <;> rfl
@[simp] theorem State.latchMm_pins (s : State) (va : Quad) (m : BitVec 17) : (s.latchMm va m).pins = s.pins := by
  unfold State.latchMm
  cases s.mtu.mmLock <;> rfl
@[simp] theorem State.latchMm_mem (s : State) (va : Quad) (m : BitVec 17) : (s.latchMm va m).mem = s.mem := by
  unfold State.latchMm
  cases s.mtu.mmLock <;> rfl
@[simp] theorem State.latchMm_memsys (s : State) (va : Quad) (m : BitVec 17) : (s.latchMm va m).memsys = s.memsys := by
  unfold State.latchMm
  cases s.mtu.mmLock <;> rfl
@[simp] theorem State.latchMm_model (s : State) (va : Quad) (m : BitVec 17) : (s.latchMm va m).model = s.model := by
  unfold State.latchMm
  cases s.mtu.mmLock <;> rfl

/-! ### State.hinted -/

@[simp] theorem State.hinted_regs (s : State) (k : WriteKind) (va : Quad) : (s.hinted k va).regs = s.regs := rfl
@[simp] theorem State.hinted_shadow (s : State) (k : WriteKind) (va : Quad) : (s.hinted k va).shadow = s.shadow := rfl
@[simp] theorem State.hinted_fregs (s : State) (k : WriteKind) (va : Quad) : (s.hinted k va).fregs = s.fregs := rfl
@[simp] theorem State.hinted_pc (s : State) (k : WriteKind) (va : Quad) : (s.hinted k va).pc = s.pc := rfl
@[simp] theorem State.hinted_fpcr (s : State) (k : WriteKind) (va : Quad) : (s.hinted k va).fpcr = s.fpcr := rfl
@[simp] theorem State.hinted_lockPa (s : State) (k : WriteKind) (va : Quad) : (s.hinted k va).lockPa = s.lockPa := rfl
@[simp] theorem State.hinted_intrFlag (s : State) (k : WriteKind) (va : Quad) : (s.hinted k va).intrFlag = s.intrFlag := rfl
@[simp] theorem State.hinted_arithPending (s : State) (k : WriteKind) (va : Quad) : (s.hinted k va).arithPending = s.arithPending := rfl
@[simp] theorem State.hinted_machineChecks (s : State) (k : WriteKind) (va : Quad) : (s.hinted k va).machineChecks = s.machineChecks := rfl
@[simp] theorem State.hinted_idu (s : State) (k : WriteKind) (va : Quad) : (s.hinted k va).idu = s.idu := rfl
@[simp] theorem State.hinted_mtu (s : State) (k : WriteKind) (va : Quad) : (s.hinted k va).mtu = s.mtu := rfl
@[simp] theorem State.hinted_cbu (s : State) (k : WriteKind) (va : Quad) : (s.hinted k va).cbu = s.cbu := rfl
@[simp] theorem State.hinted_pins (s : State) (k : WriteKind) (va : Quad) : (s.hinted k va).pins = s.pins := rfl
@[simp] theorem State.hinted_mem (s : State) (k : WriteKind) (va : Quad) : (s.hinted k va).mem = s.mem := rfl

/-! ### State.setFpcrStatus -/

@[simp] theorem State.setFpcrStatus_regs (s : State) (e : Exc) : (s.setFpcrStatus e).regs = s.regs := rfl
@[simp] theorem State.setFpcrStatus_shadow (s : State) (e : Exc) : (s.setFpcrStatus e).shadow = s.shadow := rfl
@[simp] theorem State.setFpcrStatus_fregs (s : State) (e : Exc) : (s.setFpcrStatus e).fregs = s.fregs := rfl
@[simp] theorem State.setFpcrStatus_pc (s : State) (e : Exc) : (s.setFpcrStatus e).pc = s.pc := rfl
@[simp] theorem State.setFpcrStatus_fpcr (s : State) (e : Exc) : (s.setFpcrStatus e).fpcr = s.fpcr ||| (e.setWidth 14 <<< 3) := rfl
@[simp] theorem State.setFpcrStatus_lockFlag (s : State) (e : Exc) : (s.setFpcrStatus e).lockFlag = s.lockFlag := rfl
@[simp] theorem State.setFpcrStatus_lockPa (s : State) (e : Exc) : (s.setFpcrStatus e).lockPa = s.lockPa := rfl
@[simp] theorem State.setFpcrStatus_intrFlag (s : State) (e : Exc) : (s.setFpcrStatus e).intrFlag = s.intrFlag := rfl
@[simp] theorem State.setFpcrStatus_arithPending (s : State) (e : Exc) : (s.setFpcrStatus e).arithPending = s.arithPending := rfl
@[simp] theorem State.setFpcrStatus_machineChecks (s : State) (e : Exc) : (s.setFpcrStatus e).machineChecks = s.machineChecks := rfl
@[simp] theorem State.setFpcrStatus_idu (s : State) (e : Exc) : (s.setFpcrStatus e).idu = s.idu := rfl
@[simp] theorem State.setFpcrStatus_mtu (s : State) (e : Exc) : (s.setFpcrStatus e).mtu = s.mtu := rfl
@[simp] theorem State.setFpcrStatus_cbu (s : State) (e : Exc) : (s.setFpcrStatus e).cbu = s.cbu := rfl
@[simp] theorem State.setFpcrStatus_pins (s : State) (e : Exc) : (s.setFpcrStatus e).pins = s.pins := rfl
@[simp] theorem State.setFpcrStatus_mem (s : State) (e : Exc) : (s.setFpcrStatus e).mem = s.mem := rfl
@[simp] theorem State.setFpcrStatus_memsys (s : State) (e : Exc) : (s.setFpcrStatus e).memsys = s.memsys := rfl
@[simp] theorem State.setFpcrStatus_model (s : State) (e : Exc) : (s.setFpcrStatus e).model = s.model := rfl

/-! ### State.integerTrap -/

@[simp] theorem State.integerTrap_regs (s : State) (r : Reg) : (s.integerTrap r).regs = s.regs := rfl
@[simp] theorem State.integerTrap_shadow (s : State) (r : Reg) : (s.integerTrap r).shadow = s.shadow := rfl
@[simp] theorem State.integerTrap_fregs (s : State) (r : Reg) : (s.integerTrap r).fregs = s.fregs := rfl
@[simp] theorem State.integerTrap_pc (s : State) (r : Reg) : (s.integerTrap r).pc = s.pc := rfl
@[simp] theorem State.integerTrap_fpcr (s : State) (r : Reg) : (s.integerTrap r).fpcr = s.fpcr := rfl
@[simp] theorem State.integerTrap_lockFlag (s : State) (r : Reg) : (s.integerTrap r).lockFlag = s.lockFlag := rfl
@[simp] theorem State.integerTrap_lockPa (s : State) (r : Reg) : (s.integerTrap r).lockPa = s.lockPa := rfl
@[simp] theorem State.integerTrap_intrFlag (s : State) (r : Reg) : (s.integerTrap r).intrFlag = s.intrFlag := rfl
@[simp] theorem State.integerTrap_arithPending (s : State) (r : Reg) : (s.integerTrap r).arithPending = true := rfl
@[simp] theorem State.integerTrap_machineChecks (s : State) (r : Reg) : (s.integerTrap r).machineChecks = s.machineChecks := rfl
@[simp] theorem State.integerTrap_mtu (s : State) (r : Reg) : (s.integerTrap r).mtu = s.mtu := rfl
@[simp] theorem State.integerTrap_cbu (s : State) (r : Reg) : (s.integerTrap r).cbu = s.cbu := rfl
@[simp] theorem State.integerTrap_pins (s : State) (r : Reg) : (s.integerTrap r).pins = s.pins := rfl
@[simp] theorem State.integerTrap_mem (s : State) (r : Reg) : (s.integerTrap r).mem = s.mem := rfl
@[simp] theorem State.integerTrap_memsys (s : State) (r : Reg) : (s.integerTrap r).memsys = s.memsys := rfl
@[simp] theorem State.integerTrap_model (s : State) (r : Reg) : (s.integerTrap r).model = s.model := rfl

/-! ### State.fpTrap -/

@[simp] theorem State.fpTrap_regs (s : State) (b : Bool) (e : Exc) (r : Reg) : (s.fpTrap b e r).regs = s.regs := rfl
@[simp] theorem State.fpTrap_shadow (s : State) (b : Bool) (e : Exc) (r : Reg) : (s.fpTrap b e r).shadow = s.shadow := rfl
@[simp] theorem State.fpTrap_fregs (s : State) (b : Bool) (e : Exc) (r : Reg) : (s.fpTrap b e r).fregs = s.fregs := rfl
@[simp] theorem State.fpTrap_pc (s : State) (b : Bool) (e : Exc) (r : Reg) : (s.fpTrap b e r).pc = s.pc := rfl
@[simp] theorem State.fpTrap_fpcr (s : State) (b : Bool) (e : Exc) (r : Reg) : (s.fpTrap b e r).fpcr = s.fpcr := rfl
@[simp] theorem State.fpTrap_lockFlag (s : State) (b : Bool) (e : Exc) (r : Reg) : (s.fpTrap b e r).lockFlag = s.lockFlag := rfl
@[simp] theorem State.fpTrap_lockPa (s : State) (b : Bool) (e : Exc) (r : Reg) : (s.fpTrap b e r).lockPa = s.lockPa := rfl
@[simp] theorem State.fpTrap_intrFlag (s : State) (b : Bool) (e : Exc) (r : Reg) : (s.fpTrap b e r).intrFlag = s.intrFlag := rfl
@[simp] theorem State.fpTrap_arithPending (s : State) (b : Bool) (e : Exc) (r : Reg) : (s.fpTrap b e r).arithPending = true := rfl
@[simp] theorem State.fpTrap_machineChecks (s : State) (b : Bool) (e : Exc) (r : Reg) : (s.fpTrap b e r).machineChecks = s.machineChecks := rfl
@[simp] theorem State.fpTrap_mtu (s : State) (b : Bool) (e : Exc) (r : Reg) : (s.fpTrap b e r).mtu = s.mtu := rfl
@[simp] theorem State.fpTrap_cbu (s : State) (b : Bool) (e : Exc) (r : Reg) : (s.fpTrap b e r).cbu = s.cbu := rfl
@[simp] theorem State.fpTrap_pins (s : State) (b : Bool) (e : Exc) (r : Reg) : (s.fpTrap b e r).pins = s.pins := rfl
@[simp] theorem State.fpTrap_mem (s : State) (b : Bool) (e : Exc) (r : Reg) : (s.fpTrap b e r).mem = s.mem := rfl
@[simp] theorem State.fpTrap_memsys (s : State) (b : Bool) (e : Exc) (r : Reg) : (s.fpTrap b e r).memsys = s.memsys := rfl
@[simp] theorem State.fpTrap_model (s : State) (b : Bool) (e : Exc) (r : Reg) : (s.fpTrap b e r).model = s.model := rfl

/-! ### State.begin -/

@[simp] theorem State.begin_regs (s : State) : s.begin.regs = s.regs := rfl
@[simp] theorem State.begin_shadow (s : State) : s.begin.shadow = s.shadow := rfl
@[simp] theorem State.begin_fregs (s : State) : s.begin.fregs = s.fregs := rfl
@[simp] theorem State.begin_pc (s : State) : s.begin.pc = s.pc := rfl
@[simp] theorem State.begin_fpcr (s : State) : s.begin.fpcr = s.fpcr := rfl
@[simp] theorem State.begin_lockFlag (s : State) : s.begin.lockFlag = s.lockFlag := rfl
@[simp] theorem State.begin_lockPa (s : State) : s.begin.lockPa = s.lockPa := rfl
@[simp] theorem State.begin_intrFlag (s : State) : s.begin.intrFlag = s.intrFlag := rfl
@[simp] theorem State.begin_arithPending (s : State) : s.begin.arithPending = s.arithPending := rfl
@[simp] theorem State.begin_machineChecks (s : State) : s.begin.machineChecks = s.machineChecks := rfl
@[simp] theorem State.begin_idu (s : State) : s.begin.idu = s.idu := rfl
@[simp] theorem State.begin_mtu (s : State) : s.begin.mtu = s.mtu := rfl
@[simp] theorem State.begin_cbu (s : State) : s.begin.cbu = s.cbu := rfl
@[simp] theorem State.begin_pins (s : State) : s.begin.pins = s.pins := rfl
@[simp] theorem State.begin_mem (s : State) : s.begin.mem = s.mem := rfl

/-! ### State.useRegisters -/

@[simp] theorem State.useRegisters_regs (s : State) (w : Long) : (s.useRegisters w).regs = s.regs := by
  unfold State.useRegisters
  cases s.memsys.maf.any (s.uses w) <;> rfl
@[simp] theorem State.useRegisters_shadow (s : State) (w : Long) : (s.useRegisters w).shadow = s.shadow := by
  unfold State.useRegisters
  cases s.memsys.maf.any (s.uses w) <;> rfl
@[simp] theorem State.useRegisters_fregs (s : State) (w : Long) : (s.useRegisters w).fregs = s.fregs := by
  unfold State.useRegisters
  cases s.memsys.maf.any (s.uses w) <;> rfl
@[simp] theorem State.useRegisters_pc (s : State) (w : Long) : (s.useRegisters w).pc = s.pc := by
  unfold State.useRegisters
  cases s.memsys.maf.any (s.uses w) <;> rfl
@[simp] theorem State.useRegisters_fpcr (s : State) (w : Long) : (s.useRegisters w).fpcr = s.fpcr := by
  unfold State.useRegisters
  cases s.memsys.maf.any (s.uses w) <;> rfl
@[simp] theorem State.useRegisters_lockPa (s : State) (w : Long) : (s.useRegisters w).lockPa = s.lockPa := by
  unfold State.useRegisters
  cases s.memsys.maf.any (s.uses w) <;> rfl
@[simp] theorem State.useRegisters_intrFlag (s : State) (w : Long) : (s.useRegisters w).intrFlag = s.intrFlag := by
  unfold State.useRegisters
  cases s.memsys.maf.any (s.uses w) <;> rfl
@[simp] theorem State.useRegisters_arithPending (s : State) (w : Long) : (s.useRegisters w).arithPending = s.arithPending := by
  unfold State.useRegisters
  cases s.memsys.maf.any (s.uses w) <;> rfl
@[simp] theorem State.useRegisters_machineChecks (s : State) (w : Long) : (s.useRegisters w).machineChecks = s.machineChecks := by
  unfold State.useRegisters
  cases s.memsys.maf.any (s.uses w) <;> rfl
@[simp] theorem State.useRegisters_idu (s : State) (w : Long) : (s.useRegisters w).idu = s.idu := by
  unfold State.useRegisters
  cases s.memsys.maf.any (s.uses w) <;> rfl
@[simp] theorem State.useRegisters_mtu (s : State) (w : Long) : (s.useRegisters w).mtu = s.mtu := by
  unfold State.useRegisters
  cases s.memsys.maf.any (s.uses w) <;> rfl
@[simp] theorem State.useRegisters_cbu (s : State) (w : Long) : (s.useRegisters w).cbu = s.cbu := by
  unfold State.useRegisters
  cases s.memsys.maf.any (s.uses w) <;> rfl
@[simp] theorem State.useRegisters_pins (s : State) (w : Long) : (s.useRegisters w).pins = s.pins := by
  unfold State.useRegisters
  cases s.memsys.maf.any (s.uses w) <;> rfl
@[simp] theorem State.useRegisters_mem (s : State) (w : Long) : (s.useRegisters w).mem = s.mem := by
  unfold State.useRegisters
  cases s.memsys.maf.any (s.uses w) <;> rfl
@[simp] theorem State.useRegisters_model (s : State) (w : Long) : (s.useRegisters w).model = s.model := by
  unfold State.useRegisters
  cases s.memsys.maf.any (s.uses w) <;> rfl

/-! ### State.noteEntry -/

@[simp] theorem State.noteEntry_regs (s : State) : s.noteEntry.regs = s.regs := by
  unfold State.noteEntry
  cases s.model.lastEntry with
  | none => rfl
  | some e => simp
@[simp] theorem State.noteEntry_shadow (s : State) : s.noteEntry.shadow = s.shadow := by
  unfold State.noteEntry
  cases s.model.lastEntry with
  | none => rfl
  | some e => simp
@[simp] theorem State.noteEntry_fregs (s : State) : s.noteEntry.fregs = s.fregs := by
  unfold State.noteEntry
  cases s.model.lastEntry with
  | none => rfl
  | some e => simp
@[simp] theorem State.noteEntry_pc (s : State) : s.noteEntry.pc = s.pc := by
  unfold State.noteEntry
  cases s.model.lastEntry with
  | none => rfl
  | some e => simp
@[simp] theorem State.noteEntry_fpcr (s : State) : s.noteEntry.fpcr = s.fpcr := by
  unfold State.noteEntry
  cases s.model.lastEntry with
  | none => rfl
  | some e => simp
@[simp] theorem State.noteEntry_lockPa (s : State) : s.noteEntry.lockPa = s.lockPa := by
  unfold State.noteEntry
  cases s.model.lastEntry with
  | none => rfl
  | some e => simp
@[simp] theorem State.noteEntry_intrFlag (s : State) : s.noteEntry.intrFlag = s.intrFlag := by
  unfold State.noteEntry
  cases s.model.lastEntry with
  | none => rfl
  | some e => simp
@[simp] theorem State.noteEntry_arithPending (s : State) : s.noteEntry.arithPending = s.arithPending := by
  unfold State.noteEntry
  cases s.model.lastEntry with
  | none => rfl
  | some e => simp
@[simp] theorem State.noteEntry_machineChecks (s : State) : s.noteEntry.machineChecks = s.machineChecks := by
  unfold State.noteEntry
  cases s.model.lastEntry with
  | none => rfl
  | some e => simp
@[simp] theorem State.noteEntry_idu (s : State) : s.noteEntry.idu = s.idu := by
  unfold State.noteEntry
  cases s.model.lastEntry with
  | none => rfl
  | some e => simp
@[simp] theorem State.noteEntry_mtu (s : State) : s.noteEntry.mtu = s.mtu := by
  unfold State.noteEntry
  cases s.model.lastEntry with
  | none => rfl
  | some e => simp
@[simp] theorem State.noteEntry_cbu (s : State) : s.noteEntry.cbu = s.cbu := by
  unfold State.noteEntry
  cases s.model.lastEntry with
  | none => rfl
  | some e => simp
@[simp] theorem State.noteEntry_pins (s : State) : s.noteEntry.pins = s.pins := by
  unfold State.noteEntry
  cases s.model.lastEntry with
  | none => rfl
  | some e => simp
@[simp] theorem State.noteEntry_mem (s : State) : s.noteEntry.mem = s.mem := by
  unfold State.noteEntry
  cases s.model.lastEntry with
  | none => rfl
  | some e => simp

/-! ### State.withItb -/

@[simp] theorem State.withItb_regs (s : State) (i : Idu) : (s.withItb i).regs = s.regs := rfl
@[simp] theorem State.withItb_shadow (s : State) (i : Idu) : (s.withItb i).shadow = s.shadow := rfl
@[simp] theorem State.withItb_fregs (s : State) (i : Idu) : (s.withItb i).fregs = s.fregs := rfl
@[simp] theorem State.withItb_pc (s : State) (i : Idu) : (s.withItb i).pc = s.pc := rfl
@[simp] theorem State.withItb_fpcr (s : State) (i : Idu) : (s.withItb i).fpcr = s.fpcr := rfl
@[simp] theorem State.withItb_lockFlag (s : State) (i : Idu) : (s.withItb i).lockFlag = s.lockFlag := rfl
@[simp] theorem State.withItb_lockPa (s : State) (i : Idu) : (s.withItb i).lockPa = s.lockPa := rfl
@[simp] theorem State.withItb_intrFlag (s : State) (i : Idu) : (s.withItb i).intrFlag = s.intrFlag := rfl
@[simp] theorem State.withItb_arithPending (s : State) (i : Idu) : (s.withItb i).arithPending = s.arithPending := rfl
@[simp] theorem State.withItb_machineChecks (s : State) (i : Idu) : (s.withItb i).machineChecks = s.machineChecks := rfl
@[simp] theorem State.withItb_idu (s : State) (i : Idu) : (s.withItb i).idu = i := rfl
@[simp] theorem State.withItb_mtu (s : State) (i : Idu) : (s.withItb i).mtu = s.mtu := rfl
@[simp] theorem State.withItb_cbu (s : State) (i : Idu) : (s.withItb i).cbu = s.cbu := rfl
@[simp] theorem State.withItb_pins (s : State) (i : Idu) : (s.withItb i).pins = s.pins := rfl
@[simp] theorem State.withItb_mem (s : State) (i : Idu) : (s.withItb i).mem = s.mem := rfl
@[simp] theorem State.withItb_memsys (s : State) (i : Idu) : (s.withItb i).memsys = s.memsys := rfl

/-! ### enterPal -/

@[simp] theorem enterPal_regs (e : Entry) (ret : Quad) (off : BitVec 14) (s : State) :
    (enterPal e ret off s).regs = s.regs := rfl
@[simp] theorem enterPal_shadow (e : Entry) (ret : Quad) (off : BitVec 14) (s : State) :
    (enterPal e ret off s).shadow = s.shadow := rfl
@[simp] theorem enterPal_fregs (e : Entry) (ret : Quad) (off : BitVec 14) (s : State) :
    (enterPal e ret off s).fregs = s.fregs := rfl
@[simp] theorem enterPal_pc (e : Entry) (ret : Quad) (off : BitVec 14) (s : State) :
    (enterPal e ret off s).pc = palAddress s.idu.palBase off := rfl
@[simp] theorem enterPal_fpcr (e : Entry) (ret : Quad) (off : BitVec 14) (s : State) :
    (enterPal e ret off s).fpcr = s.fpcr := rfl
@[simp] theorem enterPal_lockFlag (e : Entry) (ret : Quad) (off : BitVec 14) (s : State) :
    (enterPal e ret off s).lockFlag = s.lockFlag := rfl
@[simp] theorem enterPal_lockPa (e : Entry) (ret : Quad) (off : BitVec 14) (s : State) :
    (enterPal e ret off s).lockPa = s.lockPa := rfl
@[simp] theorem enterPal_intrFlag (e : Entry) (ret : Quad) (off : BitVec 14) (s : State) :
    (enterPal e ret off s).intrFlag = false := rfl
@[simp] theorem enterPal_arithPending (e : Entry) (ret : Quad) (off : BitVec 14) (s : State) :
    (enterPal e ret off s).arithPending = s.arithPending := rfl
@[simp] theorem enterPal_machineChecks (e : Entry) (ret : Quad) (off : BitVec 14) (s : State) :
    (enterPal e ret off s).machineChecks = s.machineChecks := rfl
@[simp] theorem enterPal_idu (e : Entry) (ret : Quad) (off : BitVec 14) (s : State) :
    (enterPal e ret off s).idu = { s.idu with excAddr := savedPc ret s.pc } := rfl
@[simp] theorem enterPal_mtu (e : Entry) (ret : Quad) (off : BitVec 14) (s : State) :
    (enterPal e ret off s).mtu = s.mtu := rfl
@[simp] theorem enterPal_cbu (e : Entry) (ret : Quad) (off : BitVec 14) (s : State) :
    (enterPal e ret off s).cbu = s.cbu := rfl
@[simp] theorem enterPal_pins (e : Entry) (ret : Quad) (off : BitVec 14) (s : State) :
    (enterPal e ret off s).pins = s.pins := rfl
@[simp] theorem enterPal_mem (e : Entry) (ret : Quad) (off : BitVec 14) (s : State) :
    (enterPal e ret off s).mem = s.mem := rfl
@[simp] theorem enterPal_memsys (e : Entry) (ret : Quad) (off : BitVec 14) (s : State) :
    (enterPal e ret off s).memsys = bif e.drains then s.memsys.drained else s.memsys := rfl
@[simp] theorem enterPal_model (e : Entry) (ret : Quad) (off : BitVec 14) (s : State) :
    (enterPal e ret off s).model = { s.model with lastEntry := some e } := rfl

/-! ### Derived readings that an update leaves alone -/

@[simp] theorem State.drawn_readReg (s : State) (r : Reg) : s.drawn.readReg r = s.readReg r := rfl
@[simp] theorem State.drawn_readFreg (s : State) (r : Reg) : s.drawn.readFreg r = s.readFreg r := rfl
@[simp] theorem State.withMemSys_readReg (s : State) (f : CacheCfg → MemSys → MemSys) (r : Reg) :
    (s.withMemSys f).readReg r = s.readReg r := rfl
@[simp] theorem State.loaded_readReg (s : State) (d : DRef) (pa : PAddr) (r : Reg) :
    (s.loaded d pa).readReg r = s.readReg r := rfl
@[simp] theorem State.stored_readReg (s : State) (n : Nat) (pa : PAddr) (v : Quad) (r : Reg) :
    (s.stored n pa v).readReg r = s.readReg r := rfl

/-- With system_lock_flag_h asserted no fill clears the lock flag (20_memory.md R352 c, R353). -/
theorem State.withMemSys_lockFlag_of_systemLock (s : State) (f : CacheCfg → MemSys → MemSys) (h : s.pins.systemLock = true) :
    (s.withMemSys f).lockFlag = s.lockFlag := by
  simp [State.withMemSys, h]

/-- A change of the memory system without a fill leaves the lock flag alone. -/
theorem State.withMemSys_lockFlag_of_fills (s : State) (f : CacheCfg → MemSys → MemSys)
    (h : (f s.cacheCfg s.memsys).caches.fills = s.memsys.caches.fills) : (s.withMemSys f).lockFlag = s.lockFlag := by
  simp [State.withMemSys, h]

/-- The mapping of register numbers depends only on PALmode and ICSR<SDE>. -/
theorem State.shadowOf_congr {s t : State} (hp : t.pc = s.pc) (hi : t.idu = s.idu) (r : Reg) :
    t.shadowOf r = s.shadowOf r := by
  unfold State.shadowOf State.palmode State.icsrBit
  rw [hp, hi]

/-- What a register reads as depends only on the register files and the mapping. -/
theorem State.readReg_congr {s t : State} (hr : t.regs = s.regs) (hs : t.shadow = s.shadow) (hp : t.pc = s.pc)
    (hi : t.idu = s.idu) (r : Reg) : t.readReg r = s.readReg r := by
  unfold State.readReg
  rw [State.shadowOf_congr hp hi, hr, hs]

theorem State.readFreg_congr {s t : State} (hf : t.fregs = s.fregs) (r : Reg) : t.readFreg r = s.readFreg r := by
  unfold State.readFreg
  rw [hf]

@[simp] theorem State.writeFreg_readReg (s : State) (f : Reg) (v : Quad) (r : Reg) :
    (s.writeFreg f v).readReg r = s.readReg r := State.readReg_congr (by simp) (by simp) (by simp) (by simp) r

@[simp] theorem State.writeReg_readFreg (s : State) (q : Reg) (v : Quad) (r : Reg) :
    (s.writeReg q v).readFreg r = s.readFreg r := State.readFreg_congr (by simp) r

@[simp] theorem State.advance_readFreg (s : State) (r : Reg) : s.advance.readFreg r = s.readFreg r := rfl

/-- pc + 4 leaves pc<1:0> alone. -/
theorem add_four_low (pc : Quad) (i : Nat) (h : i < 2) : bit (pc + 4) i = bit pc i := by
  unfold bit
  simp only [← BitVec.testBit_toNat, BitVec.toNat_add, Nat.testBit_eq_decide_div_mod_eq]
  have h4 : (4 : Quad).toNat = 4 := by decide
  rw [h4]
  have hi : i = 0 ∨ i = 1 := by omega
  rcases hi with rfl | rfl <;> congr 1 <;> simp <;> omega

@[simp] theorem State.advance_palmode (s : State) : s.advance.palmode = s.palmode := add_four_low s.pc 0 (by decide)

@[simp] theorem State.advance_readReg (s : State) (r : Reg) : s.advance.readReg r = s.readReg r := by
  unfold State.readReg State.shadowOf
  rw [State.advance_palmode]
  rfl

end Sys2Proof.Machine
end

