-- ==== Sys2Proof/Laws/Memory.lean ====
section
/-!
SUPPORT. Memory: a write is read back, leaves every other byte alone and keeps the canonical form.
-/

namespace Sys2Proof.Machine

/-! ### The canonical form -/

theorem Memory.wfFrom_cons {lo k : Nat} {b : Byte} {rest : Memory} :
    Memory.wfFrom lo ((k, b) :: rest) = true ↔ lo ≤ k ∧ b ≠ unlistedByte ∧ Memory.wfFrom (k + 1) rest = true := by
  simp [Memory.wfFrom, and_assoc]

theorem Memory.wfFrom_mono {lo lo' : Nat} (h : lo' ≤ lo) : ∀ {m : Memory}, Memory.wfFrom lo m = true →
    Memory.wfFrom lo' m = true
  | [], _ => rfl
  | (_, _) :: _, hm => by
    rw [Memory.wfFrom_cons] at hm ⊢
    exact ⟨Nat.le_trans h hm.1, hm.2⟩

/-- Below its first address a memory lists nothing. -/
theorem Memory.byte_below {lo a : Nat} (h : a < lo) : ∀ {m : Memory}, Memory.wfFrom lo m = true →
    Memory.byte m a = unlistedByte
  | [], _ => rfl
  | (k, b) :: rest, hm => by
    rw [Memory.wfFrom_cons] at hm
    have hk : (k == a) = false := by
      rw [beq_eq_false_iff_ne]
      omega
    rw [Memory.byte, hk]
    exact Memory.byte_below (by omega) hm.2.2

theorem Memory.put_wf {lo a : Nat} {v : Byte} {rest : Memory} (hlo : lo ≤ a)
    (h : Memory.wfFrom (a + 1) rest = true) : Memory.wfFrom lo (Memory.put a v rest) = true := by
  unfold Memory.put
  cases hv : v == unlistedByte with
  | true => exact Memory.wfFrom_mono (by omega) h
  | false =>
    show Memory.wfFrom lo ((a, v) :: rest) = true
    rw [Memory.wfFrom_cons]
    exact ⟨hlo, by simpa using hv, h⟩

theorem Memory.byte_put {a b : Nat} {v : Byte} {rest : Memory} (h : Memory.wfFrom (a + 1) rest = true) :
    Memory.byte (Memory.put a v rest) b = if b = a then v else Memory.byte rest b := by
  unfold Memory.put
  cases hv : v == unlistedByte with
  | true =>
    have hv' : v = unlistedByte := by simpa using hv
    by_cases hb : b = a
    · subst hb
      simp only [cond_true, if_true, hv']
      exact Memory.byte_below (by omega) h
    · simp [hb]
  | false =>
    show Memory.byte ((a, v) :: rest) b = _
    by_cases hb : b = a
    · simp [Memory.byte, hb]
    · have hn : (a == b) = false := by
        rw [beq_eq_false_iff_ne]
        omega
      simp [Memory.byte, hb, hn]

/-- A write keeps the form. -/
theorem Memory.write_wf {a : Nat} {v : Byte} : ∀ {m : Memory} {lo : Nat}, lo ≤ a → Memory.wfFrom lo m = true →
    Memory.wfFrom lo (Memory.write m a v) = true
  | [], lo, hlo, _ => Memory.put_wf hlo rfl
  | (k, b) :: rest, lo, hlo, hm => by
    rw [Memory.wfFrom_cons] at hm
    unfold Memory.write
    cases hlt : Nat.blt k a with
    | true =>
      have hk : k < a := by simpa [Nat.blt_eq] using hlt
      show Memory.wfFrom lo ((k, b) :: Memory.write rest a v) = true
      rw [Memory.wfFrom_cons]
      exact ⟨hm.1, hm.2.1, Memory.write_wf (by omega) hm.2.2⟩
    | false =>
      have hk : ¬ k < a := by
        intro h
        rw [← Nat.blt_eq] at h
        rw [h] at hlt
        cases hlt
      cases heq : k == a with
      | true =>
        have hka : k = a := by simpa using heq
        subst hka
        exact Memory.put_wf hm.1 hm.2.2
      | false =>
        have hka : k ≠ a := by simpa using heq
        refine Memory.put_wf hlo ?_
        rw [Memory.wfFrom_cons]
        exact ⟨by omega, hm.2.1, hm.2.2⟩

/-- A write is read back, and every other byte is as before. -/
theorem Memory.byte_write {a b : Nat} {v : Byte} : ∀ {m : Memory} {lo : Nat}, Memory.wfFrom lo m = true →
    Memory.byte (Memory.write m a v) b = if b = a then v else Memory.byte m b
  | [], lo, _ => Memory.byte_put rfl
  | (k, c) :: rest, lo, hm => by
    rw [Memory.wfFrom_cons] at hm
    unfold Memory.write
    cases hlt : Nat.blt k a with
    | true =>
      have hk : k < a := by simpa [Nat.blt_eq] using hlt
      show Memory.byte ((k, c) :: Memory.write rest a v) b = _
      rw [Memory.byte, Memory.byte, Memory.byte_write hm.2.2]
      cases hkb : k == b with
      | true =>
        have : k = b := by simpa using hkb
        have hba : b ≠ a := by omega
        simp [hba]
      | false => rfl
    | false =>
      have hk : ¬ k < a := by
        intro h
        rw [← Nat.blt_eq] at h
        rw [h] at hlt
        cases hlt
      cases heq : k == a with
      | true =>
        have hka : k = a := by simpa using heq
        subst hka
        show Memory.byte (Memory.put k v rest) b = _
        rw [Memory.byte_put hm.2.2]
        by_cases hb : b = k
        · simp [hb]
        · have hn : (k == b) = false := by
            rw [beq_eq_false_iff_ne]
            omega
          simp [Memory.byte, hb, hn]
      | false =>
        have hka : k ≠ a := by simpa using heq
        show Memory.byte (Memory.put a v ((k, c) :: rest)) b = _
        refine Memory.byte_put ?_
        rw [Memory.wfFrom_cons]
        exact ⟨by omega, hm.2.1, hm.2.2⟩

theorem Memory.writeBytes_wf {n : Nat} : ∀ {m : Memory} {a : Nat} {v : Quad}, Memory.wf m = true →
    Memory.wf (Memory.writeBytes m a v n) = true := by
  induction n with
  | zero => intro m a v h; exact h
  | succ n ih => intro m a v h; exact ih (Memory.write_wf (Nat.zero_le a) h)

/-- The bytes of a store: byte b holds the byte of v at its distance from the address, all others are as before. -/
theorem Memory.byte_writeBytes {n : Nat} : ∀ {m : Memory} {a b : Nat} {v : Quad}, Memory.wf m = true →
    Memory.byte (Memory.writeBytes m a v n) b =
      if a ≤ b ∧ b < a + n then v.extractLsb' (8 * (b - a)) 8 else Memory.byte m b := by
  induction n with
  | zero =>
    intro m a b v _
    rw [if_neg (by omega)]
    rfl
  | succ n ih =>
    intro m a b v h
    rw [Memory.writeBytes, ih (Memory.write_wf (Nat.zero_le a) h), Memory.byte_write h]
    by_cases h1 : a + 1 ≤ b ∧ b < a + 1 + n
    · have h2 : a ≤ b ∧ b < a + (n + 1) := by omega
      rw [if_pos h1, if_pos h2]
      apply BitVec.eq_of_getLsbD_eq
      intro i hi
      simp only [BitVec.getLsbD_extractLsb', BitVec.getLsbD_ushiftRight]
      congr 2
      omega
    · by_cases hb : b = a
      · have h2 : a ≤ b ∧ b < a + (n + 1) := by omega
        rw [if_neg h1, if_pos hb, if_pos h2, hb, Nat.sub_self]
      · have h2 : ¬ (a ≤ b ∧ b < a + (n + 1)) := by omega
        rw [if_neg h1, if_neg hb, if_neg h2]

/-! ### Reading -/

theorem Memory.readNat_lt (m : Memory) : ∀ (n a : Nat), Memory.readNat m a n < 256 ^ n
  | 0, _ => by simp [Memory.readNat]
  | n + 1, a => by
    have h := Memory.readNat_lt m n (a + 1)
    have hb := (Memory.byte m a).isLt
    rw [Memory.readNat, Nat.pow_succ]
    omega

/-- Byte i of what is read is the byte at that distance (little endian). -/
theorem Memory.readNat_byte (m : Memory) : ∀ (n a i : Nat), i < n →
    Memory.readNat m a n / 256 ^ i % 256 = (Memory.byte m (a + i)).toNat
  | 0, _, _, h => by omega
  | n + 1, a, 0, _ => by
    have hb := (Memory.byte m a).isLt
    simp only [Memory.readNat, Nat.pow_zero, Nat.div_one, Nat.add_zero]
    omega
  | n + 1, a, i + 1, h => by
    have hb := (Memory.byte m a).isLt
    have ih := Memory.readNat_byte m n (a + 1) i (by omega)
    rw [Memory.readNat, Nat.pow_succ, Nat.mul_comm (256 ^ i) 256, ← Nat.div_div_eq_div_mul]
    have : ((Memory.byte m a).toNat + 256 * Memory.readNat m (a + 1) n) / 256 = Memory.readNat m (a + 1) n := by omega
    rw [this, ih]
    congr 2
    omega

/-- Two memories that agree on n bytes read alike. -/
theorem Memory.readNat_congr {m m' : Memory} : ∀ {n a : Nat}, (∀ b, a ≤ b → b < a + n → Memory.byte m b = Memory.byte m' b) →
    Memory.readNat m a n = Memory.readNat m' a n
  | 0, _, _ => rfl
  | n + 1, a, h => by
    rw [Memory.readNat, Memory.readNat, h a (by omega) (by omega),
      Memory.readNat_congr (n := n) (a := a + 1) (fun b h1 h2 => h b (by omega) (by omega))]

theorem Memory.read_congr {m m' : Memory} {n a : Nat}
    (h : ∀ b, a ≤ b → b < a + n → Memory.byte m b = Memory.byte m' b) : Memory.read m a n = Memory.read m' a n := by
  unfold Memory.read
  rw [Memory.readNat_congr h]

/-- A canonical memory is determined by its bytes. -/
theorem Memory.ext_from : ∀ {m m' : Memory} {lo : Nat}, Memory.wfFrom lo m = true → Memory.wfFrom lo m' = true →
    (∀ a, Memory.byte m a = Memory.byte m' a) → m = m'
  | [], [], _, _, _, _ => rfl
  | [], (k, b) :: rest, lo, _, h', hb => by
    rw [Memory.wfFrom_cons] at h'
    have := hb k
    simp [Memory.byte] at this
    exact absurd this.symm h'.2.1
  | (k, b) :: rest, [], lo, h, _, hb => by
    rw [Memory.wfFrom_cons] at h
    have := hb k
    simp [Memory.byte] at this
    exact absurd this h.2.1
  | (k, b) :: rest, (k', b') :: rest', lo, h, h', hb => by
    rw [Memory.wfFrom_cons] at h h'
    have hk : k = k' := by
      have h1 := hb k
      have h2 := hb k'
      rcases Nat.lt_trichotomy k k' with hlt | heq | hgt
      · have : (k' == k) = false := by
          rw [beq_eq_false_iff_ne]
          omega
        have hz := Memory.byte_below (a := k) (show k < k' + 1 by omega) h'.2.2
        simp [Memory.byte, this, hz] at h1
        exact absurd h1 h.2.1
      · exact heq
      · have : (k == k') = false := by
          rw [beq_eq_false_iff_ne]
          omega
        have hz := Memory.byte_below (a := k') (show k' < k + 1 by omega) h.2.2
        simp [Memory.byte, this, hz] at h2
        exact absurd h2.symm h'.2.1
    subst hk
    have hbb : b = b' := by simpa [Memory.byte] using hb k
    subst hbb
    have hr : rest = rest' := by
      refine Memory.ext_from h.2.2 h'.2.2 (fun a => ?_)
      have := hb a
      cases hka : k == a with
      | true =>
        have hak : k = a := by simpa using hka
        subst hak
        rw [Memory.byte_below (Nat.lt_succ_self k) h.2.2, Memory.byte_below (Nat.lt_succ_self k) h'.2.2]
      | false => simpa [Memory.byte, hka] using this
    rw [hr]

/-! ### Operations on the state -/

theorem State.stored_byte (s : State) (n : Nat) (pa : PAddr) (v : Quad) (b : Nat) (h : Memory.wf s.mem = true) :
    Memory.byte (s.stored n pa v).mem b =
      if pa.toNat ≤ b ∧ b < pa.toNat + n then v.extractLsb' (8 * (b - pa.toNat)) 8 else Memory.byte s.mem b :=
  Memory.byte_writeBytes h

theorem State.stored_wf (s : State) (n : Nat) (pa : PAddr) (v : Quad) (h : Memory.wf s.mem = true) :
    Memory.wf (s.stored n pa v).mem = true := Memory.writeBytes_wf h

/-- Noting words that fetch may return changes the model's own fields. -/
theorem State.noteUnknown_frame (s : State) (l : List Nat) : ∃ k, s.noteUnknown l = { s with model := k } := ⟨_, rfl⟩

/-- A byte of the level below changes memory and the write buffer, and keeps the canonical form. -/
theorem State.lowerByte_frame (s : State) (a : Nat) (v : Byte) :
    ∃ m w, s.lowerByte a v = { s with mem := m, memsys := w } ∧ (Memory.wf s.mem = true → Memory.wf m = true) := by
  refine ⟨_, _, rfl, fun h => ?_⟩
  cases s.memsys.covers a with
  | true => exact h
  | false => exact Memory.write_wf (Nat.zero_le a) h

/-- `lowered` around a change of memory and the write buffer changes the model's own fields too. -/
theorem State.lowered_frame (l : List Nat) (f : State → State)
    (hf : ∀ s : State, ∃ m w, f s = { s with mem := m, memsys := w } ∧ (Memory.wf s.mem = true → Memory.wf m = true)) (s : State) :
    ∃ m w k, s.lowered l f = { s with mem := m, memsys := w, model := k } ∧
      (Memory.wf s.mem = true → Memory.wf m = true) := by
  obtain ⟨m, w, h, g⟩ := hf { s with model := s.model.noteStale s.mem l }
  refine ⟨m, w, (s.lowered l f).model, ?_, g⟩
  unfold State.lowered
  rw [h]

theorem State.lowerLong_frame (s : State) (p : Nat × Long) :
    ∃ m w k, s.lowerLong p = { s with mem := m, memsys := w, model := k } ∧
      (Memory.wf s.mem = true → Memory.wf m = true) := by
  refine State.lowered_frame [p.1] _ (fun s => ?_) s
  obtain ⟨m1, w1, h1, f1⟩ := s.lowerByte_frame p.1 (p.2.extractLsb' 0 8)
  obtain ⟨m2, w2, h2, f2⟩ := State.lowerByte_frame { s with mem := m1, memsys := w1 } (p.1 + 1) (p.2.extractLsb' 8 8)
  obtain ⟨m3, w3, h3, f3⟩ := State.lowerByte_frame { s with mem := m2, memsys := w2 } (p.1 + 2) (p.2.extractLsb' 16 8)
  obtain ⟨m4, w4, h4, f4⟩ := State.lowerByte_frame { s with mem := m3, memsys := w3 } (p.1 + 3) (p.2.extractLsb' 24 8)
  refine ⟨m4, w4, ?_, fun h => f4 (f3 (f2 (f1 h)))⟩
  rw [h1, h2, h3, h4]

/-- Data that are lost change memory, the write buffer and the model's own fields, and keep the canonical form. -/
theorem State.discard_frame : ∀ (l : Longs) (s : State),
    ∃ m w k, s.discard l = { s with mem := m, memsys := w, model := k } ∧
      (Memory.wf s.mem = true → Memory.wf m = true)
  | [], s => ⟨s.mem, s.memsys, s.model, rfl, id⟩
  | p :: rest, s => by
    obtain ⟨m1, w1, k1, h1, f1⟩ := s.lowerLong_frame p
    obtain ⟨m2, w2, k2, h2, f2⟩ := State.discard_frame rest { s with mem := m1, memsys := w1, model := k1 }
    refine ⟨m2, w2, k2, ?_, fun h => f2 (f1 h)⟩
    rw [State.discard_cons, h1, h2]

theorem State.discard_wf (l : Longs) (s : State) (h : Memory.wf s.mem = true) : Memory.wf (s.discard l).mem = true := by
  obtain ⟨m, w, k, heq, f⟩ := State.discard_frame l s
  rw [heq]
  exact f h

theorem State.condStored_mem (s : State) (r : DRef) (pa : PAddr) (v : Quad) : (s.condStored r pa v).mem =
    if s.condSucceeds pa = true then Memory.writeBytes s.mem pa.toNat v r.size else s.mem := by
  unfold State.condStored State.condWritten
  cases s.condSucceeds pa <;> cases pa.getLsbD 39 <;> rfl

theorem State.condStored_wf (s : State) (r : DRef) (pa : PAddr) (v : Quad) (h : Memory.wf s.mem = true) :
    Memory.wf (s.condStored r pa v).mem = true := by
  rw [State.condStored_mem]
  split
  · exact Memory.writeBytes_wf h
  · exact h

end Sys2Proof.Machine
end

