-- ==== Sys2Proof/Laws/MemSys.lean ====
section
/-!
SUPPORT. What the operations of the memory system do to the write buffer: loads that go out never lengthen it, and entering
an entry keeps it within its six; and what reads, answers and fills change in the caches.
-/

namespace Sys2Proof.Machine

@[simp] theorem MemSys.readFirst_wb (c : CacheCfg) (m : MemSys) : (m.readFirst c).wb = m.wb := by
  unfold MemSys.readFirst
  cases m.maf.find? (·.waits) <;> rfl

@[simp] theorem MemSys.readThrough_wb (c : CacheCfg) : ∀ (n : Nat) (m : MemSys), (m.readThrough c n).wb = m.wb
  | 0, _ => rfl
  | n + 1, m => (MemSys.readThrough_wb c n (m.readFirst c)).trans (m.readFirst_wb c)

@[simp] theorem MemSys.send_wb (c : CacheCfg) (m : MemSys) (e : WbEntry) : (m.send c e).wb = m.wb :=
  MemSys.readThrough_wb c _ m

/-- Sending the oldest n entries leaves the others. -/
theorem MemSys.sendOldest_wb (c : CacheCfg) : ∀ (n : Nat) (m : MemSys), (m.sendOldest c n).wb = m.wb.drop n
  | 0, _ => rfl
  | n + 1, m => by
    unfold MemSys.sendOldest
    split
    · rename_i h
      rw [h]
      rfl
    · rename_i e rest h
      rw [MemSys.sendOldest_wb c n, MemSys.send_wb, h]
      rfl

@[simp] theorem MemSys.sendAll_wb (c : CacheCfg) (m : MemSys) : (m.sendAll c).wb = [] :=
  (m.sendOldest_wb c _).trans List.drop_length

theorem MemSys.sendOldest_length (c : CacheCfg) (n : Nat) (m : MemSys) : (m.sendOldest c n).wb.length ≤ m.wb.length := by
  rw [MemSys.sendOldest_wb, List.length_drop]
  omega

theorem MemSys.issueFirst_length (c : CacheCfg) (m : MemSys) : (m.issueFirst c).wb.length ≤ m.wb.length := by
  unfold MemSys.issueFirst
  cases m.maf.find? (·.waits) with
  | none => exact Nat.le_refl _
  | some e =>
    show ((bif e.conflict then _ else m).readFirst c).wb.length ≤ _
    rw [MemSys.readFirst_wb]
    cases e.conflict with
    | true => exact m.sendOldest_length c _
    | false => exact Nat.le_refl _

theorem MemSys.issueThrough_length (c : CacheCfg) : ∀ (n : Nat) (m : MemSys), (m.issueThrough c n).wb.length ≤ m.wb.length
  | 0, _ => Nat.le_refl _
  | n + 1, m => Nat.le_trans (MemSys.issueThrough_length c n (m.issueFirst c)) (m.issueFirst_length c)

theorem MemSys.finish_length (stopped : Bool) (c : CacheCfg) (p : MafEntry → Bool) (m : MemSys) :
    (m.finish stopped c p).wb.length ≤ m.wb.length := by
  cases stopped with
  | true => exact Nat.le_refl _
  | false => exact m.issueThrough_length c _

/-- With the arbiter stopped loads that return change the miss address file alone. -/
theorem MemSys.finish_stopped (c : CacheCfg) (p : MafEntry → Bool) (m : MemSys) :
    ∃ l, m.finish true c p = { m with maf := l } ∧ ∀ e ∈ m.maf, e.waits = true → e ∈ l :=
  ⟨_, rfl, fun e he hw => List.mem_filter.mpr ⟨he, by simp [hw]⟩⟩

theorem MemSys.freeEntry_length (stopped e1 : Bool) (c : CacheCfg) :
    ∀ (n : Nat) (m : MemSys), (m.freeEntry stopped e1 c n).wb.length ≤ m.wb.length
  | 0, _ => Nat.le_refl _
  | n + 1, m => by
    unfold MemSys.freeEntry
    cases m.full e1 with
    | true => exact Nat.le_trans (MemSys.freeEntry_length stopped e1 c n _) (m.finish_length stopped c _)
    | false => exact Nat.le_refl _

/-- With the arbiter stopped making way changes the miss address file alone. -/
theorem MemSys.freeEntry_stopped (e1 : Bool) (c : CacheCfg) :
    ∀ (n : Nat) (m : MemSys), ∃ l, m.freeEntry true e1 c n = { m with maf := l } ∧ ∀ e ∈ m.maf, e.waits = true → e ∈ l
  | 0, m => ⟨m.maf, rfl, fun _ he _ => he⟩
  | n + 1, m => by
    unfold MemSys.freeEntry
    cases m.full e1 with
    | false => exact ⟨m.maf, rfl, fun _ he _ => he⟩
    | true =>
      obtain ⟨l, hl, hm⟩ := MemSys.finish_stopped c (fun x => (m.oldest true).any fun h => h.block == x.block) m
      obtain ⟨k, hk, hn⟩ := MemSys.freeEntry_stopped e1 c n { m with maf := l }
      exact ⟨k, by rw [cond_true, hl]; exact hk, fun e he hw => hn e (hm e he hw) hw⟩

theorem MemSys.makeWay_length (stopped e1 : Bool) (c : CacheCfg) (e : MafEntry) (m : MemSys) :
    (m.makeWay stopped e1 c e).wb.length ≤ m.wb.length := by
  unfold MemSys.makeWay
  dsimp only
  have h : (bif m.maf.any e.overlaps then m.finish stopped c e.overlaps else m).wb.length ≤ m.wb.length := by
    cases m.maf.any e.overlaps with
    | true => exact m.finish_length stopped c _
    | false => exact Nat.le_refl _
  generalize (bif m.maf.any e.overlaps then m.finish stopped c e.overlaps else m) = t at h
  exact Nat.le_trans (t.freeEntry_length stopped e1 c _) h

theorem MemSys.miss_length (stopped : Bool) (c : CacheCfg) (e : MafEntry) (m : MemSys) :
    (m.miss stopped c e).wb.length ≤ m.wb.length := by
  unfold MemSys.miss
  dsimp only
  have h : (bif stopped then m else m.sendOldest c (entriesThrough e.block.toNat m.wb)).wb.length ≤ m.wb.length := by
    cases stopped with
    | true => exact Nat.le_refl _
    | false => exact m.sendOldest_length c _
  generalize (bif stopped then m else m.sendOldest c (entriesThrough e.block.toNat m.wb)) = t at h
  cases e.mayMerge && t.maf.any e.accepts with
  | true => exact h
  | false =>
    cases stopped || e.mayMerge with
    | true => exact h
    | false => exact Nat.le_trans (MemSys.issueThrough_length c _ _) h

/-- A load in the memory system does not lengthen the write buffer. -/
theorem State.readMemSys_length (s : State) (r : DRef) (pa : PAddr) (e : MafEntry) (c : CacheCfg) (m : MemSys) :
    (s.readMemSys r pa e c m).wb.length ≤ m.wb.length := by
  unfold State.readMemSys
  cases (s.dcacheCase r pa).misses with
  | true => exact Nat.le_trans (MemSys.miss_length _ c e _) (m.makeWay_length _ _ c e)
  | false => exact m.makeWay_length _ _ c e

/-- A store that merges keeps the number of entries. -/
theorem mergeLast_length (new : WbEntry) : ∀ (l l' : List WbEntry), mergeLast new l = some l' → l'.length = l.length
  | [], _, h => by cases h
  | e :: rest, l', h => by
    have hr : ∀ r', (mergeLast new rest).map (e :: ·) = some r' → r'.length = rest.length + 1 := by
      intro r' hr'
      cases hm : mergeLast new rest with
      | none =>
        rw [hm] at hr'
        cases hr'
      | some r =>
        rw [hm] at hr'
        cases hr'
        exact congrArg (· + 1) (mergeLast_length new rest r hm)
    unfold mergeLast at h
    cases hb : rest.any fun x => x.block == new.block with
    | true =>
      rw [hb] at h
      exact hr l' h
    | false =>
      rw [hb] at h
      cases ha : new.accepts e with
      | true =>
        rw [ha] at h
        cases h
        rfl
      | false =>
        rw [ha] at h
        exact hr l' h

/-- An entry that enters leaves the write buffer within its six. -/
theorem MemSys.enter_length (c : CacheCfg) (e : WbEntry) (m : MemSys) (h : m.wb.length ≤ 6) :
    (m.enter c e).wb.length ≤ 6 := by
  have hr : (m.makeRoom c e).wb.length ≤ 5 := by
    unfold MemSys.makeRoom
    cases hb : Nat.ble 6 m.wb.length with
    | true =>
      show (MemSys.sendOldest c 1 { m with wb := m.wb ++ [e] }).wb.dropLast.length ≤ 5
      rw [MemSys.sendOldest_wb, List.length_dropLast, List.length_drop, List.length_append]
      show m.wb.length + 1 - 1 - 1 ≤ 5
      omega
    | false =>
      have : ¬6 ≤ m.wb.length := fun hle => by
        rw [Nat.ble_eq_true_of_le hle] at hb
        cases hb
      show m.wb.length ≤ 5
      omega
  unfold MemSys.enter
  dsimp only
  generalize m.makeRoom c e = t at hr
  cases hm : mergeLast e t.wb with
  | some l =>
    show l.length ≤ 6
    rw [mergeLast_length e t.wb l hm]
    omega
  | none =>
    show (t.wb ++ [_]).length ≤ 6
    rw [List.length_append]
    show t.wb.length + 1 ≤ 6
    omega

/-! ## Reads, answers and fills in the caches -/

/-- What a read or probe of the Scache is found to have read is posted, and changes nothing else; outside force hit mode it is an
error, or nothing. -/
theorem Caches.found_eq (c : CacheCfg) (op : ScacheOp) (tags : BitVec 3) (reads : Bool) (a : Nat) (m : Caches) :
    ∃ l, m.found c op tags reads a = m.post l ∧ (c.scForced = false → l.filterMap Event.forced = []) := by
  refine ⟨_, rfl, fun h => ?_⟩
  rw [h]
  simp only [cond_false]
  generalize (_ && _ : Bool) = b
  cases b <;> rfl

/-- An answer of the Bcache changes what is known of its block, and nothing else. -/
theorem Caches.answered_eq (c : CacheCfg) (dirtyOnly : Bool) (a : Nat) (m : Caches) :
    ∃ l, m.answered c dirtyOnly a = { m with poisoned := l } := by
  unfold Caches.answered
  dsimp only
  generalize (_ || _ : Bool) = b
  cases b
  · exact ⟨_, rfl⟩
  · exact ⟨m.poisoned, rfl⟩

/-- A load none of whose bytes come from stores receives what arrives. -/
theorem MafEntry.keepOwn_none (s : State) (e : MafEntry) (v : Quad) (h : e.own = 0) : e.keepOwn s v = v := by
  have hb : (bitsOf ((0 : BitVec 8).setWidth 32)).setWidth 64 = (0 : Quad) := by decide
  unfold MafEntry.keepOwn
  dsimp only
  rw [h, hb]
  show (_ &&& 0#64) ||| (v &&& ~~~0#64) = v
  rw [BitVec.and_zero, BitVec.zero_or]
  exact BitVec.and_allOnes

end Sys2Proof.Machine
end

