-- ==== Sys2Proof/Laws/PerInstr.lean ====
section
/-!
SUPPORT. Statements per instruction. `TableWord`: the word that the encoder writes for an instruction has, in every field that
spec/opcode_table.json fixes for its row, the value of the table, whatever the operands.
-/

namespace Sys2Proof.Laws

/-- A word has the given values in the given fields: low bit, width, value. -/
def hasFields (w : Long) (l : List (Nat × Nat × Nat)) : Prop := ∀ f ∈ l, w.toNat / 2 ^ f.1 % 2 ^ f.2.1 = f.2.2

/-- A row that fixes the opcode alone. -/
theorem hasFields_opcode {w : Long} {op : BitVec 6} (h : opcodeOf w = op) : hasFields w [(26, 6, op.toNat)] := by
  intro f hf
  rw [List.mem_singleton.mp hf, ← h]
  exact toNat_div_mod w 26 6

/-- A row that fixes a function code and the opcode. -/
theorem hasFields_function {w : Long} {op : BitVec 6} {lo n : Nat} {fn : BitVec n} (h : opcodeOf w = op)
    (hf : field w lo n = fn) : hasFields w [(lo, n, fn.toNat), (26, 6, op.toNat)] := by
  intro f hm
  rcases List.mem_cons.mp hm with rfl | hm
  · rw [← hf]
    exact toNat_div_mod w lo n
  · exact hasFields_opcode h f hm

/-- The fields that spec/opcode_table.json fixes for the row of an instruction. -/
def fixedFields : Instr → List (Nat × Nat × Nat)
  | .lda _ _ _ => [(26, 6, 0x8)]
  | .ldah _ _ _ => [(26, 6, 0x9)]
  | .ldbu _ _ _ => [(26, 6, 0xA)]
  | .ldq_u _ _ _ => [(26, 6, 0xB)]
  | .ldwu _ _ _ => [(26, 6, 0xC)]
  | .stw _ _ _ => [(26, 6, 0xD)]
  | .stb _ _ _ => [(26, 6, 0xE)]
  | .stq_u _ _ _ => [(26, 6, 0xF)]
  | .ldl _ _ _ => [(26, 6, 0x28)]
  | .ldq _ _ _ => [(26, 6, 0x29)]
  | .ldl_l _ _ _ => [(26, 6, 0x2A)]
  | .ldq_l _ _ _ => [(26, 6, 0x2B)]
  | .stl _ _ _ => [(26, 6, 0x2C)]
  | .stq _ _ _ => [(26, 6, 0x2D)]
  | .stl_c _ _ _ => [(26, 6, 0x2E)]
  | .stq_c _ _ _ => [(26, 6, 0x2F)]
  | .ldf _ _ _ => [(26, 6, 0x20)]
  | .ldg _ _ _ => [(26, 6, 0x21)]
  | .lds _ _ _ => [(26, 6, 0x22)]
  | .ldt _ _ _ => [(26, 6, 0x23)]
  | .stf _ _ _ => [(26, 6, 0x24)]
  | .stg _ _ _ => [(26, 6, 0x25)]
  | .sts _ _ _ => [(26, 6, 0x26)]
  | .stt _ _ _ => [(26, 6, 0x27)]
  | .br _ _ => [(26, 6, 0x30)]
  | .bsr _ _ => [(26, 6, 0x34)]
  | .blbc _ _ => [(26, 6, 0x38)]
  | .beq _ _ => [(26, 6, 0x39)]
  | .blt _ _ => [(26, 6, 0x3A)]
  | .ble _ _ => [(26, 6, 0x3B)]
  | .blbs _ _ => [(26, 6, 0x3C)]
  | .bne _ _ => [(26, 6, 0x3D)]
  | .bge _ _ => [(26, 6, 0x3E)]
  | .bgt _ _ => [(26, 6, 0x3F)]
  | .fbeq _ _ => [(26, 6, 0x31)]
  | .fblt _ _ => [(26, 6, 0x32)]
  | .fble _ _ => [(26, 6, 0x33)]
  | .fbne _ _ => [(26, 6, 0x35)]
  | .fbge _ _ => [(26, 6, 0x36)]
  | .fbgt _ _ => [(26, 6, 0x37)]
  | .jmp _ _ _ => [(14, 2, 0x0), (26, 6, 0x1A)]
  | .jsr _ _ _ => [(14, 2, 0x1), (26, 6, 0x1A)]
  | .ret _ _ _ => [(14, 2, 0x2), (26, 6, 0x1A)]
  | .jsr_coroutine _ _ _ => [(14, 2, 0x3), (26, 6, 0x1A)]
  | .addl _ _ _ => [(5, 7, 0x0), (26, 6, 0x10)]
  | .addl_v _ _ _ => [(5, 7, 0x40), (26, 6, 0x10)]
  | .addq _ _ _ => [(5, 7, 0x20), (26, 6, 0x10)]
  | .addq_v _ _ _ => [(5, 7, 0x60), (26, 6, 0x10)]
  | .subl _ _ _ => [(5, 7, 0x9), (26, 6, 0x10)]
  | .subl_v _ _ _ => [(5, 7, 0x49), (26, 6, 0x10)]
  | .subq _ _ _ => [(5, 7, 0x29), (26, 6, 0x10)]
  | .subq_v _ _ _ => [(5, 7, 0x69), (26, 6, 0x10)]
  | .s4addl _ _ _ => [(5, 7, 0x2), (26, 6, 0x10)]
  | .s8addl _ _ _ => [(5, 7, 0x12), (26, 6, 0x10)]
  | .s4addq _ _ _ => [(5, 7, 0x22), (26, 6, 0x10)]
  | .s8addq _ _ _ => [(5, 7, 0x32), (26, 6, 0x10)]
  | .s4subl _ _ _ => [(5, 7, 0xB), (26, 6, 0x10)]
  | .s8subl _ _ _ => [(5, 7, 0x1B), (26, 6, 0x10)]
  | .s4subq _ _ _ => [(5, 7, 0x2B), (26, 6, 0x10)]
  | .s8subq _ _ _ => [(5, 7, 0x3B), (26, 6, 0x10)]
  | .cmpeq _ _ _ => [(5, 7, 0x2D), (26, 6, 0x10)]
  | .cmplt _ _ _ => [(5, 7, 0x4D), (26, 6, 0x10)]
  | .cmple _ _ _ => [(5, 7, 0x6D), (26, 6, 0x10)]
  | .cmpult _ _ _ => [(5, 7, 0x1D), (26, 6, 0x10)]
  | .cmpule _ _ _ => [(5, 7, 0x3D), (26, 6, 0x10)]
  | .cmpbge _ _ _ => [(5, 7, 0xF), (26, 6, 0x10)]
  | .and _ _ _ => [(5, 7, 0x0), (26, 6, 0x11)]
  | .bic _ _ _ => [(5, 7, 0x8), (26, 6, 0x11)]
  | .bis _ _ _ => [(5, 7, 0x20), (26, 6, 0x11)]
  | .ornot _ _ _ => [(5, 7, 0x28), (26, 6, 0x11)]
  | .xor _ _ _ => [(5, 7, 0x40), (26, 6, 0x11)]
  | .eqv _ _ _ => [(5, 7, 0x48), (26, 6, 0x11)]
  | .cmoveq _ _ _ => [(5, 7, 0x24), (26, 6, 0x11)]
  | .cmovne _ _ _ => [(5, 7, 0x26), (26, 6, 0x11)]
  | .cmovlt _ _ _ => [(5, 7, 0x44), (26, 6, 0x11)]
  | .cmovle _ _ _ => [(5, 7, 0x64), (26, 6, 0x11)]
  | .cmovgt _ _ _ => [(5, 7, 0x66), (26, 6, 0x11)]
  | .cmovge _ _ _ => [(5, 7, 0x46), (26, 6, 0x11)]
  | .cmovlbs _ _ _ => [(5, 7, 0x14), (26, 6, 0x11)]
  | .cmovlbc _ _ _ => [(5, 7, 0x16), (26, 6, 0x11)]
  | .amask _ _ => [(5, 7, 0x61), (26, 6, 0x11)]
  | .implver _ => [(5, 7, 0x6C), (26, 6, 0x11)]
  | .sll _ _ _ => [(5, 7, 0x39), (26, 6, 0x12)]
  | .srl _ _ _ => [(5, 7, 0x34), (26, 6, 0x12)]
  | .sra _ _ _ => [(5, 7, 0x3C), (26, 6, 0x12)]
  | .zap _ _ _ => [(5, 7, 0x30), (26, 6, 0x12)]
  | .zapnot _ _ _ => [(5, 7, 0x31), (26, 6, 0x12)]
  | .extbl _ _ _ => [(5, 7, 0x6), (26, 6, 0x12)]
  | .extwl _ _ _ => [(5, 7, 0x16), (26, 6, 0x12)]
  | .extll _ _ _ => [(5, 7, 0x26), (26, 6, 0x12)]
  | .extql _ _ _ => [(5, 7, 0x36), (26, 6, 0x12)]
  | .extwh _ _ _ => [(5, 7, 0x5A), (26, 6, 0x12)]
  | .extlh _ _ _ => [(5, 7, 0x6A), (26, 6, 0x12)]
  | .extqh _ _ _ => [(5, 7, 0x7A), (26, 6, 0x12)]
  | .insbl _ _ _ => [(5, 7, 0xB), (26, 6, 0x12)]
  | .inswl _ _ _ => [(5, 7, 0x1B), (26, 6, 0x12)]
  | .insll _ _ _ => [(5, 7, 0x2B), (26, 6, 0x12)]
  | .insql _ _ _ => [(5, 7, 0x3B), (26, 6, 0x12)]
  | .inswh _ _ _ => [(5, 7, 0x57), (26, 6, 0x12)]
  | .inslh _ _ _ => [(5, 7, 0x67), (26, 6, 0x12)]
  | .insqh _ _ _ => [(5, 7, 0x77), (26, 6, 0x12)]
  | .mskbl _ _ _ => [(5, 7, 0x2), (26, 6, 0x12)]
  | .mskwl _ _ _ => [(5, 7, 0x12), (26, 6, 0x12)]
  | .mskll _ _ _ => [(5, 7, 0x22), (26, 6, 0x12)]
  | .mskql _ _ _ => [(5, 7, 0x32), (26, 6, 0x12)]
  | .mskwh _ _ _ => [(5, 7, 0x52), (26, 6, 0x12)]
  | .msklh _ _ _ => [(5, 7, 0x62), (26, 6, 0x12)]
  | .mskqh _ _ _ => [(5, 7, 0x72), (26, 6, 0x12)]
  | .mull _ _ _ => [(5, 7, 0x0), (26, 6, 0x13)]
  | .mull_v _ _ _ => [(5, 7, 0x40), (26, 6, 0x13)]
  | .mulq _ _ _ => [(5, 7, 0x20), (26, 6, 0x13)]
  | .mulq_v _ _ _ => [(5, 7, 0x60), (26, 6, 0x13)]
  | .umulh _ _ _ => [(5, 7, 0x30), (26, 6, 0x13)]
  | .sextb _ _ => [(5, 7, 0x0), (26, 6, 0x1C)]
  | .sextw _ _ => [(5, 7, 0x1), (26, 6, 0x1C)]
  | .cvtlq _ _ => [(5, 11, 0x10), (26, 6, 0x17)]
  | .cpys _ _ _ => [(5, 11, 0x20), (26, 6, 0x17)]
  | .cpysn _ _ _ => [(5, 11, 0x21), (26, 6, 0x17)]
  | .cpyse _ _ _ => [(5, 11, 0x22), (26, 6, 0x17)]
  | .mt_fpcr _ _ _ => [(5, 11, 0x24), (26, 6, 0x17)]
  | .mf_fpcr _ _ _ => [(5, 11, 0x25), (26, 6, 0x17)]
  | .fcmoveq _ _ _ => [(5, 11, 0x2A), (26, 6, 0x17)]
  | .fcmovne _ _ _ => [(5, 11, 0x2B), (26, 6, 0x17)]
  | .fcmovlt _ _ _ => [(5, 11, 0x2C), (26, 6, 0x17)]
  | .fcmovge _ _ _ => [(5, 11, 0x2D), (26, 6, 0x17)]
  | .fcmovle _ _ _ => [(5, 11, 0x2E), (26, 6, 0x17)]
  | .fcmovgt _ _ _ => [(5, 11, 0x2F), (26, 6, 0x17)]
  | .cvtql _ _ => [(5, 11, 0x30), (26, 6, 0x17)]
  | .cvtql_v _ _ => [(5, 11, 0x130), (26, 6, 0x17)]
  | .cvtql_sv _ _ => [(5, 11, 0x530), (26, 6, 0x17)]
  | .adds _ _ _ => [(5, 11, 0x80), (26, 6, 0x16)]
  | .adds_c _ _ _ => [(5, 11, 0x0), (26, 6, 0x16)]
  | .adds_m _ _ _ => [(5, 11, 0x40), (26, 6, 0x16)]
  | .adds_d _ _ _ => [(5, 11, 0xC0), (26, 6, 0x16)]
  | .adds_u _ _ _ => [(5, 11, 0x180), (26, 6, 0x16)]
  | .adds_uc _ _ _ => [(5, 11, 0x100), (26, 6, 0x16)]
  | .adds_um _ _ _ => [(5, 11, 0x140), (26, 6, 0x16)]
  | .adds_ud _ _ _ => [(5, 11, 0x1C0), (26, 6, 0x16)]
  | .adds_su _ _ _ => [(5, 11, 0x580), (26, 6, 0x16)]
  | .adds_suc _ _ _ => [(5, 11, 0x500), (26, 6, 0x16)]
  | .adds_sum _ _ _ => [(5, 11, 0x540), (26, 6, 0x16)]
  | .adds_sud _ _ _ => [(5, 11, 0x5C0), (26, 6, 0x16)]
  | .adds_sui _ _ _ => [(5, 11, 0x780), (26, 6, 0x16)]
  | .adds_suic _ _ _ => [(5, 11, 0x700), (26, 6, 0x16)]
  | .adds_suim _ _ _ => [(5, 11, 0x740), (26, 6, 0x16)]
  | .adds_suid _ _ _ => [(5, 11, 0x7C0), (26, 6, 0x16)]
  | .addt _ _ _ => [(5, 11, 0xA0), (26, 6, 0x16)]
  | .addt_c _ _ _ => [(5, 11, 0x20), (26, 6, 0x16)]
  | .addt_m _ _ _ => [(5, 11, 0x60), (26, 6, 0x16)]
  | .addt_d _ _ _ => [(5, 11, 0xE0), (26, 6, 0x16)]
  | .addt_u _ _ _ => [(5, 11, 0x1A0), (26, 6, 0x16)]
  | .addt_uc _ _ _ => [(5, 11, 0x120), (26, 6, 0x16)]
  | .addt_um _ _ _ => [(5, 11, 0x160), (26, 6, 0x16)]
  | .addt_ud _ _ _ => [(5, 11, 0x1E0), (26, 6, 0x16)]
  | .addt_su _ _ _ => [(5, 11, 0x5A0), (26, 6, 0x16)]
  | .addt_suc _ _ _ => [(5, 11, 0x520), (26, 6, 0x16)]
  | .addt_sum _ _ _ => [(5, 11, 0x560), (26, 6, 0x16)]
  | .addt_sud _ _ _ => [(5, 11, 0x5E0), (26, 6, 0x16)]
  | .addt_sui _ _ _ => [(5, 11, 0x7A0), (26, 6, 0x16)]
  | .addt_suic _ _ _ => [(5, 11, 0x720), (26, 6, 0x16)]
  | .addt_suim _ _ _ => [(5, 11, 0x760), (26, 6, 0x16)]
  | .addt_suid _ _ _ => [(5, 11, 0x7E0), (26, 6, 0x16)]
  | .subs _ _ _ => [(5, 11, 0x81), (26, 6, 0x16)]
  | .subs_c _ _ _ => [(5, 11, 0x1), (26, 6, 0x16)]
  | .subs_m _ _ _ => [(5, 11, 0x41), (26, 6, 0x16)]
  | .subs_d _ _ _ => [(5, 11, 0xC1), (26, 6, 0x16)]
  | .subs_u _ _ _ => [(5, 11, 0x181), (26, 6, 0x16)]
  | .subs_uc _ _ _ => [(5, 11, 0x101), (26, 6, 0x16)]
  | .subs_um _ _ _ => [(5, 11, 0x141), (26, 6, 0x16)]
  | .subs_ud _ _ _ => [(5, 11, 0x1C1), (26, 6, 0x16)]
  | .subs_su _ _ _ => [(5, 11, 0x581), (26, 6, 0x16)]
  | .subs_suc _ _ _ => [(5, 11, 0x501), (26, 6, 0x16)]
  | .subs_sum _ _ _ => [(5, 11, 0x541), (26, 6, 0x16)]
  | .subs_sud _ _ _ => [(5, 11, 0x5C1), (26, 6, 0x16)]
  | .subs_sui _ _ _ => [(5, 11, 0x781), (26, 6, 0x16)]
  | .subs_suic _ _ _ => [(5, 11, 0x701), (26, 6, 0x16)]
  | .subs_suim _ _ _ => [(5, 11, 0x741), (26, 6, 0x16)]
  | .subs_suid _ _ _ => [(5, 11, 0x7C1), (26, 6, 0x16)]
  | .subt _ _ _ => [(5, 11, 0xA1), (26, 6, 0x16)]
  | .subt_c _ _ _ => [(5, 11, 0x21), (26, 6, 0x16)]
  | .subt_m _ _ _ => [(5, 11, 0x61), (26, 6, 0x16)]
  | .subt_d _ _ _ => [(5, 11, 0xE1), (26, 6, 0x16)]
  | .subt_u _ _ _ => [(5, 11, 0x1A1), (26, 6, 0x16)]
  | .subt_uc _ _ _ => [(5, 11, 0x121), (26, 6, 0x16)]
  | .subt_um _ _ _ => [(5, 11, 0x161), (26, 6, 0x16)]
  | .subt_ud _ _ _ => [(5, 11, 0x1E1), (26, 6, 0x16)]
  | .subt_su _ _ _ => [(5, 11, 0x5A1), (26, 6, 0x16)]
  | .subt_suc _ _ _ => [(5, 11, 0x521), (26, 6, 0x16)]
  | .subt_sum _ _ _ => [(5, 11, 0x561), (26, 6, 0x16)]
  | .subt_sud _ _ _ => [(5, 11, 0x5E1), (26, 6, 0x16)]
  | .subt_sui _ _ _ => [(5, 11, 0x7A1), (26, 6, 0x16)]
  | .subt_suic _ _ _ => [(5, 11, 0x721), (26, 6, 0x16)]
  | .subt_suim _ _ _ => [(5, 11, 0x761), (26, 6, 0x16)]
  | .subt_suid _ _ _ => [(5, 11, 0x7E1), (26, 6, 0x16)]
  | .muls _ _ _ => [(5, 11, 0x82), (26, 6, 0x16)]
  | .muls_c _ _ _ => [(5, 11, 0x2), (26, 6, 0x16)]
  | .muls_m _ _ _ => [(5, 11, 0x42), (26, 6, 0x16)]
  | .muls_d _ _ _ => [(5, 11, 0xC2), (26, 6, 0x16)]
  | .muls_u _ _ _ => [(5, 11, 0x182), (26, 6, 0x16)]
  | .muls_uc _ _ _ => [(5, 11, 0x102), (26, 6, 0x16)]
  | .muls_um _ _ _ => [(5, 11, 0x142), (26, 6, 0x16)]
  | .muls_ud _ _ _ => [(5, 11, 0x1C2), (26, 6, 0x16)]
  | .muls_su _ _ _ => [(5, 11, 0x582), (26, 6, 0x16)]
  | .muls_suc _ _ _ => [(5, 11, 0x502), (26, 6, 0x16)]
  | .muls_sum _ _ _ => [(5, 11, 0x542), (26, 6, 0x16)]
  | .muls_sud _ _ _ => [(5, 11, 0x5C2), (26, 6, 0x16)]
  | .muls_sui _ _ _ => [(5, 11, 0x782), (26, 6, 0x16)]
  | .muls_suic _ _ _ => [(5, 11, 0x702), (26, 6, 0x16)]
  | .muls_suim _ _ _ => [(5, 11, 0x742), (26, 6, 0x16)]
  | .muls_suid _ _ _ => [(5, 11, 0x7C2), (26, 6, 0x16)]
  | .mult _ _ _ => [(5, 11, 0xA2), (26, 6, 0x16)]
  | .mult_c _ _ _ => [(5, 11, 0x22), (26, 6, 0x16)]
  | .mult_m _ _ _ => [(5, 11, 0x62), (26, 6, 0x16)]
  | .mult_d _ _ _ => [(5, 11, 0xE2), (26, 6, 0x16)]
  | .mult_u _ _ _ => [(5, 11, 0x1A2), (26, 6, 0x16)]
  | .mult_uc _ _ _ => [(5, 11, 0x122), (26, 6, 0x16)]
  | .mult_um _ _ _ => [(5, 11, 0x162), (26, 6, 0x16)]
  | .mult_ud _ _ _ => [(5, 11, 0x1E2), (26, 6, 0x16)]
  | .mult_su _ _ _ => [(5, 11, 0x5A2), (26, 6, 0x16)]
  | .mult_suc _ _ _ => [(5, 11, 0x522), (26, 6, 0x16)]
  | .mult_sum _ _ _ => [(5, 11, 0x562), (26, 6, 0x16)]
  | .mult_sud _ _ _ => [(5, 11, 0x5E2), (26, 6, 0x16)]
  | .mult_sui _ _ _ => [(5, 11, 0x7A2), (26, 6, 0x16)]
  | .mult_suic _ _ _ => [(5, 11, 0x722), (26, 6, 0x16)]
  | .mult_suim _ _ _ => [(5, 11, 0x762), (26, 6, 0x16)]
  | .mult_suid _ _ _ => [(5, 11, 0x7E2), (26, 6, 0x16)]
  | .divs _ _ _ => [(5, 11, 0x83), (26, 6, 0x16)]
  | .divs_c _ _ _ => [(5, 11, 0x3), (26, 6, 0x16)]
  | .divs_m _ _ _ => [(5, 11, 0x43), (26, 6, 0x16)]
  | .divs_d _ _ _ => [(5, 11, 0xC3), (26, 6, 0x16)]
  | .divs_u _ _ _ => [(5, 11, 0x183), (26, 6, 0x16)]
  | .divs_uc _ _ _ => [(5, 11, 0x103), (26, 6, 0x16)]
  | .divs_um _ _ _ => [(5, 11, 0x143), (26, 6, 0x16)]
  | .divs_ud _ _ _ => [(5, 11, 0x1C3), (26, 6, 0x16)]
  | .divs_su _ _ _ => [(5, 11, 0x583), (26, 6, 0x16)]
  | .divs_suc _ _ _ => [(5, 11, 0x503), (26, 6, 0x16)]
  | .divs_sum _ _ _ => [(5, 11, 0x543), (26, 6, 0x16)]
  | .divs_sud _ _ _ => [(5, 11, 0x5C3), (26, 6, 0x16)]
  | .divs_sui _ _ _ => [(5, 11, 0x783), (26, 6, 0x16)]
  | .divs_suic _ _ _ => [(5, 11, 0x703), (26, 6, 0x16)]
  | .divs_suim _ _ _ => [(5, 11, 0x743), (26, 6, 0x16)]
  | .divs_suid _ _ _ => [(5, 11, 0x7C3), (26, 6, 0x16)]
  | .divt _ _ _ => [(5, 11, 0xA3), (26, 6, 0x16)]
  | .divt_c _ _ _ => [(5, 11, 0x23), (26, 6, 0x16)]
  | .divt_m _ _ _ => [(5, 11, 0x63), (26, 6, 0x16)]
  | .divt_d _ _ _ => [(5, 11, 0xE3), (26, 6, 0x16)]
  | .divt_u _ _ _ => [(5, 11, 0x1A3), (26, 6, 0x16)]
  | .divt_uc _ _ _ => [(5, 11, 0x123), (26, 6, 0x16)]
  | .divt_um _ _ _ => [(5, 11, 0x163), (26, 6, 0x16)]
  | .divt_ud _ _ _ => [(5, 11, 0x1E3), (26, 6, 0x16)]
  | .divt_su _ _ _ => [(5, 11, 0x5A3), (26, 6, 0x16)]
  | .divt_suc _ _ _ => [(5, 11, 0x523), (26, 6, 0x16)]
  | .divt_sum _ _ _ => [(5, 11, 0x563), (26, 6, 0x16)]
  | .divt_sud _ _ _ => [(5, 11, 0x5E3), (26, 6, 0x16)]
  | .divt_sui _ _ _ => [(5, 11, 0x7A3), (26, 6, 0x16)]
  | .divt_suic _ _ _ => [(5, 11, 0x723), (26, 6, 0x16)]
  | .divt_suim _ _ _ => [(5, 11, 0x763), (26, 6, 0x16)]
  | .divt_suid _ _ _ => [(5, 11, 0x7E3), (26, 6, 0x16)]
  | .cvtts _ _ => [(5, 11, 0xAC), (26, 6, 0x16)]
  | .cvtts_c _ _ => [(5, 11, 0x2C), (26, 6, 0x16)]
  | .cvtts_m _ _ => [(5, 11, 0x6C), (26, 6, 0x16)]
  | .cvtts_d _ _ => [(5, 11, 0xEC), (26, 6, 0x16)]
  | .cvtts_u _ _ => [(5, 11, 0x1AC), (26, 6, 0x16)]
  | .cvtts_uc _ _ => [(5, 11, 0x12C), (26, 6, 0x16)]
  | .cvtts_um _ _ => [(5, 11, 0x16C), (26, 6, 0x16)]
  | .cvtts_ud _ _ => [(5, 11, 0x1EC), (26, 6, 0x16)]
  | .cvtts_su _ _ => [(5, 11, 0x5AC), (26, 6, 0x16)]
  | .cvtts_suc _ _ => [(5, 11, 0x52C), (26, 6, 0x16)]
  | .cvtts_sum _ _ => [(5, 11, 0x56C), (26, 6, 0x16)]
  | .cvtts_sud _ _ => [(5, 11, 0x5EC), (26, 6, 0x16)]
  | .cvtts_sui _ _ => [(5, 11, 0x7AC), (26, 6, 0x16)]
  | .cvtts_suic _ _ => [(5, 11, 0x72C), (26, 6, 0x16)]
  | .cvtts_suim _ _ => [(5, 11, 0x76C), (26, 6, 0x16)]
  | .cvtts_suid _ _ => [(5, 11, 0x7EC), (26, 6, 0x16)]
  | .cvtqs _ _ => [(5, 11, 0xBC), (26, 6, 0x16)]
  | .cvtqs_c _ _ => [(5, 11, 0x3C), (26, 6, 0x16)]
  | .cvtqs_m _ _ => [(5, 11, 0x7C), (26, 6, 0x16)]
  | .cvtqs_d _ _ => [(5, 11, 0xFC), (26, 6, 0x16)]
  | .cvtqs_sui _ _ => [(5, 11, 0x7BC), (26, 6, 0x16)]
  | .cvtqs_suic _ _ => [(5, 11, 0x73C), (26, 6, 0x16)]
  | .cvtqs_suim _ _ => [(5, 11, 0x77C), (26, 6, 0x16)]
  | .cvtqs_suid _ _ => [(5, 11, 0x7FC), (26, 6, 0x16)]
  | .cvtqt _ _ => [(5, 11, 0xBE), (26, 6, 0x16)]
  | .cvtqt_c _ _ => [(5, 11, 0x3E), (26, 6, 0x16)]
  | .cvtqt_m _ _ => [(5, 11, 0x7E), (26, 6, 0x16)]
  | .cvtqt_d _ _ => [(5, 11, 0xFE), (26, 6, 0x16)]
  | .cvtqt_sui _ _ => [(5, 11, 0x7BE), (26, 6, 0x16)]
  | .cvtqt_suic _ _ => [(5, 11, 0x73E), (26, 6, 0x16)]
  | .cvtqt_suim _ _ => [(5, 11, 0x77E), (26, 6, 0x16)]
  | .cvtqt_suid _ _ => [(5, 11, 0x7FE), (26, 6, 0x16)]
  | .cmptun _ _ _ => [(5, 11, 0xA4), (26, 6, 0x16)]
  | .cmptun_su _ _ _ => [(5, 11, 0x5A4), (26, 6, 0x16)]
  | .cmpteq _ _ _ => [(5, 11, 0xA5), (26, 6, 0x16)]
  | .cmpteq_su _ _ _ => [(5, 11, 0x5A5), (26, 6, 0x16)]
  | .cmptlt _ _ _ => [(5, 11, 0xA6), (26, 6, 0x16)]
  | .cmptlt_su _ _ _ => [(5, 11, 0x5A6), (26, 6, 0x16)]
  | .cmptle _ _ _ => [(5, 11, 0xA7), (26, 6, 0x16)]
  | .cmptle_su _ _ _ => [(5, 11, 0x5A7), (26, 6, 0x16)]
  | .cvtst _ _ => [(5, 11, 0x2AC), (26, 6, 0x16)]
  | .cvtst_s _ _ => [(5, 11, 0x6AC), (26, 6, 0x16)]
  | .cvttq _ _ => [(5, 11, 0xAF), (26, 6, 0x16)]
  | .cvttq_c _ _ => [(5, 11, 0x2F), (26, 6, 0x16)]
  | .cvttq_m _ _ => [(5, 11, 0x6F), (26, 6, 0x16)]
  | .cvttq_d _ _ => [(5, 11, 0xEF), (26, 6, 0x16)]
  | .cvttq_v _ _ => [(5, 11, 0x1AF), (26, 6, 0x16)]
  | .cvttq_vc _ _ => [(5, 11, 0x12F), (26, 6, 0x16)]
  | .cvttq_vm _ _ => [(5, 11, 0x16F), (26, 6, 0x16)]
  | .cvttq_vd _ _ => [(5, 11, 0x1EF), (26, 6, 0x16)]
  | .cvttq_sv _ _ => [(5, 11, 0x5AF), (26, 6, 0x16)]
  | .cvttq_svc _ _ => [(5, 11, 0x52F), (26, 6, 0x16)]
  | .cvttq_svm _ _ => [(5, 11, 0x56F), (26, 6, 0x16)]
  | .cvttq_svd _ _ => [(5, 11, 0x5EF), (26, 6, 0x16)]
  | .cvttq_svi _ _ => [(5, 11, 0x7AF), (26, 6, 0x16)]
  | .cvttq_svic _ _ => [(5, 11, 0x72F), (26, 6, 0x16)]
  | .cvttq_svim _ _ => [(5, 11, 0x76F), (26, 6, 0x16)]
  | .cvttq_svid _ _ => [(5, 11, 0x7EF), (26, 6, 0x16)]
  | .addf _ _ _ => [(5, 11, 0x80), (26, 6, 0x15)]
  | .addf_c _ _ _ => [(5, 11, 0x0), (26, 6, 0x15)]
  | .addf_u _ _ _ => [(5, 11, 0x180), (26, 6, 0x15)]
  | .addf_uc _ _ _ => [(5, 11, 0x100), (26, 6, 0x15)]
  | .addf_s _ _ _ => [(5, 11, 0x480), (26, 6, 0x15)]
  | .addf_sc _ _ _ => [(5, 11, 0x400), (26, 6, 0x15)]
  | .addf_su _ _ _ => [(5, 11, 0x580), (26, 6, 0x15)]
  | .addf_suc _ _ _ => [(5, 11, 0x500), (26, 6, 0x15)]
  | .addg _ _ _ => [(5, 11, 0xA0), (26, 6, 0x15)]
  | .addg_c _ _ _ => [(5, 11, 0x20), (26, 6, 0x15)]
  | .addg_u _ _ _ => [(5, 11, 0x1A0), (26, 6, 0x15)]
  | .addg_uc _ _ _ => [(5, 11, 0x120), (26, 6, 0x15)]
  | .addg_s _ _ _ => [(5, 11, 0x4A0), (26, 6, 0x15)]
  | .addg_sc _ _ _ => [(5, 11, 0x420), (26, 6, 0x15)]
  | .addg_su _ _ _ => [(5, 11, 0x5A0), (26, 6, 0x15)]
  | .addg_suc _ _ _ => [(5, 11, 0x520), (26, 6, 0x15)]
  | .subf _ _ _ => [(5, 11, 0x81), (26, 6, 0x15)]
  | .subf_c _ _ _ => [(5, 11, 0x1), (26, 6, 0x15)]
  | .subf_u _ _ _ => [(5, 11, 0x181), (26, 6, 0x15)]
  | .subf_uc _ _ _ => [(5, 11, 0x101), (26, 6, 0x15)]
  | .subf_s _ _ _ => [(5, 11, 0x481), (26, 6, 0x15)]
  | .subf_sc _ _ _ => [(5, 11, 0x401), (26, 6, 0x15)]
  | .subf_su _ _ _ => [(5, 11, 0x581), (26, 6, 0x15)]
  | .subf_suc _ _ _ => [(5, 11, 0x501), (26, 6, 0x15)]
  | .subg _ _ _ => [(5, 11, 0xA1), (26, 6, 0x15)]
  | .subg_c _ _ _ => [(5, 11, 0x21), (26, 6, 0x15)]
  | .subg_u _ _ _ => [(5, 11, 0x1A1), (26, 6, 0x15)]
  | .subg_uc _ _ _ => [(5, 11, 0x121), (26, 6, 0x15)]
  | .subg_s _ _ _ => [(5, 11, 0x4A1), (26, 6, 0x15)]
  | .subg_sc _ _ _ => [(5, 11, 0x421), (26, 6, 0x15)]
  | .subg_su _ _ _ => [(5, 11, 0x5A1), (26, 6, 0x15)]
  | .subg_suc _ _ _ => [(5, 11, 0x521), (26, 6, 0x15)]
  | .mulf _ _ _ => [(5, 11, 0x82), (26, 6, 0x15)]
  | .mulf_c _ _ _ => [(5, 11, 0x2), (26, 6, 0x15)]
  | .mulf_u _ _ _ => [(5, 11, 0x182), (26, 6, 0x15)]
  | .mulf_uc _ _ _ => [(5, 11, 0x102), (26, 6, 0x15)]
  | .mulf_s _ _ _ => [(5, 11, 0x482), (26, 6, 0x15)]
  | .mulf_sc _ _ _ => [(5, 11, 0x402), (26, 6, 0x15)]
  | .mulf_su _ _ _ => [(5, 11, 0x582), (26, 6, 0x15)]
  | .mulf_suc _ _ _ => [(5, 11, 0x502), (26, 6, 0x15)]
  | .mulg _ _ _ => [(5, 11, 0xA2), (26, 6, 0x15)]
  | .mulg_c _ _ _ => [(5, 11, 0x22), (26, 6, 0x15)]
  | .mulg_u _ _ _ => [(5, 11, 0x1A2), (26, 6, 0x15)]
  | .mulg_uc _ _ _ => [(5, 11, 0x122), (26, 6, 0x15)]
  | .mulg_s _ _ _ => [(5, 11, 0x4A2), (26, 6, 0x15)]
  | .mulg_sc _ _ _ => [(5, 11, 0x422), (26, 6, 0x15)]
  | .mulg_su _ _ _ => [(5, 11, 0x5A2), (26, 6, 0x15)]
  | .mulg_suc _ _ _ => [(5, 11, 0x522), (26, 6, 0x15)]
  | .divf _ _ _ => [(5, 11, 0x83), (26, 6, 0x15)]
  | .divf_c _ _ _ => [(5, 11, 0x3), (26, 6, 0x15)]
  | .divf_u _ _ _ => [(5, 11, 0x183), (26, 6, 0x15)]
  | .divf_uc _ _ _ => [(5, 11, 0x103), (26, 6, 0x15)]
  | .divf_s _ _ _ => [(5, 11, 0x483), (26, 6, 0x15)]
  | .divf_sc _ _ _ => [(5, 11, 0x403), (26, 6, 0x15)]
  | .divf_su _ _ _ => [(5, 11, 0x583), (26, 6, 0x15)]
  | .divf_suc _ _ _ => [(5, 11, 0x503), (26, 6, 0x15)]
  | .divg _ _ _ => [(5, 11, 0xA3), (26, 6, 0x15)]
  | .divg_c _ _ _ => [(5, 11, 0x23), (26, 6, 0x15)]
  | .divg_u _ _ _ => [(5, 11, 0x1A3), (26, 6, 0x15)]
  | .divg_uc _ _ _ => [(5, 11, 0x123), (26, 6, 0x15)]
  | .divg_s _ _ _ => [(5, 11, 0x4A3), (26, 6, 0x15)]
  | .divg_sc _ _ _ => [(5, 11, 0x423), (26, 6, 0x15)]
  | .divg_su _ _ _ => [(5, 11, 0x5A3), (26, 6, 0x15)]
  | .divg_suc _ _ _ => [(5, 11, 0x523), (26, 6, 0x15)]
  | .cvtdg _ _ => [(5, 11, 0x9E), (26, 6, 0x15)]
  | .cvtdg_c _ _ => [(5, 11, 0x1E), (26, 6, 0x15)]
  | .cvtdg_u _ _ => [(5, 11, 0x19E), (26, 6, 0x15)]
  | .cvtdg_uc _ _ => [(5, 11, 0x11E), (26, 6, 0x15)]
  | .cvtdg_s _ _ => [(5, 11, 0x49E), (26, 6, 0x15)]
  | .cvtdg_sc _ _ => [(5, 11, 0x41E), (26, 6, 0x15)]
  | .cvtdg_su _ _ => [(5, 11, 0x59E), (26, 6, 0x15)]
  | .cvtdg_suc _ _ => [(5, 11, 0x51E), (26, 6, 0x15)]
  | .cvtgf _ _ => [(5, 11, 0xAC), (26, 6, 0x15)]
  | .cvtgf_c _ _ => [(5, 11, 0x2C), (26, 6, 0x15)]
  | .cvtgf_u _ _ => [(5, 11, 0x1AC), (26, 6, 0x15)]
  | .cvtgf_uc _ _ => [(5, 11, 0x12C), (26, 6, 0x15)]
  | .cvtgf_s _ _ => [(5, 11, 0x4AC), (26, 6, 0x15)]
  | .cvtgf_sc _ _ => [(5, 11, 0x42C), (26, 6, 0x15)]
  | .cvtgf_su _ _ => [(5, 11, 0x5AC), (26, 6, 0x15)]
  | .cvtgf_suc _ _ => [(5, 11, 0x52C), (26, 6, 0x15)]
  | .cvtgd _ _ => [(5, 11, 0xAD), (26, 6, 0x15)]
  | .cvtgd_c _ _ => [(5, 11, 0x2D), (26, 6, 0x15)]
  | .cvtgd_u _ _ => [(5, 11, 0x1AD), (26, 6, 0x15)]
  | .cvtgd_uc _ _ => [(5, 11, 0x12D), (26, 6, 0x15)]
  | .cvtgd_s _ _ => [(5, 11, 0x4AD), (26, 6, 0x15)]
  | .cvtgd_sc _ _ => [(5, 11, 0x42D), (26, 6, 0x15)]
  | .cvtgd_su _ _ => [(5, 11, 0x5AD), (26, 6, 0x15)]
  | .cvtgd_suc _ _ => [(5, 11, 0x52D), (26, 6, 0x15)]
  | .cvtgq _ _ => [(5, 11, 0xAF), (26, 6, 0x15)]
  | .cvtgq_c _ _ => [(5, 11, 0x2F), (26, 6, 0x15)]
  | .cvtgq_v _ _ => [(5, 11, 0x1AF), (26, 6, 0x15)]
  | .cvtgq_vc _ _ => [(5, 11, 0x12F), (26, 6, 0x15)]
  | .cvtgq_s _ _ => [(5, 11, 0x4AF), (26, 6, 0x15)]
  | .cvtgq_sc _ _ => [(5, 11, 0x42F), (26, 6, 0x15)]
  | .cvtgq_sv _ _ => [(5, 11, 0x5AF), (26, 6, 0x15)]
  | .cvtgq_svc _ _ => [(5, 11, 0x52F), (26, 6, 0x15)]
  | .cvtqf _ _ => [(5, 11, 0xBC), (26, 6, 0x15)]
  | .cvtqf_c _ _ => [(5, 11, 0x3C), (26, 6, 0x15)]
  | .cvtqg _ _ => [(5, 11, 0xBE), (26, 6, 0x15)]
  | .cvtqg_c _ _ => [(5, 11, 0x3E), (26, 6, 0x15)]
  | .cmpgeq _ _ _ => [(5, 11, 0xA5), (26, 6, 0x15)]
  | .cmpgeq_s _ _ _ => [(5, 11, 0x4A5), (26, 6, 0x15)]
  | .cmpglt _ _ _ => [(5, 11, 0xA6), (26, 6, 0x15)]
  | .cmpglt_s _ _ _ => [(5, 11, 0x4A6), (26, 6, 0x15)]
  | .cmpgle _ _ _ => [(5, 11, 0xA7), (26, 6, 0x15)]
  | .cmpgle_s _ _ _ => [(5, 11, 0x4A7), (26, 6, 0x15)]
  | .trapb => [(0, 16, 0x0), (26, 6, 0x18)]
  | .excb => [(0, 16, 0x400), (26, 6, 0x18)]
  | .mb => [(0, 16, 0x4000), (26, 6, 0x18)]
  | .wmb => [(0, 16, 0x4400), (26, 6, 0x18)]
  | .fetch _ => [(0, 16, 0x8000), (26, 6, 0x18)]
  | .fetch_m _ => [(0, 16, 0xA000), (26, 6, 0x18)]
  | .rpcc _ => [(0, 16, 0xC000), (26, 6, 0x18)]
  | .rc _ => [(0, 16, 0xE000), (26, 6, 0x18)]
  | .rs _ => [(0, 16, 0xF000), (26, 6, 0x18)]
  | .call_pal _ => [(26, 6, 0x0)]
  | .hw_mfpr _ _ _ => [(26, 6, 0x19)]
  | .hw_ld _ _ _ _ _ _ _ _ _ => [(26, 6, 0x1B)]
  | .hw_mtpr _ _ _ => [(26, 6, 0x1D)]
  | .hw_rei _ => [(14, 2, 0x2), (26, 6, 0x1E)]
  | .hw_rei_stall _ => [(14, 2, 0x3), (26, 6, 0x1E)]
  | .hw_st _ _ _ _ _ _ _ _ _ => [(26, 6, 0x1F)]

/-- The word of an instruction has the fixed fields of its row. -/
def TableWord.Statement (i : Instr) : Prop := hasFields (encode i) (fixedFields i)

theorem TableWord.lda (ra rb : Reg) (disp : BitVec 16) : TableWord.Statement (.lda ra rb disp) :=
    hasFields_opcode (opcodeOf_encMem _ _ _ _)
theorem TableWord.ldah (ra rb : Reg) (disp : BitVec 16) : TableWord.Statement (.ldah ra rb disp) :=
    hasFields_opcode (opcodeOf_encMem _ _ _ _)
theorem TableWord.ldbu (ra rb : Reg) (disp : BitVec 16) : TableWord.Statement (.ldbu ra rb disp) :=
    hasFields_opcode (opcodeOf_encMem _ _ _ _)
theorem TableWord.ldq_u (ra rb : Reg) (disp : BitVec 16) : TableWord.Statement (.ldq_u ra rb disp) :=
    hasFields_opcode (opcodeOf_encMem _ _ _ _)
theorem TableWord.ldwu (ra rb : Reg) (disp : BitVec 16) : TableWord.Statement (.ldwu ra rb disp) :=
    hasFields_opcode (opcodeOf_encMem _ _ _ _)
theorem TableWord.stw (ra rb : Reg) (disp : BitVec 16) : TableWord.Statement (.stw ra rb disp) :=
    hasFields_opcode (opcodeOf_encMem _ _ _ _)
theorem TableWord.stb (ra rb : Reg) (disp : BitVec 16) : TableWord.Statement (.stb ra rb disp) :=
    hasFields_opcode (opcodeOf_encMem _ _ _ _)
theorem TableWord.stq_u (ra rb : Reg) (disp : BitVec 16) : TableWord.Statement (.stq_u ra rb disp) :=
    hasFields_opcode (opcodeOf_encMem _ _ _ _)
theorem TableWord.ldl (ra rb : Reg) (disp : BitVec 16) : TableWord.Statement (.ldl ra rb disp) :=
    hasFields_opcode (opcodeOf_encMem _ _ _ _)
theorem TableWord.ldq (ra rb : Reg) (disp : BitVec 16) : TableWord.Statement (.ldq ra rb disp) :=
    hasFields_opcode (opcodeOf_encMem _ _ _ _)
theorem TableWord.ldl_l (ra rb : Reg) (disp : BitVec 16) : TableWord.Statement (.ldl_l ra rb disp) :=
    hasFields_opcode (opcodeOf_encMem _ _ _ _)
theorem TableWord.ldq_l (ra rb : Reg) (disp : BitVec 16) : TableWord.Statement (.ldq_l ra rb disp) :=
    hasFields_opcode (opcodeOf_encMem _ _ _ _)
theorem TableWord.stl (ra rb : Reg) (disp : BitVec 16) : TableWord.Statement (.stl ra rb disp) :=
    hasFields_opcode (opcodeOf_encMem _ _ _ _)
theorem TableWord.stq (ra rb : Reg) (disp : BitVec 16) : TableWord.Statement (.stq ra rb disp) :=
    hasFields_opcode (opcodeOf_encMem _ _ _ _)
theorem TableWord.stl_c (ra rb : Reg) (disp : BitVec 16) : TableWord.Statement (.stl_c ra rb disp) :=
    hasFields_opcode (opcodeOf_encMem _ _ _ _)
theorem TableWord.stq_c (ra rb : Reg) (disp : BitVec 16) : TableWord.Statement (.stq_c ra rb disp) :=
    hasFields_opcode (opcodeOf_encMem _ _ _ _)
theorem TableWord.ldf (fa rb : Reg) (disp : BitVec 16) : TableWord.Statement (.ldf fa rb disp) :=
    hasFields_opcode (opcodeOf_encMem _ _ _ _)
theorem TableWord.ldg (fa rb : Reg) (disp : BitVec 16) : TableWord.Statement (.ldg fa rb disp) :=
    hasFields_opcode (opcodeOf_encMem _ _ _ _)
theorem TableWord.lds (fa rb : Reg) (disp : BitVec 16) : TableWord.Statement (.lds fa rb disp) :=
    hasFields_opcode (opcodeOf_encMem _ _ _ _)
theorem TableWord.ldt (fa rb : Reg) (disp : BitVec 16) : TableWord.Statement (.ldt fa rb disp) :=
    hasFields_opcode (opcodeOf_encMem _ _ _ _)
theorem TableWord.stf (fa rb : Reg) (disp : BitVec 16) : TableWord.Statement (.stf fa rb disp) :=
    hasFields_opcode (opcodeOf_encMem _ _ _ _)
theorem TableWord.stg (fa rb : Reg) (disp : BitVec 16) : TableWord.Statement (.stg fa rb disp) :=
    hasFields_opcode (opcodeOf_encMem _ _ _ _)
theorem TableWord.sts (fa rb : Reg) (disp : BitVec 16) : TableWord.Statement (.sts fa rb disp) :=
    hasFields_opcode (opcodeOf_encMem _ _ _ _)
theorem TableWord.stt (fa rb : Reg) (disp : BitVec 16) : TableWord.Statement (.stt fa rb disp) :=
    hasFields_opcode (opcodeOf_encMem _ _ _ _)
theorem TableWord.br (ra : Reg) (disp : BitVec 21) : TableWord.Statement (.br ra disp) :=
    hasFields_opcode (opcodeOf_encBranch _ _ _)
theorem TableWord.bsr (ra : Reg) (disp : BitVec 21) : TableWord.Statement (.bsr ra disp) :=
    hasFields_opcode (opcodeOf_encBranch _ _ _)
theorem TableWord.blbc (ra : Reg) (disp : BitVec 21) : TableWord.Statement (.blbc ra disp) :=
    hasFields_opcode (opcodeOf_encBranch _ _ _)
theorem TableWord.beq (ra : Reg) (disp : BitVec 21) : TableWord.Statement (.beq ra disp) :=
    hasFields_opcode (opcodeOf_encBranch _ _ _)
theorem TableWord.blt (ra : Reg) (disp : BitVec 21) : TableWord.Statement (.blt ra disp) :=
    hasFields_opcode (opcodeOf_encBranch _ _ _)
theorem TableWord.ble (ra : Reg) (disp : BitVec 21) : TableWord.Statement (.ble ra disp) :=
    hasFields_opcode (opcodeOf_encBranch _ _ _)
theorem TableWord.blbs (ra : Reg) (disp : BitVec 21) : TableWord.Statement (.blbs ra disp) :=
    hasFields_opcode (opcodeOf_encBranch _ _ _)
theorem TableWord.bne (ra : Reg) (disp : BitVec 21) : TableWord.Statement (.bne ra disp) :=
    hasFields_opcode (opcodeOf_encBranch _ _ _)
theorem TableWord.bge (ra : Reg) (disp : BitVec 21) : TableWord.Statement (.bge ra disp) :=
    hasFields_opcode (opcodeOf_encBranch _ _ _)
theorem TableWord.bgt (ra : Reg) (disp : BitVec 21) : TableWord.Statement (.bgt ra disp) :=
    hasFields_opcode (opcodeOf_encBranch _ _ _)
theorem TableWord.fbeq (fa : Reg) (disp : BitVec 21) : TableWord.Statement (.fbeq fa disp) :=
    hasFields_opcode (opcodeOf_encBranch _ _ _)
theorem TableWord.fblt (fa : Reg) (disp : BitVec 21) : TableWord.Statement (.fblt fa disp) :=
    hasFields_opcode (opcodeOf_encBranch _ _ _)
theorem TableWord.fble (fa : Reg) (disp : BitVec 21) : TableWord.Statement (.fble fa disp) :=
    hasFields_opcode (opcodeOf_encBranch _ _ _)
theorem TableWord.fbne (fa : Reg) (disp : BitVec 21) : TableWord.Statement (.fbne fa disp) :=
    hasFields_opcode (opcodeOf_encBranch _ _ _)
theorem TableWord.fbge (fa : Reg) (disp : BitVec 21) : TableWord.Statement (.fbge fa disp) :=
    hasFields_opcode (opcodeOf_encBranch _ _ _)
theorem TableWord.fbgt (fa : Reg) (disp : BitVec 21) : TableWord.Statement (.fbgt fa disp) :=
    hasFields_opcode (opcodeOf_encBranch _ _ _)
theorem TableWord.jmp (ra rb : Reg) (hint : BitVec 14) : TableWord.Statement (.jmp ra rb hint) :=
    hasFields_function (opcodeOf_encJump _ _ _ _) (field_14_2_encJump _ _ _ _)
theorem TableWord.jsr (ra rb : Reg) (hint : BitVec 14) : TableWord.Statement (.jsr ra rb hint) :=
    hasFields_function (opcodeOf_encJump _ _ _ _) (field_14_2_encJump _ _ _ _)
theorem TableWord.ret (ra rb : Reg) (hint : BitVec 14) : TableWord.Statement (.ret ra rb hint) :=
    hasFields_function (opcodeOf_encJump _ _ _ _) (field_14_2_encJump _ _ _ _)
theorem TableWord.jsr_coroutine (ra rb : Reg) (hint : BitVec 14) : TableWord.Statement (.jsr_coroutine ra rb hint) :=
    hasFields_function (opcodeOf_encJump _ _ _ _) (field_14_2_encJump _ _ _ _)
theorem TableWord.addl (ra : Reg) (b : Operand) (rc : Reg) : TableWord.Statement (.addl ra b rc) :=
    hasFields_function (opcodeOf_encOperate _ _ _ _ _) (field_5_7_encOperate _ _ _ _ _)
theorem TableWord.addl_v (ra : Reg) (b : Operand) (rc : Reg) : TableWord.Statement (.addl_v ra b rc) :=
    hasFields_function (opcodeOf_encOperate _ _ _ _ _) (field_5_7_encOperate _ _ _ _ _)
theorem TableWord.addq (ra : Reg) (b : Operand) (rc : Reg) : TableWord.Statement (.addq ra b rc) :=
    hasFields_function (opcodeOf_encOperate _ _ _ _ _) (field_5_7_encOperate _ _ _ _ _)
theorem TableWord.addq_v (ra : Reg) (b : Operand) (rc : Reg) : TableWord.Statement (.addq_v ra b rc) :=
    hasFields_function (opcodeOf_encOperate _ _ _ _ _) (field_5_7_encOperate _ _ _ _ _)
theorem TableWord.subl (ra : Reg) (b : Operand) (rc : Reg) : TableWord.Statement (.subl ra b rc) :=
    hasFields_function (opcodeOf_encOperate _ _ _ _ _) (field_5_7_encOperate _ _ _ _ _)
theorem TableWord.subl_v (ra : Reg) (b : Operand) (rc : Reg) : TableWord.Statement (.subl_v ra b rc) :=
    hasFields_function (opcodeOf_encOperate _ _ _ _ _) (field_5_7_encOperate _ _ _ _ _)
theorem TableWord.subq (ra : Reg) (b : Operand) (rc : Reg) : TableWord.Statement (.subq ra b rc) :=
    hasFields_function (opcodeOf_encOperate _ _ _ _ _) (field_5_7_encOperate _ _ _ _ _)
theorem TableWord.subq_v (ra : Reg) (b : Operand) (rc : Reg) : TableWord.Statement (.subq_v ra b rc) :=
    hasFields_function (opcodeOf_encOperate _ _ _ _ _) (field_5_7_encOperate _ _ _ _ _)
theorem TableWord.s4addl (ra : Reg) (b : Operand) (rc : Reg) : TableWord.Statement (.s4addl ra b rc) :=
    hasFields_function (opcodeOf_encOperate _ _ _ _ _) (field_5_7_encOperate _ _ _ _ _)
theorem TableWord.s8addl (ra : Reg) (b : Operand) (rc : Reg) : TableWord.Statement (.s8addl ra b rc) :=
    hasFields_function (opcodeOf_encOperate _ _ _ _ _) (field_5_7_encOperate _ _ _ _ _)
theorem TableWord.s4addq (ra : Reg) (b : Operand) (rc : Reg) : TableWord.Statement (.s4addq ra b rc) :=
    hasFields_function (opcodeOf_encOperate _ _ _ _ _) (field_5_7_encOperate _ _ _ _ _)
theorem TableWord.s8addq (ra : Reg) (b : Operand) (rc : Reg) : TableWord.Statement (.s8addq ra b rc) :=
    hasFields_function (opcodeOf_encOperate _ _ _ _ _) (field_5_7_encOperate _ _ _ _ _)
theorem TableWord.s4subl (ra : Reg) (b : Operand) (rc : Reg) : TableWord.Statement (.s4subl ra b rc) :=
    hasFields_function (opcodeOf_encOperate _ _ _ _ _) (field_5_7_encOperate _ _ _ _ _)
theorem TableWord.s8subl (ra : Reg) (b : Operand) (rc : Reg) : TableWord.Statement (.s8subl ra b rc) :=
    hasFields_function (opcodeOf_encOperate _ _ _ _ _) (field_5_7_encOperate _ _ _ _ _)
theorem TableWord.s4subq (ra : Reg) (b : Operand) (rc : Reg) : TableWord.Statement (.s4subq ra b rc) :=
    hasFields_function (opcodeOf_encOperate _ _ _ _ _) (field_5_7_encOperate _ _ _ _ _)
theorem TableWord.s8subq (ra : Reg) (b : Operand) (rc : Reg) : TableWord.Statement (.s8subq ra b rc) :=
    hasFields_function (opcodeOf_encOperate _ _ _ _ _) (field_5_7_encOperate _ _ _ _ _)
theorem TableWord.cmpeq (ra : Reg) (b : Operand) (rc : Reg) : TableWord.Statement (.cmpeq ra b rc) :=
    hasFields_function (opcodeOf_encOperate _ _ _ _ _) (field_5_7_encOperate _ _ _ _ _)
theorem TableWord.cmplt (ra : Reg) (b : Operand) (rc : Reg) : TableWord.Statement (.cmplt ra b rc) :=
    hasFields_function (opcodeOf_encOperate _ _ _ _ _) (field_5_7_encOperate _ _ _ _ _)
theorem TableWord.cmple (ra : Reg) (b : Operand) (rc : Reg) : TableWord.Statement (.cmple ra b rc) :=
    hasFields_function (opcodeOf_encOperate _ _ _ _ _) (field_5_7_encOperate _ _ _ _ _)
theorem TableWord.cmpult (ra : Reg) (b : Operand) (rc : Reg) : TableWord.Statement (.cmpult ra b rc) :=
    hasFields_function (opcodeOf_encOperate _ _ _ _ _) (field_5_7_encOperate _ _ _ _ _)
theorem TableWord.cmpule (ra : Reg) (b : Operand) (rc : Reg) : TableWord.Statement (.cmpule ra b rc) :=
    hasFields_function (opcodeOf_encOperate _ _ _ _ _) (field_5_7_encOperate _ _ _ _ _)
theorem TableWord.cmpbge (ra : Reg) (b : Operand) (rc : Reg) : TableWord.Statement (.cmpbge ra b rc) :=
    hasFields_function (opcodeOf_encOperate _ _ _ _ _) (field_5_7_encOperate _ _ _ _ _)
theorem TableWord.and (ra : Reg) (b : Operand) (rc : Reg) : TableWord.Statement (.and ra b rc) :=
    hasFields_function (opcodeOf_encOperate _ _ _ _ _) (field_5_7_encOperate _ _ _ _ _)
theorem TableWord.bic (ra : Reg) (b : Operand) (rc : Reg) : TableWord.Statement (.bic ra b rc) :=
    hasFields_function (opcodeOf_encOperate _ _ _ _ _) (field_5_7_encOperate _ _ _ _ _)
theorem TableWord.bis (ra : Reg) (b : Operand) (rc : Reg) : TableWord.Statement (.bis ra b rc) :=
    hasFields_function (opcodeOf_encOperate _ _ _ _ _) (field_5_7_encOperate _ _ _ _ _)
theorem TableWord.ornot (ra : Reg) (b : Operand) (rc : Reg) : TableWord.Statement (.ornot ra b rc) :=
    hasFields_function (opcodeOf_encOperate _ _ _ _ _) (field_5_7_encOperate _ _ _ _ _)
theorem TableWord.xor (ra : Reg) (b : Operand) (rc : Reg) : TableWord.Statement (.xor ra b rc) :=
    hasFields_function (opcodeOf_encOperate _ _ _ _ _) (field_5_7_encOperate _ _ _ _ _)
theorem TableWord.eqv (ra : Reg) (b : Operand) (rc : Reg) : TableWord.Statement (.eqv ra b rc) :=
    hasFields_function (opcodeOf_encOperate _ _ _ _ _) (field_5_7_encOperate _ _ _ _ _)
theorem TableWord.cmoveq (ra : Reg) (b : Operand) (rc : Reg) : TableWord.Statement (.cmoveq ra b rc) :=
    hasFields_function (opcodeOf_encOperate _ _ _ _ _) (field_5_7_encOperate _ _ _ _ _)
theorem TableWord.cmovne (ra : Reg) (b : Operand) (rc : Reg) : TableWord.Statement (.cmovne ra b rc) :=
    hasFields_function (opcodeOf_encOperate _ _ _ _ _) (field_5_7_encOperate _ _ _ _ _)
theorem TableWord.cmovlt (ra : Reg) (b : Operand) (rc : Reg) : TableWord.Statement (.cmovlt ra b rc) :=
    hasFields_function (opcodeOf_encOperate _ _ _ _ _) (field_5_7_encOperate _ _ _ _ _)
theorem TableWord.cmovle (ra : Reg) (b : Operand) (rc : Reg) : TableWord.Statement (.cmovle ra b rc) :=
    hasFields_function (opcodeOf_encOperate _ _ _ _ _) (field_5_7_encOperate _ _ _ _ _)
theorem TableWord.cmovgt (ra : Reg) (b : Operand) (rc : Reg) : TableWord.Statement (.cmovgt ra b rc) :=
    hasFields_function (opcodeOf_encOperate _ _ _ _ _) (field_5_7_encOperate _ _ _ _ _)
theorem TableWord.cmovge (ra : Reg) (b : Operand) (rc : Reg) : TableWord.Statement (.cmovge ra b rc) :=
    hasFields_function (opcodeOf_encOperate _ _ _ _ _) (field_5_7_encOperate _ _ _ _ _)
theorem TableWord.cmovlbs (ra : Reg) (b : Operand) (rc : Reg) : TableWord.Statement (.cmovlbs ra b rc) :=
    hasFields_function (opcodeOf_encOperate _ _ _ _ _) (field_5_7_encOperate _ _ _ _ _)
theorem TableWord.cmovlbc (ra : Reg) (b : Operand) (rc : Reg) : TableWord.Statement (.cmovlbc ra b rc) :=
    hasFields_function (opcodeOf_encOperate _ _ _ _ _) (field_5_7_encOperate _ _ _ _ _)
theorem TableWord.amask (b : Operand) (rc : Reg) : TableWord.Statement (.amask b rc) :=
    hasFields_function (opcodeOf_encOperate _ _ _ _ _) (field_5_7_encOperate _ _ _ _ _)
theorem TableWord.implver (rc : Reg) : TableWord.Statement (.implver rc) :=
    hasFields_function (opcodeOf_encOperate 0x11 0x6C unusedReg (.lit 1) rc)
      (field_5_7_encOperate 0x11 0x6C unusedReg (.lit 1) rc)
theorem TableWord.sll (ra : Reg) (b : Operand) (rc : Reg) : TableWord.Statement (.sll ra b rc) :=
    hasFields_function (opcodeOf_encOperate _ _ _ _ _) (field_5_7_encOperate _ _ _ _ _)
theorem TableWord.srl (ra : Reg) (b : Operand) (rc : Reg) : TableWord.Statement (.srl ra b rc) :=
    hasFields_function (opcodeOf_encOperate _ _ _ _ _) (field_5_7_encOperate _ _ _ _ _)
theorem TableWord.sra (ra : Reg) (b : Operand) (rc : Reg) : TableWord.Statement (.sra ra b rc) :=
    hasFields_function (opcodeOf_encOperate _ _ _ _ _) (field_5_7_encOperate _ _ _ _ _)
theorem TableWord.zap (ra : Reg) (b : Operand) (rc : Reg) : TableWord.Statement (.zap ra b rc) :=
    hasFields_function (opcodeOf_encOperate _ _ _ _ _) (field_5_7_encOperate _ _ _ _ _)
theorem TableWord.zapnot (ra : Reg) (b : Operand) (rc : Reg) : TableWord.Statement (.zapnot ra b rc) :=
    hasFields_function (opcodeOf_encOperate _ _ _ _ _) (field_5_7_encOperate _ _ _ _ _)
theorem TableWord.extbl (ra : Reg) (b : Operand) (rc : Reg) : TableWord.Statement (.extbl ra b rc) :=
    hasFields_function (opcodeOf_encOperate _ _ _ _ _) (field_5_7_encOperate _ _ _ _ _)
theorem TableWord.extwl (ra : Reg) (b : Operand) (rc : Reg) : TableWord.Statement (.extwl ra b rc) :=
    hasFields_function (opcodeOf_encOperate _ _ _ _ _) (field_5_7_encOperate _ _ _ _ _)
theorem TableWord.extll (ra : Reg) (b : Operand) (rc : Reg) : TableWord.Statement (.extll ra b rc) :=
    hasFields_function (opcodeOf_encOperate _ _ _ _ _) (field_5_7_encOperate _ _ _ _ _)
theorem TableWord.extql (ra : Reg) (b : Operand) (rc : Reg) : TableWord.Statement (.extql ra b rc) :=
    hasFields_function (opcodeOf_encOperate _ _ _ _ _) (field_5_7_encOperate _ _ _ _ _)
theorem TableWord.extwh (ra : Reg) (b : Operand) (rc : Reg) : TableWord.Statement (.extwh ra b rc) :=
    hasFields_function (opcodeOf_encOperate _ _ _ _ _) (field_5_7_encOperate _ _ _ _ _)
theorem TableWord.extlh (ra : Reg) (b : Operand) (rc : Reg) : TableWord.Statement (.extlh ra b rc) :=
    hasFields_function (opcodeOf_encOperate _ _ _ _ _) (field_5_7_encOperate _ _ _ _ _)
theorem TableWord.extqh (ra : Reg) (b : Operand) (rc : Reg) : TableWord.Statement (.extqh ra b rc) :=
    hasFields_function (opcodeOf_encOperate _ _ _ _ _) (field_5_7_encOperate _ _ _ _ _)
theorem TableWord.insbl (ra : Reg) (b : Operand) (rc : Reg) : TableWord.Statement (.insbl ra b rc) :=
    hasFields_function (opcodeOf_encOperate _ _ _ _ _) (field_5_7_encOperate _ _ _ _ _)
theorem TableWord.inswl (ra : Reg) (b : Operand) (rc : Reg) : TableWord.Statement (.inswl ra b rc) :=
    hasFields_function (opcodeOf_encOperate _ _ _ _ _) (field_5_7_encOperate _ _ _ _ _)
theorem TableWord.insll (ra : Reg) (b : Operand) (rc : Reg) : TableWord.Statement (.insll ra b rc) :=
    hasFields_function (opcodeOf_encOperate _ _ _ _ _) (field_5_7_encOperate _ _ _ _ _)
theorem TableWord.insql (ra : Reg) (b : Operand) (rc : Reg) : TableWord.Statement (.insql ra b rc) :=
    hasFields_function (opcodeOf_encOperate _ _ _ _ _) (field_5_7_encOperate _ _ _ _ _)
theorem TableWord.inswh (ra : Reg) (b : Operand) (rc : Reg) : TableWord.Statement (.inswh ra b rc) :=
    hasFields_function (opcodeOf_encOperate _ _ _ _ _) (field_5_7_encOperate _ _ _ _ _)
theorem TableWord.inslh (ra : Reg) (b : Operand) (rc : Reg) : TableWord.Statement (.inslh ra b rc) :=
    hasFields_function (opcodeOf_encOperate _ _ _ _ _) (field_5_7_encOperate _ _ _ _ _)
theorem TableWord.insqh (ra : Reg) (b : Operand) (rc : Reg) : TableWord.Statement (.insqh ra b rc) :=
    hasFields_function (opcodeOf_encOperate _ _ _ _ _) (field_5_7_encOperate _ _ _ _ _)
theorem TableWord.mskbl (ra : Reg) (b : Operand) (rc : Reg) : TableWord.Statement (.mskbl ra b rc) :=
    hasFields_function (opcodeOf_encOperate _ _ _ _ _) (field_5_7_encOperate _ _ _ _ _)
theorem TableWord.mskwl (ra : Reg) (b : Operand) (rc : Reg) : TableWord.Statement (.mskwl ra b rc) :=
    hasFields_function (opcodeOf_encOperate _ _ _ _ _) (field_5_7_encOperate _ _ _ _ _)
theorem TableWord.mskll (ra : Reg) (b : Operand) (rc : Reg) : TableWord.Statement (.mskll ra b rc) :=
    hasFields_function (opcodeOf_encOperate _ _ _ _ _) (field_5_7_encOperate _ _ _ _ _)
theorem TableWord.mskql (ra : Reg) (b : Operand) (rc : Reg) : TableWord.Statement (.mskql ra b rc) :=
    hasFields_function (opcodeOf_encOperate _ _ _ _ _) (field_5_7_encOperate _ _ _ _ _)
theorem TableWord.mskwh (ra : Reg) (b : Operand) (rc : Reg) : TableWord.Statement (.mskwh ra b rc) :=
    hasFields_function (opcodeOf_encOperate _ _ _ _ _) (field_5_7_encOperate _ _ _ _ _)
theorem TableWord.msklh (ra : Reg) (b : Operand) (rc : Reg) : TableWord.Statement (.msklh ra b rc) :=
    hasFields_function (opcodeOf_encOperate _ _ _ _ _) (field_5_7_encOperate _ _ _ _ _)
theorem TableWord.mskqh (ra : Reg) (b : Operand) (rc : Reg) : TableWord.Statement (.mskqh ra b rc) :=
    hasFields_function (opcodeOf_encOperate _ _ _ _ _) (field_5_7_encOperate _ _ _ _ _)
theorem TableWord.mull (ra : Reg) (b : Operand) (rc : Reg) : TableWord.Statement (.mull ra b rc) :=
    hasFields_function (opcodeOf_encOperate _ _ _ _ _) (field_5_7_encOperate _ _ _ _ _)
theorem TableWord.mull_v (ra : Reg) (b : Operand) (rc : Reg) : TableWord.Statement (.mull_v ra b rc) :=
    hasFields_function (opcodeOf_encOperate _ _ _ _ _) (field_5_7_encOperate _ _ _ _ _)
theorem TableWord.mulq (ra : Reg) (b : Operand) (rc : Reg) : TableWord.Statement (.mulq ra b rc) :=
    hasFields_function (opcodeOf_encOperate _ _ _ _ _) (field_5_7_encOperate _ _ _ _ _)
theorem TableWord.mulq_v (ra : Reg) (b : Operand) (rc : Reg) : TableWord.Statement (.mulq_v ra b rc) :=
    hasFields_function (opcodeOf_encOperate _ _ _ _ _) (field_5_7_encOperate _ _ _ _ _)
theorem TableWord.umulh (ra : Reg) (b : Operand) (rc : Reg) : TableWord.Statement (.umulh ra b rc) :=
    hasFields_function (opcodeOf_encOperate _ _ _ _ _) (field_5_7_encOperate _ _ _ _ _)
theorem TableWord.sextb (b : Operand) (rc : Reg) : TableWord.Statement (.sextb b rc) :=
    hasFields_function (opcodeOf_encOperate _ _ _ _ _) (field_5_7_encOperate _ _ _ _ _)
theorem TableWord.sextw (b : Operand) (rc : Reg) : TableWord.Statement (.sextw b rc) :=
    hasFields_function (opcodeOf_encOperate _ _ _ _ _) (field_5_7_encOperate _ _ _ _ _)
theorem TableWord.cvtlq (fb fc : Reg) : TableWord.Statement (.cvtlq fb fc) :=
    hasFields_function (opcodeOf_encFloat _ _ _ _ _) (field_5_11_encFloat _ _ _ _ _)
theorem TableWord.cpys (fa fb fc : Reg) : TableWord.Statement (.cpys fa fb fc) :=
    hasFields_function (opcodeOf_encFloat _ _ _ _ _) (field_5_11_encFloat _ _ _ _ _)
theorem TableWord.cpysn (fa fb fc : Reg) : TableWord.Statement (.cpysn fa fb fc) :=
    hasFields_function (opcodeOf_encFloat _ _ _ _ _) (field_5_11_encFloat _ _ _ _ _)
theorem TableWord.cpyse (fa fb fc : Reg) : TableWord.Statement (.cpyse fa fb fc) :=
    hasFields_function (opcodeOf_encFloat _ _ _ _ _) (field_5_11_encFloat _ _ _ _ _)
theorem TableWord.mt_fpcr (fa fb fc : Reg) : TableWord.Statement (.mt_fpcr fa fb fc) :=
    hasFields_function (opcodeOf_encFloat _ _ _ _ _) (field_5_11_encFloat _ _ _ _ _)
theorem TableWord.mf_fpcr (fa fb fc : Reg) : TableWord.Statement (.mf_fpcr fa fb fc) :=
    hasFields_function (opcodeOf_encFloat _ _ _ _ _) (field_5_11_encFloat _ _ _ _ _)
theorem TableWord.fcmoveq (fa fb fc : Reg) : TableWord.Statement (.fcmoveq fa fb fc) :=
    hasFields_function (opcodeOf_encFloat _ _ _ _ _) (field_5_11_encFloat _ _ _ _ _)
theorem TableWord.fcmovne (fa fb fc : Reg) : TableWord.Statement (.fcmovne fa fb fc) :=
    hasFields_function (opcodeOf_encFloat _ _ _ _ _) (field_5_11_encFloat _ _ _ _ _)
theorem TableWord.fcmovlt (fa fb fc : Reg) : TableWord.Statement (.fcmovlt fa fb fc) :=
    hasFields_function (opcodeOf_encFloat _ _ _ _ _) (field_5_11_encFloat _ _ _ _ _)
theorem TableWord.fcmovge (fa fb fc : Reg) : TableWord.Statement (.fcmovge fa fb fc) :=
    hasFields_function (opcodeOf_encFloat _ _ _ _ _) (field_5_11_encFloat _ _ _ _ _)
theorem TableWord.fcmovle (fa fb fc : Reg) : TableWord.Statement (.fcmovle fa fb fc) :=
    hasFields_function (opcodeOf_encFloat _ _ _ _ _) (field_5_11_encFloat _ _ _ _ _)
theorem TableWord.fcmovgt (fa fb fc : Reg) : TableWord.Statement (.fcmovgt fa fb fc) :=
    hasFields_function (opcodeOf_encFloat _ _ _ _ _) (field_5_11_encFloat _ _ _ _ _)
theorem TableWord.cvtql (fb fc : Reg) : TableWord.Statement (.cvtql fb fc) :=
    hasFields_function (opcodeOf_encFloat _ _ _ _ _) (field_5_11_encFloat _ _ _ _ _)
theorem TableWord.cvtql_v (fb fc : Reg) : TableWord.Statement (.cvtql_v fb fc) :=
    hasFields_function (opcodeOf_encFloat _ _ _ _ _) (field_5_11_encFloat _ _ _ _ _)
theorem TableWord.cvtql_sv (fb fc : Reg) : TableWord.Statement (.cvtql_sv fb fc) :=
    hasFields_function (opcodeOf_encFloat _ _ _ _ _) (field_5_11_encFloat _ _ _ _ _)
theorem TableWord.adds (fa fb fc : Reg) : TableWord.Statement (.adds fa fb fc) :=
    hasFields_function (opcodeOf_encFloat _ _ _ _ _) (field_5_11_encFloat _ _ _ _ _)
theorem TableWord.adds_c (fa fb fc : Reg) : TableWord.Statement (.adds_c fa fb fc) :=
    hasFields_function (opcodeOf_encFloat _ _ _ _ _) (field_5_11_encFloat _ _ _ _ _)
theorem TableWord.adds_m (fa fb fc : Reg) : TableWord.Statement (.adds_m fa fb fc) :=
    hasFields_function (opcodeOf_encFloat _ _ _ _ _) (field_5_11_encFloat _ _ _ _ _)
theorem TableWord.adds_d (fa fb fc : Reg) : TableWord.Statement (.adds_d fa fb fc) :=
    hasFields_function (opcodeOf_encFloat _ _ _ _ _) (field_5_11_encFloat _ _ _ _ _)
theorem TableWord.adds_u (fa fb fc : Reg) : TableWord.Statement (.adds_u fa fb fc) :=
    hasFields_function (opcodeOf_encFloat _ _ _ _ _) (field_5_11_encFloat _ _ _ _ _)
theorem TableWord.adds_uc (fa fb fc : Reg) : TableWord.Statement (.adds_uc fa fb fc) :=
    hasFields_function (opcodeOf_encFloat _ _ _ _ _) (field_5_11_encFloat _ _ _ _ _)
theorem TableWord.adds_um (fa fb fc : Reg) : TableWord.Statement (.adds_um fa fb fc) :=
    hasFields_function (opcodeOf_encFloat _ _ _ _ _) (field_5_11_encFloat _ _ _ _ _)
theorem TableWord.adds_ud (fa fb fc : Reg) : TableWord.Statement (.adds_ud fa fb fc) :=
    hasFields_function (opcodeOf_encFloat _ _ _ _ _) (field_5_11_encFloat _ _ _ _ _)
theorem TableWord.adds_su (fa fb fc : Reg) : TableWord.Statement (.adds_su fa fb fc) :=
    hasFields_function (opcodeOf_encFloat _ _ _ _ _) (field_5_11_encFloat _ _ _ _ _)
theorem TableWord.adds_suc (fa fb fc : Reg) : TableWord.Statement (.adds_suc fa fb fc) :=
    hasFields_function (opcodeOf_encFloat _ _ _ _ _) (field_5_11_encFloat _ _ _ _ _)
theorem TableWord.adds_sum (fa fb fc : Reg) : TableWord.Statement (.adds_sum fa fb fc) :=
    hasFields_function (opcodeOf_encFloat _ _ _ _ _) (field_5_11_encFloat _ _ _ _ _)
theorem TableWord.adds_sud (fa fb fc : Reg) : TableWord.Statement (.adds_sud fa fb fc) :=
    hasFields_function (opcodeOf_encFloat _ _ _ _ _) (field_5_11_encFloat _ _ _ _ _)
theorem TableWord.adds_sui (fa fb fc : Reg) : TableWord.Statement (.adds_sui fa fb fc) :=
    hasFields_function (opcodeOf_encFloat _ _ _ _ _) (field_5_11_encFloat _ _ _ _ _)
theorem TableWord.adds_suic (fa fb fc : Reg) : TableWord.Statement (.adds_suic fa fb fc) :=
    hasFields_function (opcodeOf_encFloat _ _ _ _ _) (field_5_11_encFloat _ _ _ _ _)
theorem TableWord.adds_suim (fa fb fc : Reg) : TableWord.Statement (.adds_suim fa fb fc) :=
    hasFields_function (opcodeOf_encFloat _ _ _ _ _) (field_5_11_encFloat _ _ _ _ _)
theorem TableWord.adds_suid (fa fb fc : Reg) : TableWord.Statement (.adds_suid fa fb fc) :=
    hasFields_function (opcodeOf_encFloat _ _ _ _ _) (field_5_11_encFloat _ _ _ _ _)
theorem TableWord.addt (fa fb fc : Reg) : TableWord.Statement (.addt fa fb fc) :=
    hasFields_function (opcodeOf_encFloat _ _ _ _ _) (field_5_11_encFloat _ _ _ _ _)
theorem TableWord.addt_c (fa fb fc : Reg) : TableWord.Statement (.addt_c fa fb fc) :=
    hasFields_function (opcodeOf_encFloat _ _ _ _ _) (field_5_11_encFloat _ _ _ _ _)
theorem TableWord.addt_m (fa fb fc : Reg) : TableWord.Statement (.addt_m fa fb fc) :=
    hasFields_function (opcodeOf_encFloat _ _ _ _ _) (field_5_11_encFloat _ _ _ _ _)
theorem TableWord.addt_d (fa fb fc : Reg) : TableWord.Statement (.addt_d fa fb fc) :=
    hasFields_function (opcodeOf_encFloat _ _ _ _ _) (field_5_11_encFloat _ _ _ _ _)
theorem TableWord.addt_u (fa fb fc : Reg) : TableWord.Statement (.addt_u fa fb fc) :=
    hasFields_function (opcodeOf_encFloat _ _ _ _ _) (field_5_11_encFloat _ _ _ _ _)
theorem TableWord.addt_uc (fa fb fc : Reg) : TableWord.Statement (.addt_uc fa fb fc) :=
    hasFields_function (opcodeOf_encFloat _ _ _ _ _) (field_5_11_encFloat _ _ _ _ _)
theorem TableWord.addt_um (fa fb fc : Reg) : TableWord.Statement (.addt_um fa fb fc) :=
    hasFields_function (opcodeOf_encFloat _ _ _ _ _) (field_5_11_encFloat _ _ _ _ _)
theorem TableWord.addt_ud (fa fb fc : Reg) : TableWord.Statement (.addt_ud fa fb fc) :=
    hasFields_function (opcodeOf_encFloat _ _ _ _ _) (field_5_11_encFloat _ _ _ _ _)
theorem TableWord.addt_su (fa fb fc : Reg) : TableWord.Statement (.addt_su fa fb fc) :=
    hasFields_function (opcodeOf_encFloat _ _ _ _ _) (field_5_11_encFloat _ _ _ _ _)
theorem TableWord.addt_suc (fa fb fc : Reg) : TableWord.Statement (.addt_suc fa fb fc) :=
    hasFields_function (opcodeOf_encFloat _ _ _ _ _) (field_5_11_encFloat _ _ _ _ _)
theorem TableWord.addt_sum (fa fb fc : Reg) : TableWord.Statement (.addt_sum fa fb fc) :=
    hasFields_function (opcodeOf_encFloat _ _ _ _ _) (field_5_11_encFloat _ _ _ _ _)
theorem TableWord.addt_sud (fa fb fc : Reg) : TableWord.Statement (.addt_sud fa fb fc) :=
    hasFields_function (opcodeOf_encFloat _ _ _ _ _) (field_5_11_encFloat _ _ _ _ _)
theorem TableWord.addt_sui (fa fb fc : Reg) : TableWord.Statement (.addt_sui fa fb fc) :=
    hasFields_function (opcodeOf_encFloat _ _ _ _ _) (field_5_11_encFloat _ _ _ _ _)
theorem TableWord.addt_suic (fa fb fc : Reg) : TableWord.Statement (.addt_suic fa fb fc) :=
    hasFields_function (opcodeOf_encFloat _ _ _ _ _) (field_5_11_encFloat _ _ _ _ _)
theorem TableWord.addt_suim (fa fb fc : Reg) : TableWord.Statement (.addt_suim fa fb fc) :=
    hasFields_function (opcodeOf_encFloat _ _ _ _ _) (field_5_11_encFloat _ _ _ _ _)
theorem TableWord.addt_suid (fa fb fc : Reg) : TableWord.Statement (.addt_suid fa fb fc) :=
    hasFields_function (opcodeOf_encFloat _ _ _ _ _) (field_5_11_encFloat _ _ _ _ _)
theorem TableWord.subs (fa fb fc : Reg) : TableWord.Statement (.subs fa fb fc) :=
    hasFields_function (opcodeOf_encFloat _ _ _ _ _) (field_5_11_encFloat _ _ _ _ _)
theorem TableWord.subs_c (fa fb fc : Reg) : TableWord.Statement (.subs_c fa fb fc) :=
    hasFields_function (opcodeOf_encFloat _ _ _ _ _) (field_5_11_encFloat _ _ _ _ _)
theorem TableWord.subs_m (fa fb fc : Reg) : TableWord.Statement (.subs_m fa fb fc) :=
    hasFields_function (opcodeOf_encFloat _ _ _ _ _) (field_5_11_encFloat _ _ _ _ _)
theorem TableWord.subs_d (fa fb fc : Reg) : TableWord.Statement (.subs_d fa fb fc) :=
    hasFields_function (opcodeOf_encFloat _ _ _ _ _) (field_5_11_encFloat _ _ _ _ _)
theorem TableWord.subs_u (fa fb fc : Reg) : TableWord.Statement (.subs_u fa fb fc) :=
    hasFields_function (opcodeOf_encFloat _ _ _ _ _) (field_5_11_encFloat _ _ _ _ _)
theorem TableWord.subs_uc (fa fb fc : Reg) : TableWord.Statement (.subs_uc fa fb fc) :=
    hasFields_function (opcodeOf_encFloat _ _ _ _ _) (field_5_11_encFloat _ _ _ _ _)
theorem TableWord.subs_um (fa fb fc : Reg) : TableWord.Statement (.subs_um fa fb fc) :=
    hasFields_function (opcodeOf_encFloat _ _ _ _ _) (field_5_11_encFloat _ _ _ _ _)
theorem TableWord.subs_ud (fa fb fc : Reg) : TableWord.Statement (.subs_ud fa fb fc) :=
    hasFields_function (opcodeOf_encFloat _ _ _ _ _) (field_5_11_encFloat _ _ _ _ _)
theorem TableWord.subs_su (fa fb fc : Reg) : TableWord.Statement (.subs_su fa fb fc) :=
    hasFields_function (opcodeOf_encFloat _ _ _ _ _) (field_5_11_encFloat _ _ _ _ _)
theorem TableWord.subs_suc (fa fb fc : Reg) : TableWord.Statement (.subs_suc fa fb fc) :=
    hasFields_function (opcodeOf_encFloat _ _ _ _ _) (field_5_11_encFloat _ _ _ _ _)
theorem TableWord.subs_sum (fa fb fc : Reg) : TableWord.Statement (.subs_sum fa fb fc) :=
    hasFields_function (opcodeOf_encFloat _ _ _ _ _) (field_5_11_encFloat _ _ _ _ _)
theorem TableWord.subs_sud (fa fb fc : Reg) : TableWord.Statement (.subs_sud fa fb fc) :=
    hasFields_function (opcodeOf_encFloat _ _ _ _ _) (field_5_11_encFloat _ _ _ _ _)
theorem TableWord.subs_sui (fa fb fc : Reg) : TableWord.Statement (.subs_sui fa fb fc) :=
    hasFields_function (opcodeOf_encFloat _ _ _ _ _) (field_5_11_encFloat _ _ _ _ _)
theorem TableWord.subs_suic (fa fb fc : Reg) : TableWord.Statement (.subs_suic fa fb fc) :=
    hasFields_function (opcodeOf_encFloat _ _ _ _ _) (field_5_11_encFloat _ _ _ _ _)
theorem TableWord.subs_suim (fa fb fc : Reg) : TableWord.Statement (.subs_suim fa fb fc) :=
    hasFields_function (opcodeOf_encFloat _ _ _ _ _) (field_5_11_encFloat _ _ _ _ _)
theorem TableWord.subs_suid (fa fb fc : Reg) : TableWord.Statement (.subs_suid fa fb fc) :=
    hasFields_function (opcodeOf_encFloat _ _ _ _ _) (field_5_11_encFloat _ _ _ _ _)
theorem TableWord.subt (fa fb fc : Reg) : TableWord.Statement (.subt fa fb fc) :=
    hasFields_function (opcodeOf_encFloat _ _ _ _ _) (field_5_11_encFloat _ _ _ _ _)
theorem TableWord.subt_c (fa fb fc : Reg) : TableWord.Statement (.subt_c fa fb fc) :=
    hasFields_function (opcodeOf_encFloat _ _ _ _ _) (field_5_11_encFloat _ _ _ _ _)
theorem TableWord.subt_m (fa fb fc : Reg) : TableWord.Statement (.subt_m fa fb fc) :=
    hasFields_function (opcodeOf_encFloat _ _ _ _ _) (field_5_11_encFloat _ _ _ _ _)
theorem TableWord.subt_d (fa fb fc : Reg) : TableWord.Statement (.subt_d fa fb fc) :=
    hasFields_function (opcodeOf_encFloat _ _ _ _ _) (field_5_11_encFloat _ _ _ _ _)
theorem TableWord.subt_u (fa fb fc : Reg) : TableWord.Statement (.subt_u fa fb fc) :=
    hasFields_function (opcodeOf_encFloat _ _ _ _ _) (field_5_11_encFloat _ _ _ _ _)
theorem TableWord.subt_uc (fa fb fc : Reg) : TableWord.Statement (.subt_uc fa fb fc) :=
    hasFields_function (opcodeOf_encFloat _ _ _ _ _) (field_5_11_encFloat _ _ _ _ _)
theorem TableWord.subt_um (fa fb fc : Reg) : TableWord.Statement (.subt_um fa fb fc) :=
    hasFields_function (opcodeOf_encFloat _ _ _ _ _) (field_5_11_encFloat _ _ _ _ _)
theorem TableWord.subt_ud (fa fb fc : Reg) : TableWord.Statement (.subt_ud fa fb fc) :=
    hasFields_function (opcodeOf_encFloat _ _ _ _ _) (field_5_11_encFloat _ _ _ _ _)
theorem TableWord.subt_su (fa fb fc : Reg) : TableWord.Statement (.subt_su fa fb fc) :=
    hasFields_function (opcodeOf_encFloat _ _ _ _ _) (field_5_11_encFloat _ _ _ _ _)
theorem TableWord.subt_suc (fa fb fc : Reg) : TableWord.Statement (.subt_suc fa fb fc) :=
    hasFields_function (opcodeOf_encFloat _ _ _ _ _) (field_5_11_encFloat _ _ _ _ _)
theorem TableWord.subt_sum (fa fb fc : Reg) : TableWord.Statement (.subt_sum fa fb fc) :=
    hasFields_function (opcodeOf_encFloat _ _ _ _ _) (field_5_11_encFloat _ _ _ _ _)
theorem TableWord.subt_sud (fa fb fc : Reg) : TableWord.Statement (.subt_sud fa fb fc) :=
    hasFields_function (opcodeOf_encFloat _ _ _ _ _) (field_5_11_encFloat _ _ _ _ _)
theorem TableWord.subt_sui (fa fb fc : Reg) : TableWord.Statement (.subt_sui fa fb fc) :=
    hasFields_function (opcodeOf_encFloat _ _ _ _ _) (field_5_11_encFloat _ _ _ _ _)
theorem TableWord.subt_suic (fa fb fc : Reg) : TableWord.Statement (.subt_suic fa fb fc) :=
    hasFields_function (opcodeOf_encFloat _ _ _ _ _) (field_5_11_encFloat _ _ _ _ _)
theorem TableWord.subt_suim (fa fb fc : Reg) : TableWord.Statement (.subt_suim fa fb fc) :=
    hasFields_function (opcodeOf_encFloat _ _ _ _ _) (field_5_11_encFloat _ _ _ _ _)
theorem TableWord.subt_suid (fa fb fc : Reg) : TableWord.Statement (.subt_suid fa fb fc) :=
    hasFields_function (opcodeOf_encFloat _ _ _ _ _) (field_5_11_encFloat _ _ _ _ _)
theorem TableWord.muls (fa fb fc : Reg) : TableWord.Statement (.muls fa fb fc) :=
    hasFields_function (opcodeOf_encFloat _ _ _ _ _) (field_5_11_encFloat _ _ _ _ _)
theorem TableWord.muls_c (fa fb fc : Reg) : TableWord.Statement (.muls_c fa fb fc) :=
    hasFields_function (opcodeOf_encFloat _ _ _ _ _) (field_5_11_encFloat _ _ _ _ _)
theorem TableWord.muls_m (fa fb fc : Reg) : TableWord.Statement (.muls_m fa fb fc) :=
    hasFields_function (opcodeOf_encFloat _ _ _ _ _) (field_5_11_encFloat _ _ _ _ _)
theorem TableWord.muls_d (fa fb fc : Reg) : TableWord.Statement (.muls_d fa fb fc) :=
    hasFields_function (opcodeOf_encFloat _ _ _ _ _) (field_5_11_encFloat _ _ _ _ _)
theorem TableWord.muls_u (fa fb fc : Reg) : TableWord.Statement (.muls_u fa fb fc) :=
    hasFields_function (opcodeOf_encFloat _ _ _ _ _) (field_5_11_encFloat _ _ _ _ _)
theorem TableWord.muls_uc (fa fb fc : Reg) : TableWord.Statement (.muls_uc fa fb fc) :=
    hasFields_function (opcodeOf_encFloat _ _ _ _ _) (field_5_11_encFloat _ _ _ _ _)
theorem TableWord.muls_um (fa fb fc : Reg) : TableWord.Statement (.muls_um fa fb fc) :=
    hasFields_function (opcodeOf_encFloat _ _ _ _ _) (field_5_11_encFloat _ _ _ _ _)
theorem TableWord.muls_ud (fa fb fc : Reg) : TableWord.Statement (.muls_ud fa fb fc) :=
    hasFields_function (opcodeOf_encFloat _ _ _ _ _) (field_5_11_encFloat _ _ _ _ _)
theorem TableWord.muls_su (fa fb fc : Reg) : TableWord.Statement (.muls_su fa fb fc) :=
    hasFields_function (opcodeOf_encFloat _ _ _ _ _) (field_5_11_encFloat _ _ _ _ _)
theorem TableWord.muls_suc (fa fb fc : Reg) : TableWord.Statement (.muls_suc fa fb fc) :=
    hasFields_function (opcodeOf_encFloat _ _ _ _ _) (field_5_11_encFloat _ _ _ _ _)
theorem TableWord.muls_sum (fa fb fc : Reg) : TableWord.Statement (.muls_sum fa fb fc) :=
    hasFields_function (opcodeOf_encFloat _ _ _ _ _) (field_5_11_encFloat _ _ _ _ _)
theorem TableWord.muls_sud (fa fb fc : Reg) : TableWord.Statement (.muls_sud fa fb fc) :=
    hasFields_function (opcodeOf_encFloat _ _ _ _ _) (field_5_11_encFloat _ _ _ _ _)
theorem TableWord.muls_sui (fa fb fc : Reg) : TableWord.Statement (.muls_sui fa fb fc) :=
    hasFields_function (opcodeOf_encFloat _ _ _ _ _) (field_5_11_encFloat _ _ _ _ _)
theorem TableWord.muls_suic (fa fb fc : Reg) : TableWord.Statement (.muls_suic fa fb fc) :=
    hasFields_function (opcodeOf_encFloat _ _ _ _ _) (field_5_11_encFloat _ _ _ _ _)
theorem TableWord.muls_suim (fa fb fc : Reg) : TableWord.Statement (.muls_suim fa fb fc) :=
    hasFields_function (opcodeOf_encFloat _ _ _ _ _) (field_5_11_encFloat _ _ _ _ _)
theorem TableWord.muls_suid (fa fb fc : Reg) : TableWord.Statement (.muls_suid fa fb fc) :=
    hasFields_function (opcodeOf_encFloat _ _ _ _ _) (field_5_11_encFloat _ _ _ _ _)
theorem TableWord.mult (fa fb fc : Reg) : TableWord.Statement (.mult fa fb fc) :=
    hasFields_function (opcodeOf_encFloat _ _ _ _ _) (field_5_11_encFloat _ _ _ _ _)
theorem TableWord.mult_c (fa fb fc : Reg) : TableWord.Statement (.mult_c fa fb fc) :=
    hasFields_function (opcodeOf_encFloat _ _ _ _ _) (field_5_11_encFloat _ _ _ _ _)
theorem TableWord.mult_m (fa fb fc : Reg) : TableWord.Statement (.mult_m fa fb fc) :=
    hasFields_function (opcodeOf_encFloat _ _ _ _ _) (field_5_11_encFloat _ _ _ _ _)
theorem TableWord.mult_d (fa fb fc : Reg) : TableWord.Statement (.mult_d fa fb fc) :=
    hasFields_function (opcodeOf_encFloat _ _ _ _ _) (field_5_11_encFloat _ _ _ _ _)
theorem TableWord.mult_u (fa fb fc : Reg) : TableWord.Statement (.mult_u fa fb fc) :=
    hasFields_function (opcodeOf_encFloat _ _ _ _ _) (field_5_11_encFloat _ _ _ _ _)
theorem TableWord.mult_uc (fa fb fc : Reg) : TableWord.Statement (.mult_uc fa fb fc) :=
    hasFields_function (opcodeOf_encFloat _ _ _ _ _) (field_5_11_encFloat _ _ _ _ _)
theorem TableWord.mult_um (fa fb fc : Reg) : TableWord.Statement (.mult_um fa fb fc) :=
    hasFields_function (opcodeOf_encFloat _ _ _ _ _) (field_5_11_encFloat _ _ _ _ _)
theorem TableWord.mult_ud (fa fb fc : Reg) : TableWord.Statement (.mult_ud fa fb fc) :=
    hasFields_function (opcodeOf_encFloat _ _ _ _ _) (field_5_11_encFloat _ _ _ _ _)
theorem TableWord.mult_su (fa fb fc : Reg) : TableWord.Statement (.mult_su fa fb fc) :=
    hasFields_function (opcodeOf_encFloat _ _ _ _ _) (field_5_11_encFloat _ _ _ _ _)
theorem TableWord.mult_suc (fa fb fc : Reg) : TableWord.Statement (.mult_suc fa fb fc) :=
    hasFields_function (opcodeOf_encFloat _ _ _ _ _) (field_5_11_encFloat _ _ _ _ _)
theorem TableWord.mult_sum (fa fb fc : Reg) : TableWord.Statement (.mult_sum fa fb fc) :=
    hasFields_function (opcodeOf_encFloat _ _ _ _ _) (field_5_11_encFloat _ _ _ _ _)
theorem TableWord.mult_sud (fa fb fc : Reg) : TableWord.Statement (.mult_sud fa fb fc) :=
    hasFields_function (opcodeOf_encFloat _ _ _ _ _) (field_5_11_encFloat _ _ _ _ _)
theorem TableWord.mult_sui (fa fb fc : Reg) : TableWord.Statement (.mult_sui fa fb fc) :=
    hasFields_function (opcodeOf_encFloat _ _ _ _ _) (field_5_11_encFloat _ _ _ _ _)
theorem TableWord.mult_suic (fa fb fc : Reg) : TableWord.Statement (.mult_suic fa fb fc) :=
    hasFields_function (opcodeOf_encFloat _ _ _ _ _) (field_5_11_encFloat _ _ _ _ _)
theorem TableWord.mult_suim (fa fb fc : Reg) : TableWord.Statement (.mult_suim fa fb fc) :=
    hasFields_function (opcodeOf_encFloat _ _ _ _ _) (field_5_11_encFloat _ _ _ _ _)
theorem TableWord.mult_suid (fa fb fc : Reg) : TableWord.Statement (.mult_suid fa fb fc) :=
    hasFields_function (opcodeOf_encFloat _ _ _ _ _) (field_5_11_encFloat _ _ _ _ _)
theorem TableWord.divs (fa fb fc : Reg) : TableWord.Statement (.divs fa fb fc) :=
    hasFields_function (opcodeOf_encFloat _ _ _ _ _) (field_5_11_encFloat _ _ _ _ _)
theorem TableWord.divs_c (fa fb fc : Reg) : TableWord.Statement (.divs_c fa fb fc) :=
    hasFields_function (opcodeOf_encFloat _ _ _ _ _) (field_5_11_encFloat _ _ _ _ _)
theorem TableWord.divs_m (fa fb fc : Reg) : TableWord.Statement (.divs_m fa fb fc) :=
    hasFields_function (opcodeOf_encFloat _ _ _ _ _) (field_5_11_encFloat _ _ _ _ _)
theorem TableWord.divs_d (fa fb fc : Reg) : TableWord.Statement (.divs_d fa fb fc) :=
    hasFields_function (opcodeOf_encFloat _ _ _ _ _) (field_5_11_encFloat _ _ _ _ _)
theorem TableWord.divs_u (fa fb fc : Reg) : TableWord.Statement (.divs_u fa fb fc) :=
    hasFields_function (opcodeOf_encFloat _ _ _ _ _) (field_5_11_encFloat _ _ _ _ _)
theorem TableWord.divs_uc (fa fb fc : Reg) : TableWord.Statement (.divs_uc fa fb fc) :=
    hasFields_function (opcodeOf_encFloat _ _ _ _ _) (field_5_11_encFloat _ _ _ _ _)
theorem TableWord.divs_um (fa fb fc : Reg) : TableWord.Statement (.divs_um fa fb fc) :=
    hasFields_function (opcodeOf_encFloat _ _ _ _ _) (field_5_11_encFloat _ _ _ _ _)
theorem TableWord.divs_ud (fa fb fc : Reg) : TableWord.Statement (.divs_ud fa fb fc) :=
    hasFields_function (opcodeOf_encFloat _ _ _ _ _) (field_5_11_encFloat _ _ _ _ _)
theorem TableWord.divs_su (fa fb fc : Reg) : TableWord.Statement (.divs_su fa fb fc) :=
    hasFields_function (opcodeOf_encFloat _ _ _ _ _) (field_5_11_encFloat _ _ _ _ _)
theorem TableWord.divs_suc (fa fb fc : Reg) : TableWord.Statement (.divs_suc fa fb fc) :=
    hasFields_function (opcodeOf_encFloat _ _ _ _ _) (field_5_11_encFloat _ _ _ _ _)
theorem TableWord.divs_sum (fa fb fc : Reg) : TableWord.Statement (.divs_sum fa fb fc) :=
    hasFields_function (opcodeOf_encFloat _ _ _ _ _) (field_5_11_encFloat _ _ _ _ _)
theorem TableWord.divs_sud (fa fb fc : Reg) : TableWord.Statement (.divs_sud fa fb fc) :=
    hasFields_function (opcodeOf_encFloat _ _ _ _ _) (field_5_11_encFloat _ _ _ _ _)
theorem TableWord.divs_sui (fa fb fc : Reg) : TableWord.Statement (.divs_sui fa fb fc) :=
    hasFields_function (opcodeOf_encFloat _ _ _ _ _) (field_5_11_encFloat _ _ _ _ _)
theorem TableWord.divs_suic (fa fb fc : Reg) : TableWord.Statement (.divs_suic fa fb fc) :=
    hasFields_function (opcodeOf_encFloat _ _ _ _ _) (field_5_11_encFloat _ _ _ _ _)
theorem TableWord.divs_suim (fa fb fc : Reg) : TableWord.Statement (.divs_suim fa fb fc) :=
    hasFields_function (opcodeOf_encFloat _ _ _ _ _) (field_5_11_encFloat _ _ _ _ _)
theorem TableWord.divs_suid (fa fb fc : Reg) : TableWord.Statement (.divs_suid fa fb fc) :=
    hasFields_function (opcodeOf_encFloat _ _ _ _ _) (field_5_11_encFloat _ _ _ _ _)
theorem TableWord.divt (fa fb fc : Reg) : TableWord.Statement (.divt fa fb fc) :=
    hasFields_function (opcodeOf_encFloat _ _ _ _ _) (field_5_11_encFloat _ _ _ _ _)
theorem TableWord.divt_c (fa fb fc : Reg) : TableWord.Statement (.divt_c fa fb fc) :=
    hasFields_function (opcodeOf_encFloat _ _ _ _ _) (field_5_11_encFloat _ _ _ _ _)
theorem TableWord.divt_m (fa fb fc : Reg) : TableWord.Statement (.divt_m fa fb fc) :=
    hasFields_function (opcodeOf_encFloat _ _ _ _ _) (field_5_11_encFloat _ _ _ _ _)
theorem TableWord.divt_d (fa fb fc : Reg) : TableWord.Statement (.divt_d fa fb fc) :=
    hasFields_function (opcodeOf_encFloat _ _ _ _ _) (field_5_11_encFloat _ _ _ _ _)
theorem TableWord.divt_u (fa fb fc : Reg) : TableWord.Statement (.divt_u fa fb fc) :=
    hasFields_function (opcodeOf_encFloat _ _ _ _ _) (field_5_11_encFloat _ _ _ _ _)
theorem TableWord.divt_uc (fa fb fc : Reg) : TableWord.Statement (.divt_uc fa fb fc) :=
    hasFields_function (opcodeOf_encFloat _ _ _ _ _) (field_5_11_encFloat _ _ _ _ _)
theorem TableWord.divt_um (fa fb fc : Reg) : TableWord.Statement (.divt_um fa fb fc) :=
    hasFields_function (opcodeOf_encFloat _ _ _ _ _) (field_5_11_encFloat _ _ _ _ _)
theorem TableWord.divt_ud (fa fb fc : Reg) : TableWord.Statement (.divt_ud fa fb fc) :=
    hasFields_function (opcodeOf_encFloat _ _ _ _ _) (field_5_11_encFloat _ _ _ _ _)
theorem TableWord.divt_su (fa fb fc : Reg) : TableWord.Statement (.divt_su fa fb fc) :=
    hasFields_function (opcodeOf_encFloat _ _ _ _ _) (field_5_11_encFloat _ _ _ _ _)
theorem TableWord.divt_suc (fa fb fc : Reg) : TableWord.Statement (.divt_suc fa fb fc) :=
    hasFields_function (opcodeOf_encFloat _ _ _ _ _) (field_5_11_encFloat _ _ _ _ _)
theorem TableWord.divt_sum (fa fb fc : Reg) : TableWord.Statement (.divt_sum fa fb fc) :=
    hasFields_function (opcodeOf_encFloat _ _ _ _ _) (field_5_11_encFloat _ _ _ _ _)
theorem TableWord.divt_sud (fa fb fc : Reg) : TableWord.Statement (.divt_sud fa fb fc) :=
    hasFields_function (opcodeOf_encFloat _ _ _ _ _) (field_5_11_encFloat _ _ _ _ _)
theorem TableWord.divt_sui (fa fb fc : Reg) : TableWord.Statement (.divt_sui fa fb fc) :=
    hasFields_function (opcodeOf_encFloat _ _ _ _ _) (field_5_11_encFloat _ _ _ _ _)
theorem TableWord.divt_suic (fa fb fc : Reg) : TableWord.Statement (.divt_suic fa fb fc) :=
    hasFields_function (opcodeOf_encFloat _ _ _ _ _) (field_5_11_encFloat _ _ _ _ _)
theorem TableWord.divt_suim (fa fb fc : Reg) : TableWord.Statement (.divt_suim fa fb fc) :=
    hasFields_function (opcodeOf_encFloat _ _ _ _ _) (field_5_11_encFloat _ _ _ _ _)
theorem TableWord.divt_suid (fa fb fc : Reg) : TableWord.Statement (.divt_suid fa fb fc) :=
    hasFields_function (opcodeOf_encFloat _ _ _ _ _) (field_5_11_encFloat _ _ _ _ _)
theorem TableWord.cvtts (fb fc : Reg) : TableWord.Statement (.cvtts fb fc) :=
    hasFields_function (opcodeOf_encFloat _ _ _ _ _) (field_5_11_encFloat _ _ _ _ _)
theorem TableWord.cvtts_c (fb fc : Reg) : TableWord.Statement (.cvtts_c fb fc) :=
    hasFields_function (opcodeOf_encFloat _ _ _ _ _) (field_5_11_encFloat _ _ _ _ _)
theorem TableWord.cvtts_m (fb fc : Reg) : TableWord.Statement (.cvtts_m fb fc) :=
    hasFields_function (opcodeOf_encFloat _ _ _ _ _) (field_5_11_encFloat _ _ _ _ _)
theorem TableWord.cvtts_d (fb fc : Reg) : TableWord.Statement (.cvtts_d fb fc) :=
    hasFields_function (opcodeOf_encFloat _ _ _ _ _) (field_5_11_encFloat _ _ _ _ _)
theorem TableWord.cvtts_u (fb fc : Reg) : TableWord.Statement (.cvtts_u fb fc) :=
    hasFields_function (opcodeOf_encFloat _ _ _ _ _) (field_5_11_encFloat _ _ _ _ _)
theorem TableWord.cvtts_uc (fb fc : Reg) : TableWord.Statement (.cvtts_uc fb fc) :=
    hasFields_function (opcodeOf_encFloat _ _ _ _ _) (field_5_11_encFloat _ _ _ _ _)
theorem TableWord.cvtts_um (fb fc : Reg) : TableWord.Statement (.cvtts_um fb fc) :=
    hasFields_function (opcodeOf_encFloat _ _ _ _ _) (field_5_11_encFloat _ _ _ _ _)
theorem TableWord.cvtts_ud (fb fc : Reg) : TableWord.Statement (.cvtts_ud fb fc) :=
    hasFields_function (opcodeOf_encFloat _ _ _ _ _) (field_5_11_encFloat _ _ _ _ _)
theorem TableWord.cvtts_su (fb fc : Reg) : TableWord.Statement (.cvtts_su fb fc) :=
    hasFields_function (opcodeOf_encFloat _ _ _ _ _) (field_5_11_encFloat _ _ _ _ _)
theorem TableWord.cvtts_suc (fb fc : Reg) : TableWord.Statement (.cvtts_suc fb fc) :=
    hasFields_function (opcodeOf_encFloat _ _ _ _ _) (field_5_11_encFloat _ _ _ _ _)
theorem TableWord.cvtts_sum (fb fc : Reg) : TableWord.Statement (.cvtts_sum fb fc) :=
    hasFields_function (opcodeOf_encFloat _ _ _ _ _) (field_5_11_encFloat _ _ _ _ _)
theorem TableWord.cvtts_sud (fb fc : Reg) : TableWord.Statement (.cvtts_sud fb fc) :=
    hasFields_function (opcodeOf_encFloat _ _ _ _ _) (field_5_11_encFloat _ _ _ _ _)
theorem TableWord.cvtts_sui (fb fc : Reg) : TableWord.Statement (.cvtts_sui fb fc) :=
    hasFields_function (opcodeOf_encFloat _ _ _ _ _) (field_5_11_encFloat _ _ _ _ _)
theorem TableWord.cvtts_suic (fb fc : Reg) : TableWord.Statement (.cvtts_suic fb fc) :=
    hasFields_function (opcodeOf_encFloat _ _ _ _ _) (field_5_11_encFloat _ _ _ _ _)
theorem TableWord.cvtts_suim (fb fc : Reg) : TableWord.Statement (.cvtts_suim fb fc) :=
    hasFields_function (opcodeOf_encFloat _ _ _ _ _) (field_5_11_encFloat _ _ _ _ _)
theorem TableWord.cvtts_suid (fb fc : Reg) : TableWord.Statement (.cvtts_suid fb fc) :=
    hasFields_function (opcodeOf_encFloat _ _ _ _ _) (field_5_11_encFloat _ _ _ _ _)
theorem TableWord.cvtqs (fb fc : Reg) : TableWord.Statement (.cvtqs fb fc) :=
    hasFields_function (opcodeOf_encFloat _ _ _ _ _) (field_5_11_encFloat _ _ _ _ _)
theorem TableWord.cvtqs_c (fb fc : Reg) : TableWord.Statement (.cvtqs_c fb fc) :=
    hasFields_function (opcodeOf_encFloat _ _ _ _ _) (field_5_11_encFloat _ _ _ _ _)
theorem TableWord.cvtqs_m (fb fc : Reg) : TableWord.Statement (.cvtqs_m fb fc) :=
    hasFields_function (opcodeOf_encFloat _ _ _ _ _) (field_5_11_encFloat _ _ _ _ _)
theorem TableWord.cvtqs_d (fb fc : Reg) : TableWord.Statement (.cvtqs_d fb fc) :=
    hasFields_function (opcodeOf_encFloat _ _ _ _ _) (field_5_11_encFloat _ _ _ _ _)
theorem TableWord.cvtqs_sui (fb fc : Reg) : TableWord.Statement (.cvtqs_sui fb fc) :=
    hasFields_function (opcodeOf_encFloat _ _ _ _ _) (field_5_11_encFloat _ _ _ _ _)
theorem TableWord.cvtqs_suic (fb fc : Reg) : TableWord.Statement (.cvtqs_suic fb fc) :=
    hasFields_function (opcodeOf_encFloat _ _ _ _ _) (field_5_11_encFloat _ _ _ _ _)
theorem TableWord.cvtqs_suim (fb fc : Reg) : TableWord.Statement (.cvtqs_suim fb fc) :=
    hasFields_function (opcodeOf_encFloat _ _ _ _ _) (field_5_11_encFloat _ _ _ _ _)
theorem TableWord.cvtqs_suid (fb fc : Reg) : TableWord.Statement (.cvtqs_suid fb fc) :=
    hasFields_function (opcodeOf_encFloat _ _ _ _ _) (field_5_11_encFloat _ _ _ _ _)
theorem TableWord.cvtqt (fb fc : Reg) : TableWord.Statement (.cvtqt fb fc) :=
    hasFields_function (opcodeOf_encFloat _ _ _ _ _) (field_5_11_encFloat _ _ _ _ _)
theorem TableWord.cvtqt_c (fb fc : Reg) : TableWord.Statement (.cvtqt_c fb fc) :=
    hasFields_function (opcodeOf_encFloat _ _ _ _ _) (field_5_11_encFloat _ _ _ _ _)
theorem TableWord.cvtqt_m (fb fc : Reg) : TableWord.Statement (.cvtqt_m fb fc) :=
    hasFields_function (opcodeOf_encFloat _ _ _ _ _) (field_5_11_encFloat _ _ _ _ _)
theorem TableWord.cvtqt_d (fb fc : Reg) : TableWord.Statement (.cvtqt_d fb fc) :=
    hasFields_function (opcodeOf_encFloat _ _ _ _ _) (field_5_11_encFloat _ _ _ _ _)
theorem TableWord.cvtqt_sui (fb fc : Reg) : TableWord.Statement (.cvtqt_sui fb fc) :=
    hasFields_function (opcodeOf_encFloat _ _ _ _ _) (field_5_11_encFloat _ _ _ _ _)
theorem TableWord.cvtqt_suic (fb fc : Reg) : TableWord.Statement (.cvtqt_suic fb fc) :=
    hasFields_function (opcodeOf_encFloat _ _ _ _ _) (field_5_11_encFloat _ _ _ _ _)
theorem TableWord.cvtqt_suim (fb fc : Reg) : TableWord.Statement (.cvtqt_suim fb fc) :=
    hasFields_function (opcodeOf_encFloat _ _ _ _ _) (field_5_11_encFloat _ _ _ _ _)
theorem TableWord.cvtqt_suid (fb fc : Reg) : TableWord.Statement (.cvtqt_suid fb fc) :=
    hasFields_function (opcodeOf_encFloat _ _ _ _ _) (field_5_11_encFloat _ _ _ _ _)
theorem TableWord.cmptun (fa fb fc : Reg) : TableWord.Statement (.cmptun fa fb fc) :=
    hasFields_function (opcodeOf_encFloat _ _ _ _ _) (field_5_11_encFloat _ _ _ _ _)
theorem TableWord.cmptun_su (fa fb fc : Reg) : TableWord.Statement (.cmptun_su fa fb fc) :=
    hasFields_function (opcodeOf_encFloat _ _ _ _ _) (field_5_11_encFloat _ _ _ _ _)
theorem TableWord.cmpteq (fa fb fc : Reg) : TableWord.Statement (.cmpteq fa fb fc) :=
    hasFields_function (opcodeOf_encFloat _ _ _ _ _) (field_5_11_encFloat _ _ _ _ _)
theorem TableWord.cmpteq_su (fa fb fc : Reg) : TableWord.Statement (.cmpteq_su fa fb fc) :=
    hasFields_function (opcodeOf_encFloat _ _ _ _ _) (field_5_11_encFloat _ _ _ _ _)
theorem TableWord.cmptlt (fa fb fc : Reg) : TableWord.Statement (.cmptlt fa fb fc) :=
    hasFields_function (opcodeOf_encFloat _ _ _ _ _) (field_5_11_encFloat _ _ _ _ _)
theorem TableWord.cmptlt_su (fa fb fc : Reg) : TableWord.Statement (.cmptlt_su fa fb fc) :=
    hasFields_function (opcodeOf_encFloat _ _ _ _ _) (field_5_11_encFloat _ _ _ _ _)
theorem TableWord.cmptle (fa fb fc : Reg) : TableWord.Statement (.cmptle fa fb fc) :=
    hasFields_function (opcodeOf_encFloat _ _ _ _ _) (field_5_11_encFloat _ _ _ _ _)
theorem TableWord.cmptle_su (fa fb fc : Reg) : TableWord.Statement (.cmptle_su fa fb fc) :=
    hasFields_function (opcodeOf_encFloat _ _ _ _ _) (field_5_11_encFloat _ _ _ _ _)
theorem TableWord.cvtst (fb fc : Reg) : TableWord.Statement (.cvtst fb fc) :=
    hasFields_function (opcodeOf_encFloat _ _ _ _ _) (field_5_11_encFloat _ _ _ _ _)
theorem TableWord.cvtst_s (fb fc : Reg) : TableWord.Statement (.cvtst_s fb fc) :=
    hasFields_function (opcodeOf_encFloat _ _ _ _ _) (field_5_11_encFloat _ _ _ _ _)
theorem TableWord.cvttq (fb fc : Reg) : TableWord.Statement (.cvttq fb fc) :=
    hasFields_function (opcodeOf_encFloat _ _ _ _ _) (field_5_11_encFloat _ _ _ _ _)
theorem TableWord.cvttq_c (fb fc : Reg) : TableWord.Statement (.cvttq_c fb fc) :=
    hasFields_function (opcodeOf_encFloat _ _ _ _ _) (field_5_11_encFloat _ _ _ _ _)
theorem TableWord.cvttq_m (fb fc : Reg) : TableWord.Statement (.cvttq_m fb fc) :=
    hasFields_function (opcodeOf_encFloat _ _ _ _ _) (field_5_11_encFloat _ _ _ _ _)
theorem TableWord.cvttq_d (fb fc : Reg) : TableWord.Statement (.cvttq_d fb fc) :=
    hasFields_function (opcodeOf_encFloat _ _ _ _ _) (field_5_11_encFloat _ _ _ _ _)
theorem TableWord.cvttq_v (fb fc : Reg) : TableWord.Statement (.cvttq_v fb fc) :=
    hasFields_function (opcodeOf_encFloat _ _ _ _ _) (field_5_11_encFloat _ _ _ _ _)
theorem TableWord.cvttq_vc (fb fc : Reg) : TableWord.Statement (.cvttq_vc fb fc) :=
    hasFields_function (opcodeOf_encFloat _ _ _ _ _) (field_5_11_encFloat _ _ _ _ _)
theorem TableWord.cvttq_vm (fb fc : Reg) : TableWord.Statement (.cvttq_vm fb fc) :=
    hasFields_function (opcodeOf_encFloat _ _ _ _ _) (field_5_11_encFloat _ _ _ _ _)
theorem TableWord.cvttq_vd (fb fc : Reg) : TableWord.Statement (.cvttq_vd fb fc) :=
    hasFields_function (opcodeOf_encFloat _ _ _ _ _) (field_5_11_encFloat _ _ _ _ _)
theorem TableWord.cvttq_sv (fb fc : Reg) : TableWord.Statement (.cvttq_sv fb fc) :=
    hasFields_function (opcodeOf_encFloat _ _ _ _ _) (field_5_11_encFloat _ _ _ _ _)
theorem TableWord.cvttq_svc (fb fc : Reg) : TableWord.Statement (.cvttq_svc fb fc) :=
    hasFields_function (opcodeOf_encFloat _ _ _ _ _) (field_5_11_encFloat _ _ _ _ _)
theorem TableWord.cvttq_svm (fb fc : Reg) : TableWord.Statement (.cvttq_svm fb fc) :=
    hasFields_function (opcodeOf_encFloat _ _ _ _ _) (field_5_11_encFloat _ _ _ _ _)
theorem TableWord.cvttq_svd (fb fc : Reg) : TableWord.Statement (.cvttq_svd fb fc) :=
    hasFields_function (opcodeOf_encFloat _ _ _ _ _) (field_5_11_encFloat _ _ _ _ _)
theorem TableWord.cvttq_svi (fb fc : Reg) : TableWord.Statement (.cvttq_svi fb fc) :=
    hasFields_function (opcodeOf_encFloat _ _ _ _ _) (field_5_11_encFloat _ _ _ _ _)
theorem TableWord.cvttq_svic (fb fc : Reg) : TableWord.Statement (.cvttq_svic fb fc) :=
    hasFields_function (opcodeOf_encFloat _ _ _ _ _) (field_5_11_encFloat _ _ _ _ _)
theorem TableWord.cvttq_svim (fb fc : Reg) : TableWord.Statement (.cvttq_svim fb fc) :=
    hasFields_function (opcodeOf_encFloat _ _ _ _ _) (field_5_11_encFloat _ _ _ _ _)
theorem TableWord.cvttq_svid (fb fc : Reg) : TableWord.Statement (.cvttq_svid fb fc) :=
    hasFields_function (opcodeOf_encFloat _ _ _ _ _) (field_5_11_encFloat _ _ _ _ _)
theorem TableWord.addf (fa fb fc : Reg) : TableWord.Statement (.addf fa fb fc) :=
    hasFields_function (opcodeOf_encFloat _ _ _ _ _) (field_5_11_encFloat _ _ _ _ _)
theorem TableWord.addf_c (fa fb fc : Reg) : TableWord.Statement (.addf_c fa fb fc) :=
    hasFields_function (opcodeOf_encFloat _ _ _ _ _) (field_5_11_encFloat _ _ _ _ _)
theorem TableWord.addf_u (fa fb fc : Reg) : TableWord.Statement (.addf_u fa fb fc) :=
    hasFields_function (opcodeOf_encFloat _ _ _ _ _) (field_5_11_encFloat _ _ _ _ _)
theorem TableWord.addf_uc (fa fb fc : Reg) : TableWord.Statement (.addf_uc fa fb fc) :=
    hasFields_function (opcodeOf_encFloat _ _ _ _ _) (field_5_11_encFloat _ _ _ _ _)
theorem TableWord.addf_s (fa fb fc : Reg) : TableWord.Statement (.addf_s fa fb fc) :=
    hasFields_function (opcodeOf_encFloat _ _ _ _ _) (field_5_11_encFloat _ _ _ _ _)
theorem TableWord.addf_sc (fa fb fc : Reg) : TableWord.Statement (.addf_sc fa fb fc) :=
    hasFields_function (opcodeOf_encFloat _ _ _ _ _) (field_5_11_encFloat _ _ _ _ _)
theorem TableWord.addf_su (fa fb fc : Reg) : TableWord.Statement (.addf_su fa fb fc) :=
    hasFields_function (opcodeOf_encFloat _ _ _ _ _) (field_5_11_encFloat _ _ _ _ _)
theorem TableWord.addf_suc (fa fb fc : Reg) : TableWord.Statement (.addf_suc fa fb fc) :=
    hasFields_function (opcodeOf_encFloat _ _ _ _ _) (field_5_11_encFloat _ _ _ _ _)
theorem TableWord.addg (fa fb fc : Reg) : TableWord.Statement (.addg fa fb fc) :=
    hasFields_function (opcodeOf_encFloat _ _ _ _ _) (field_5_11_encFloat _ _ _ _ _)
theorem TableWord.addg_c (fa fb fc : Reg) : TableWord.Statement (.addg_c fa fb fc) :=
    hasFields_function (opcodeOf_encFloat _ _ _ _ _) (field_5_11_encFloat _ _ _ _ _)
theorem TableWord.addg_u (fa fb fc : Reg) : TableWord.Statement (.addg_u fa fb fc) :=
    hasFields_function (opcodeOf_encFloat _ _ _ _ _) (field_5_11_encFloat _ _ _ _ _)
theorem TableWord.addg_uc (fa fb fc : Reg) : TableWord.Statement (.addg_uc fa fb fc) :=
    hasFields_function (opcodeOf_encFloat _ _ _ _ _) (field_5_11_encFloat _ _ _ _ _)
theorem TableWord.addg_s (fa fb fc : Reg) : TableWord.Statement (.addg_s fa fb fc) :=
    hasFields_function (opcodeOf_encFloat _ _ _ _ _) (field_5_11_encFloat _ _ _ _ _)
theorem TableWord.addg_sc (fa fb fc : Reg) : TableWord.Statement (.addg_sc fa fb fc) :=
    hasFields_function (opcodeOf_encFloat _ _ _ _ _) (field_5_11_encFloat _ _ _ _ _)
theorem TableWord.addg_su (fa fb fc : Reg) : TableWord.Statement (.addg_su fa fb fc) :=
    hasFields_function (opcodeOf_encFloat _ _ _ _ _) (field_5_11_encFloat _ _ _ _ _)
theorem TableWord.addg_suc (fa fb fc : Reg) : TableWord.Statement (.addg_suc fa fb fc) :=
    hasFields_function (opcodeOf_encFloat _ _ _ _ _) (field_5_11_encFloat _ _ _ _ _)
theorem TableWord.subf (fa fb fc : Reg) : TableWord.Statement (.subf fa fb fc) :=
    hasFields_function (opcodeOf_encFloat _ _ _ _ _) (field_5_11_encFloat _ _ _ _ _)
theorem TableWord.subf_c (fa fb fc : Reg) : TableWord.Statement (.subf_c fa fb fc) :=
    hasFields_function (opcodeOf_encFloat _ _ _ _ _) (field_5_11_encFloat _ _ _ _ _)
theorem TableWord.subf_u (fa fb fc : Reg) : TableWord.Statement (.subf_u fa fb fc) :=
    hasFields_function (opcodeOf_encFloat _ _ _ _ _) (field_5_11_encFloat _ _ _ _ _)
theorem TableWord.subf_uc (fa fb fc : Reg) : TableWord.Statement (.subf_uc fa fb fc) :=
    hasFields_function (opcodeOf_encFloat _ _ _ _ _) (field_5_11_encFloat _ _ _ _ _)
theorem TableWord.subf_s (fa fb fc : Reg) : TableWord.Statement (.subf_s fa fb fc) :=
    hasFields_function (opcodeOf_encFloat _ _ _ _ _) (field_5_11_encFloat _ _ _ _ _)
theorem TableWord.subf_sc (fa fb fc : Reg) : TableWord.Statement (.subf_sc fa fb fc) :=
    hasFields_function (opcodeOf_encFloat _ _ _ _ _) (field_5_11_encFloat _ _ _ _ _)
theorem TableWord.subf_su (fa fb fc : Reg) : TableWord.Statement (.subf_su fa fb fc) :=
    hasFields_function (opcodeOf_encFloat _ _ _ _ _) (field_5_11_encFloat _ _ _ _ _)
theorem TableWord.subf_suc (fa fb fc : Reg) : TableWord.Statement (.subf_suc fa fb fc) :=
    hasFields_function (opcodeOf_encFloat _ _ _ _ _) (field_5_11_encFloat _ _ _ _ _)
theorem TableWord.subg (fa fb fc : Reg) : TableWord.Statement (.subg fa fb fc) :=
    hasFields_function (opcodeOf_encFloat _ _ _ _ _) (field_5_11_encFloat _ _ _ _ _)
theorem TableWord.subg_c (fa fb fc : Reg) : TableWord.Statement (.subg_c fa fb fc) :=
    hasFields_function (opcodeOf_encFloat _ _ _ _ _) (field_5_11_encFloat _ _ _ _ _)
theorem TableWord.subg_u (fa fb fc : Reg) : TableWord.Statement (.subg_u fa fb fc) :=
    hasFields_function (opcodeOf_encFloat _ _ _ _ _) (field_5_11_encFloat _ _ _ _ _)
theorem TableWord.subg_uc (fa fb fc : Reg) : TableWord.Statement (.subg_uc fa fb fc) :=
    hasFields_function (opcodeOf_encFloat _ _ _ _ _) (field_5_11_encFloat _ _ _ _ _)
theorem TableWord.subg_s (fa fb fc : Reg) : TableWord.Statement (.subg_s fa fb fc) :=
    hasFields_function (opcodeOf_encFloat _ _ _ _ _) (field_5_11_encFloat _ _ _ _ _)
theorem TableWord.subg_sc (fa fb fc : Reg) : TableWord.Statement (.subg_sc fa fb fc) :=
    hasFields_function (opcodeOf_encFloat _ _ _ _ _) (field_5_11_encFloat _ _ _ _ _)
theorem TableWord.subg_su (fa fb fc : Reg) : TableWord.Statement (.subg_su fa fb fc) :=
    hasFields_function (opcodeOf_encFloat _ _ _ _ _) (field_5_11_encFloat _ _ _ _ _)
theorem TableWord.subg_suc (fa fb fc : Reg) : TableWord.Statement (.subg_suc fa fb fc) :=
    hasFields_function (opcodeOf_encFloat _ _ _ _ _) (field_5_11_encFloat _ _ _ _ _)
theorem TableWord.mulf (fa fb fc : Reg) : TableWord.Statement (.mulf fa fb fc) :=
    hasFields_function (opcodeOf_encFloat _ _ _ _ _) (field_5_11_encFloat _ _ _ _ _)
theorem TableWord.mulf_c (fa fb fc : Reg) : TableWord.Statement (.mulf_c fa fb fc) :=
    hasFields_function (opcodeOf_encFloat _ _ _ _ _) (field_5_11_encFloat _ _ _ _ _)
theorem TableWord.mulf_u (fa fb fc : Reg) : TableWord.Statement (.mulf_u fa fb fc) :=
    hasFields_function (opcodeOf_encFloat _ _ _ _ _) (field_5_11_encFloat _ _ _ _ _)
theorem TableWord.mulf_uc (fa fb fc : Reg) : TableWord.Statement (.mulf_uc fa fb fc) :=
    hasFields_function (opcodeOf_encFloat _ _ _ _ _) (field_5_11_encFloat _ _ _ _ _)
theorem TableWord.mulf_s (fa fb fc : Reg) : TableWord.Statement (.mulf_s fa fb fc) :=
    hasFields_function (opcodeOf_encFloat _ _ _ _ _) (field_5_11_encFloat _ _ _ _ _)
theorem TableWord.mulf_sc (fa fb fc : Reg) : TableWord.Statement (.mulf_sc fa fb fc) :=
    hasFields_function (opcodeOf_encFloat _ _ _ _ _) (field_5_11_encFloat _ _ _ _ _)
theorem TableWord.mulf_su (fa fb fc : Reg) : TableWord.Statement (.mulf_su fa fb fc) :=
    hasFields_function (opcodeOf_encFloat _ _ _ _ _) (field_5_11_encFloat _ _ _ _ _)
theorem TableWord.mulf_suc (fa fb fc : Reg) : TableWord.Statement (.mulf_suc fa fb fc) :=
    hasFields_function (opcodeOf_encFloat _ _ _ _ _) (field_5_11_encFloat _ _ _ _ _)
theorem TableWord.mulg (fa fb fc : Reg) : TableWord.Statement (.mulg fa fb fc) :=
    hasFields_function (opcodeOf_encFloat _ _ _ _ _) (field_5_11_encFloat _ _ _ _ _)
theorem TableWord.mulg_c (fa fb fc : Reg) : TableWord.Statement (.mulg_c fa fb fc) :=
    hasFields_function (opcodeOf_encFloat _ _ _ _ _) (field_5_11_encFloat _ _ _ _ _)
theorem TableWord.mulg_u (fa fb fc : Reg) : TableWord.Statement (.mulg_u fa fb fc) :=
    hasFields_function (opcodeOf_encFloat _ _ _ _ _) (field_5_11_encFloat _ _ _ _ _)
theorem TableWord.mulg_uc (fa fb fc : Reg) : TableWord.Statement (.mulg_uc fa fb fc) :=
    hasFields_function (opcodeOf_encFloat _ _ _ _ _) (field_5_11_encFloat _ _ _ _ _)
theorem TableWord.mulg_s (fa fb fc : Reg) : TableWord.Statement (.mulg_s fa fb fc) :=
    hasFields_function (opcodeOf_encFloat _ _ _ _ _) (field_5_11_encFloat _ _ _ _ _)
theorem TableWord.mulg_sc (fa fb fc : Reg) : TableWord.Statement (.mulg_sc fa fb fc) :=
    hasFields_function (opcodeOf_encFloat _ _ _ _ _) (field_5_11_encFloat _ _ _ _ _)
theorem TableWord.mulg_su (fa fb fc : Reg) : TableWord.Statement (.mulg_su fa fb fc) :=
    hasFields_function (opcodeOf_encFloat _ _ _ _ _) (field_5_11_encFloat _ _ _ _ _)
theorem TableWord.mulg_suc (fa fb fc : Reg) : TableWord.Statement (.mulg_suc fa fb fc) :=
    hasFields_function (opcodeOf_encFloat _ _ _ _ _) (field_5_11_encFloat _ _ _ _ _)
theorem TableWord.divf (fa fb fc : Reg) : TableWord.Statement (.divf fa fb fc) :=
    hasFields_function (opcodeOf_encFloat _ _ _ _ _) (field_5_11_encFloat _ _ _ _ _)
theorem TableWord.divf_c (fa fb fc : Reg) : TableWord.Statement (.divf_c fa fb fc) :=
    hasFields_function (opcodeOf_encFloat _ _ _ _ _) (field_5_11_encFloat _ _ _ _ _)
theorem TableWord.divf_u (fa fb fc : Reg) : TableWord.Statement (.divf_u fa fb fc) :=
    hasFields_function (opcodeOf_encFloat _ _ _ _ _) (field_5_11_encFloat _ _ _ _ _)
theorem TableWord.divf_uc (fa fb fc : Reg) : TableWord.Statement (.divf_uc fa fb fc) :=
    hasFields_function (opcodeOf_encFloat _ _ _ _ _) (field_5_11_encFloat _ _ _ _ _)
theorem TableWord.divf_s (fa fb fc : Reg) : TableWord.Statement (.divf_s fa fb fc) :=
    hasFields_function (opcodeOf_encFloat _ _ _ _ _) (field_5_11_encFloat _ _ _ _ _)
theorem TableWord.divf_sc (fa fb fc : Reg) : TableWord.Statement (.divf_sc fa fb fc) :=
    hasFields_function (opcodeOf_encFloat _ _ _ _ _) (field_5_11_encFloat _ _ _ _ _)
theorem TableWord.divf_su (fa fb fc : Reg) : TableWord.Statement (.divf_su fa fb fc) :=
    hasFields_function (opcodeOf_encFloat _ _ _ _ _) (field_5_11_encFloat _ _ _ _ _)
theorem TableWord.divf_suc (fa fb fc : Reg) : TableWord.Statement (.divf_suc fa fb fc) :=
    hasFields_function (opcodeOf_encFloat _ _ _ _ _) (field_5_11_encFloat _ _ _ _ _)
theorem TableWord.divg (fa fb fc : Reg) : TableWord.Statement (.divg fa fb fc) :=
    hasFields_function (opcodeOf_encFloat _ _ _ _ _) (field_5_11_encFloat _ _ _ _ _)
theorem TableWord.divg_c (fa fb fc : Reg) : TableWord.Statement (.divg_c fa fb fc) :=
    hasFields_function (opcodeOf_encFloat _ _ _ _ _) (field_5_11_encFloat _ _ _ _ _)
theorem TableWord.divg_u (fa fb fc : Reg) : TableWord.Statement (.divg_u fa fb fc) :=
    hasFields_function (opcodeOf_encFloat _ _ _ _ _) (field_5_11_encFloat _ _ _ _ _)
theorem TableWord.divg_uc (fa fb fc : Reg) : TableWord.Statement (.divg_uc fa fb fc) :=
    hasFields_function (opcodeOf_encFloat _ _ _ _ _) (field_5_11_encFloat _ _ _ _ _)
theorem TableWord.divg_s (fa fb fc : Reg) : TableWord.Statement (.divg_s fa fb fc) :=
    hasFields_function (opcodeOf_encFloat _ _ _ _ _) (field_5_11_encFloat _ _ _ _ _)
theorem TableWord.divg_sc (fa fb fc : Reg) : TableWord.Statement (.divg_sc fa fb fc) :=
    hasFields_function (opcodeOf_encFloat _ _ _ _ _) (field_5_11_encFloat _ _ _ _ _)
theorem TableWord.divg_su (fa fb fc : Reg) : TableWord.Statement (.divg_su fa fb fc) :=
    hasFields_function (opcodeOf_encFloat _ _ _ _ _) (field_5_11_encFloat _ _ _ _ _)
theorem TableWord.divg_suc (fa fb fc : Reg) : TableWord.Statement (.divg_suc fa fb fc) :=
    hasFields_function (opcodeOf_encFloat _ _ _ _ _) (field_5_11_encFloat _ _ _ _ _)
theorem TableWord.cvtdg (fb fc : Reg) : TableWord.Statement (.cvtdg fb fc) :=
    hasFields_function (opcodeOf_encFloat _ _ _ _ _) (field_5_11_encFloat _ _ _ _ _)
theorem TableWord.cvtdg_c (fb fc : Reg) : TableWord.Statement (.cvtdg_c fb fc) :=
    hasFields_function (opcodeOf_encFloat _ _ _ _ _) (field_5_11_encFloat _ _ _ _ _)
theorem TableWord.cvtdg_u (fb fc : Reg) : TableWord.Statement (.cvtdg_u fb fc) :=
    hasFields_function (opcodeOf_encFloat _ _ _ _ _) (field_5_11_encFloat _ _ _ _ _)
theorem TableWord.cvtdg_uc (fb fc : Reg) : TableWord.Statement (.cvtdg_uc fb fc) :=
    hasFields_function (opcodeOf_encFloat _ _ _ _ _) (field_5_11_encFloat _ _ _ _ _)
theorem TableWord.cvtdg_s (fb fc : Reg) : TableWord.Statement (.cvtdg_s fb fc) :=
    hasFields_function (opcodeOf_encFloat _ _ _ _ _) (field_5_11_encFloat _ _ _ _ _)
theorem TableWord.cvtdg_sc (fb fc : Reg) : TableWord.Statement (.cvtdg_sc fb fc) :=
    hasFields_function (opcodeOf_encFloat _ _ _ _ _) (field_5_11_encFloat _ _ _ _ _)
theorem TableWord.cvtdg_su (fb fc : Reg) : TableWord.Statement (.cvtdg_su fb fc) :=
    hasFields_function (opcodeOf_encFloat _ _ _ _ _) (field_5_11_encFloat _ _ _ _ _)
theorem TableWord.cvtdg_suc (fb fc : Reg) : TableWord.Statement (.cvtdg_suc fb fc) :=
    hasFields_function (opcodeOf_encFloat _ _ _ _ _) (field_5_11_encFloat _ _ _ _ _)
theorem TableWord.cvtgf (fb fc : Reg) : TableWord.Statement (.cvtgf fb fc) :=
    hasFields_function (opcodeOf_encFloat _ _ _ _ _) (field_5_11_encFloat _ _ _ _ _)
theorem TableWord.cvtgf_c (fb fc : Reg) : TableWord.Statement (.cvtgf_c fb fc) :=
    hasFields_function (opcodeOf_encFloat _ _ _ _ _) (field_5_11_encFloat _ _ _ _ _)
theorem TableWord.cvtgf_u (fb fc : Reg) : TableWord.Statement (.cvtgf_u fb fc) :=
    hasFields_function (opcodeOf_encFloat _ _ _ _ _) (field_5_11_encFloat _ _ _ _ _)
theorem TableWord.cvtgf_uc (fb fc : Reg) : TableWord.Statement (.cvtgf_uc fb fc) :=
    hasFields_function (opcodeOf_encFloat _ _ _ _ _) (field_5_11_encFloat _ _ _ _ _)
theorem TableWord.cvtgf_s (fb fc : Reg) : TableWord.Statement (.cvtgf_s fb fc) :=
    hasFields_function (opcodeOf_encFloat _ _ _ _ _) (field_5_11_encFloat _ _ _ _ _)
theorem TableWord.cvtgf_sc (fb fc : Reg) : TableWord.Statement (.cvtgf_sc fb fc) :=
    hasFields_function (opcodeOf_encFloat _ _ _ _ _) (field_5_11_encFloat _ _ _ _ _)
theorem TableWord.cvtgf_su (fb fc : Reg) : TableWord.Statement (.cvtgf_su fb fc) :=
    hasFields_function (opcodeOf_encFloat _ _ _ _ _) (field_5_11_encFloat _ _ _ _ _)
theorem TableWord.cvtgf_suc (fb fc : Reg) : TableWord.Statement (.cvtgf_suc fb fc) :=
    hasFields_function (opcodeOf_encFloat _ _ _ _ _) (field_5_11_encFloat _ _ _ _ _)
theorem TableWord.cvtgd (fb fc : Reg) : TableWord.Statement (.cvtgd fb fc) :=
    hasFields_function (opcodeOf_encFloat _ _ _ _ _) (field_5_11_encFloat _ _ _ _ _)
theorem TableWord.cvtgd_c (fb fc : Reg) : TableWord.Statement (.cvtgd_c fb fc) :=
    hasFields_function (opcodeOf_encFloat _ _ _ _ _) (field_5_11_encFloat _ _ _ _ _)
theorem TableWord.cvtgd_u (fb fc : Reg) : TableWord.Statement (.cvtgd_u fb fc) :=
    hasFields_function (opcodeOf_encFloat _ _ _ _ _) (field_5_11_encFloat _ _ _ _ _)
theorem TableWord.cvtgd_uc (fb fc : Reg) : TableWord.Statement (.cvtgd_uc fb fc) :=
    hasFields_function (opcodeOf_encFloat _ _ _ _ _) (field_5_11_encFloat _ _ _ _ _)
theorem TableWord.cvtgd_s (fb fc : Reg) : TableWord.Statement (.cvtgd_s fb fc) :=
    hasFields_function (opcodeOf_encFloat _ _ _ _ _) (field_5_11_encFloat _ _ _ _ _)
theorem TableWord.cvtgd_sc (fb fc : Reg) : TableWord.Statement (.cvtgd_sc fb fc) :=
    hasFields_function (opcodeOf_encFloat _ _ _ _ _) (field_5_11_encFloat _ _ _ _ _)
theorem TableWord.cvtgd_su (fb fc : Reg) : TableWord.Statement (.cvtgd_su fb fc) :=
    hasFields_function (opcodeOf_encFloat _ _ _ _ _) (field_5_11_encFloat _ _ _ _ _)
theorem TableWord.cvtgd_suc (fb fc : Reg) : TableWord.Statement (.cvtgd_suc fb fc) :=
    hasFields_function (opcodeOf_encFloat _ _ _ _ _) (field_5_11_encFloat _ _ _ _ _)
theorem TableWord.cvtgq (fb fc : Reg) : TableWord.Statement (.cvtgq fb fc) :=
    hasFields_function (opcodeOf_encFloat _ _ _ _ _) (field_5_11_encFloat _ _ _ _ _)
theorem TableWord.cvtgq_c (fb fc : Reg) : TableWord.Statement (.cvtgq_c fb fc) :=
    hasFields_function (opcodeOf_encFloat _ _ _ _ _) (field_5_11_encFloat _ _ _ _ _)
theorem TableWord.cvtgq_v (fb fc : Reg) : TableWord.Statement (.cvtgq_v fb fc) :=
    hasFields_function (opcodeOf_encFloat _ _ _ _ _) (field_5_11_encFloat _ _ _ _ _)
theorem TableWord.cvtgq_vc (fb fc : Reg) : TableWord.Statement (.cvtgq_vc fb fc) :=
    hasFields_function (opcodeOf_encFloat _ _ _ _ _) (field_5_11_encFloat _ _ _ _ _)
theorem TableWord.cvtgq_s (fb fc : Reg) : TableWord.Statement (.cvtgq_s fb fc) :=
    hasFields_function (opcodeOf_encFloat _ _ _ _ _) (field_5_11_encFloat _ _ _ _ _)
theorem TableWord.cvtgq_sc (fb fc : Reg) : TableWord.Statement (.cvtgq_sc fb fc) :=
    hasFields_function (opcodeOf_encFloat _ _ _ _ _) (field_5_11_encFloat _ _ _ _ _)
theorem TableWord.cvtgq_sv (fb fc : Reg) : TableWord.Statement (.cvtgq_sv fb fc) :=
    hasFields_function (opcodeOf_encFloat _ _ _ _ _) (field_5_11_encFloat _ _ _ _ _)
theorem TableWord.cvtgq_svc (fb fc : Reg) : TableWord.Statement (.cvtgq_svc fb fc) :=
    hasFields_function (opcodeOf_encFloat _ _ _ _ _) (field_5_11_encFloat _ _ _ _ _)
theorem TableWord.cvtqf (fb fc : Reg) : TableWord.Statement (.cvtqf fb fc) :=
    hasFields_function (opcodeOf_encFloat _ _ _ _ _) (field_5_11_encFloat _ _ _ _ _)
theorem TableWord.cvtqf_c (fb fc : Reg) : TableWord.Statement (.cvtqf_c fb fc) :=
    hasFields_function (opcodeOf_encFloat _ _ _ _ _) (field_5_11_encFloat _ _ _ _ _)
theorem TableWord.cvtqg (fb fc : Reg) : TableWord.Statement (.cvtqg fb fc) :=
    hasFields_function (opcodeOf_encFloat _ _ _ _ _) (field_5_11_encFloat _ _ _ _ _)
theorem TableWord.cvtqg_c (fb fc : Reg) : TableWord.Statement (.cvtqg_c fb fc) :=
    hasFields_function (opcodeOf_encFloat _ _ _ _ _) (field_5_11_encFloat _ _ _ _ _)
theorem TableWord.cmpgeq (fa fb fc : Reg) : TableWord.Statement (.cmpgeq fa fb fc) :=
    hasFields_function (opcodeOf_encFloat _ _ _ _ _) (field_5_11_encFloat _ _ _ _ _)
theorem TableWord.cmpgeq_s (fa fb fc : Reg) : TableWord.Statement (.cmpgeq_s fa fb fc) :=
    hasFields_function (opcodeOf_encFloat _ _ _ _ _) (field_5_11_encFloat _ _ _ _ _)
theorem TableWord.cmpglt (fa fb fc : Reg) : TableWord.Statement (.cmpglt fa fb fc) :=
    hasFields_function (opcodeOf_encFloat _ _ _ _ _) (field_5_11_encFloat _ _ _ _ _)
theorem TableWord.cmpglt_s (fa fb fc : Reg) : TableWord.Statement (.cmpglt_s fa fb fc) :=
    hasFields_function (opcodeOf_encFloat _ _ _ _ _) (field_5_11_encFloat _ _ _ _ _)
theorem TableWord.cmpgle (fa fb fc : Reg) : TableWord.Statement (.cmpgle fa fb fc) :=
    hasFields_function (opcodeOf_encFloat _ _ _ _ _) (field_5_11_encFloat _ _ _ _ _)
theorem TableWord.cmpgle_s (fa fb fc : Reg) : TableWord.Statement (.cmpgle_s fa fb fc) :=
    hasFields_function (opcodeOf_encFloat _ _ _ _ _) (field_5_11_encFloat _ _ _ _ _)
theorem TableWord.trapb : TableWord.Statement (.trapb) :=
    hasFields_function (opcodeOf_encMem _ _ _ _) (field_0_16_encMem _ _ _ _)
theorem TableWord.excb : TableWord.Statement (.excb) :=
    hasFields_function (opcodeOf_encMem _ _ _ _) (field_0_16_encMem _ _ _ _)
theorem TableWord.mb : TableWord.Statement (.mb) :=
    hasFields_function (opcodeOf_encMem _ _ _ _) (field_0_16_encMem _ _ _ _)
theorem TableWord.wmb : TableWord.Statement (.wmb) :=
    hasFields_function (opcodeOf_encMem _ _ _ _) (field_0_16_encMem _ _ _ _)
theorem TableWord.fetch (rb : Reg) : TableWord.Statement (.fetch rb) :=
    hasFields_function (opcodeOf_encMem _ _ _ _) (field_0_16_encMem _ _ _ _)
theorem TableWord.fetch_m (rb : Reg) : TableWord.Statement (.fetch_m rb) :=
    hasFields_function (opcodeOf_encMem _ _ _ _) (field_0_16_encMem _ _ _ _)
theorem TableWord.rpcc (ra : Reg) : TableWord.Statement (.rpcc ra) :=
    hasFields_function (opcodeOf_encMem _ _ _ _) (field_0_16_encMem _ _ _ _)
theorem TableWord.rc (ra : Reg) : TableWord.Statement (.rc ra) :=
    hasFields_function (opcodeOf_encMem _ _ _ _) (field_0_16_encMem _ _ _ _)
theorem TableWord.rs (ra : Reg) : TableWord.Statement (.rs ra) :=
    hasFields_function (opcodeOf_encMem _ _ _ _) (field_0_16_encMem _ _ _ _)
theorem TableWord.call_pal (fn : BitVec 26) : TableWord.Statement (.call_pal fn) :=
    hasFields_opcode (opcodeOf_callPal _ _)
theorem TableWord.hw_mfpr (ra rb : Reg) (index : BitVec 16) : TableWord.Statement (.hw_mfpr ra rb index) :=
    hasFields_opcode (opcodeOf_encMem _ _ _ _)
theorem TableWord.hw_ld (ra rb : Reg) (phys alt wrtck quad vpte lock : Bool) (disp : BitVec 10) : TableWord.Statement (.hw_ld ra rb phys alt wrtck quad vpte lock disp) :=
    hasFields_opcode (opcodeOf_encHwMem _ _ _ _ _ _ _ _ _ _)
theorem TableWord.hw_mtpr (ra rb : Reg) (index : BitVec 16) : TableWord.Statement (.hw_mtpr ra rb index) :=
    hasFields_opcode (opcodeOf_encMem _ _ _ _)
theorem TableWord.hw_rei (mbz : BitVec 14) : TableWord.Statement (.hw_rei mbz) :=
    hasFields_function (opcodeOf_encMem _ _ _ _) (field_14_2_encMem _ _ _ _ _)
theorem TableWord.hw_rei_stall (mbz : BitVec 14) : TableWord.Statement (.hw_rei_stall mbz) :=
    hasFields_function (opcodeOf_encMem _ _ _ _) (field_14_2_encMem _ _ _ _ _)
theorem TableWord.hw_st (ra rb : Reg) (phys alt mbz13 quad mbz11 cond : Bool) (disp : BitVec 10) : TableWord.Statement (.hw_st ra rb phys alt mbz13 quad mbz11 cond disp) :=
    hasFields_opcode (opcodeOf_encHwMem _ _ _ _ _ _ _ _ _ _)

end Sys2Proof.Laws
end

