-- ==== Sys2Proof/Laws/Registers.lean ====
section
/-!
SUPPORT. The register files: R31 and F31 read as zero, a write is read back, and other registers keep their values
(10_state.md R52, R54, R57).
-/

namespace Sys2Proof.Machine

/-- Different register numbers are overlaid by different shadow registers. -/
theorem shadowSlot_inj : ∀ r q : Reg, shadowSlot r ≠ none → shadowSlot r = shadowSlot q → r = q := by decide

theorem vector_get_set {n : Nat} (xs : Vector Quad n) (i : Nat) (hi : i < n) (j : Fin n) (v : Quad) :
    (xs.set i v hi).get j = if i = j.val then v else xs.get j := by
  show (xs.set i v hi)[j.val] = _
  split
  · rename_i h
    subst h
    exact Vector.getElem_set_self hi
  · rename_i h
    exact Vector.getElem_set_ne hi j.isLt h

@[simp] theorem State.writeReg_shadowOf (s : State) (r q : Reg) (v : Quad) :
    (s.writeReg r v).shadowOf q = s.shadowOf q := State.shadowOf_congr (by simp) (by simp) q

@[simp] theorem State.readReg_31 (s : State) : s.readReg 31#5 = 0#64 := rfl

@[simp] theorem State.writeReg_31 (s : State) (v : Quad) : s.writeReg 31#5 v = s := rfl

@[simp] theorem State.readFreg_31 (s : State) : s.readFreg 31#5 = 0#64 := rfl

@[simp] theorem State.writeFreg_31 (s : State) (v : Quad) : s.writeFreg 31#5 v = s := rfl

/-- What a register reads as after a write: R31 is zero, the register written holds the value, the others are as before. -/
theorem State.readReg_writeReg (s : State) (r q : Reg) (v : Quad) :
    (s.writeReg r v).readReg q = if q = 31 then 0 else if q = r then v else s.readReg q := by
  by_cases hq : q = 31
  · subst hq
    simp
  have hqb : (q == 31) = false := by simpa using hq
  rw [if_neg hq]
  by_cases hr : r = 31
  · subst hr
    rw [if_neg hq]
    rfl
  have hrb : (r == 31) = false := by simpa using hr
  unfold State.readReg
  rw [State.writeReg_shadowOf, hqb]
  simp only [cond_false]
  by_cases hqr : q = r
  · subst hqr
    rw [if_pos rfl]
    unfold State.writeReg
    rw [hqb]
    cases hs : s.shadowOf q with
    | none => exact (vector_get_set _ _ q.toFin.isLt q.toFin v).trans (if_pos rfl)
    | some k => exact (vector_get_set _ _ k.isLt k v).trans (if_pos rfl)
  · rw [if_neg hqr]
    unfold State.writeReg
    rw [hrb]
    cases hs : s.shadowOf r with
    | none =>
      cases hs' : s.shadowOf q with
      | some k => rfl
      | none =>
        have : r.toFin.val ≠ q.toFin.val := by
          intro h
          exact hqr (BitVec.eq_of_toFin_eq (Fin.ext h.symm))
        show (s.regs.set r.toFin v).get q.toFin = s.regs.get q.toFin
        rw [vector_get_set, if_neg this]
    | some k =>
      cases hs' : s.shadowOf q with
      | none => rfl
      | some k' =>
        have hne : k.val ≠ k'.val := by
          intro h
          have hk : k = k' := Fin.ext h
          subst hk
          unfold State.shadowOf at hs hs'
          cases hp : s.palmode && s.icsrBit 30 with
          | false =>
            rw [hp] at hs
            cases hs
          | true =>
            rw [hp] at hs hs'
            simp only [cond_true] at hs hs'
            refine hqr ((shadowSlot_inj r q ?_ ?_).symm)
            · rw [hs]
              simp
            · rw [hs, hs']
        show (s.shadow.set k v).get k' = s.shadow.get k'
        rw [vector_get_set, if_neg hne]

/-- What a floating-point register reads as after a write. -/
theorem State.readFreg_writeFreg (s : State) (r q : Reg) (v : Quad) :
    (s.writeFreg r v).readFreg q = if q = 31 then 0 else if q = r then v else s.readFreg q := by
  by_cases hq : q = 31
  · subst hq
    simp
  have hqb : (q == 31) = false := by simpa using hq
  rw [if_neg hq]
  by_cases hr : r = 31
  · subst hr
    rw [if_neg hq]
    rfl
  have hrb : (r == 31) = false := by simpa using hr
  unfold State.readFreg State.writeFreg
  rw [hqb, hrb]
  simp only [cond_false]
  rw [vector_get_set]
  by_cases hqr : q = r
  · rw [if_pos (congrArg (fun x : Reg => x.toFin.val) hqr.symm), if_pos hqr]
  · rw [if_neg hqr, if_neg]
    intro h
    exact hqr (BitVec.eq_of_toFin_eq (Fin.ext h.symm))

end Sys2Proof.Machine
end

