-- ==== Sys2Proof/Laws/Results.lean ====
section
/-!
SUPPORT. What each shared operation can do: a property of every next state of an operation follows from the property of
the states it hands on.
-/

namespace Sys2Proof.Machine

/-- A property of the next state, if there is one. -/
def allNext (P : State → Prop) (r : Result State) : Prop := ∀ t, r = .next t → P t

theorem allNext_next {P : State → Prop} {s : State} (h : P s) : allNext P (.next s) := by
  intro t ht
  cases ht
  exact h

theorem allNext_fault {P : State → Prop} {f : Fault} : allNext P (.fault f) := by
  intro t ht
  cases ht

theorem allNext_refused {P : State → Prop} {f : Refusal} : allNext P (.refused f) := by
  intro t ht
  cases ht

theorem allNext_mono {P Q : State → Prop} {r : Result State} (h : ∀ t, P t → Q t) (hr : allNext P r) : allNext Q r :=
  fun t ht => h t (hr t ht)

/-- A result that is `next` of a continuation. -/
theorem andThen_next {r : Result State} {k : State → Result State} {t : State} :
    andThen r k = .next t ↔ ∃ u, r = .next u ∧ k u = .next t := by
  unfold andThen
  cases r with
  | next u =>
    constructor
    · intro h
      exact ⟨u, rfl, h⟩
    · intro h
      obtain ⟨u', hu, ht⟩ := h
      cases hu
      exact ht
  | fault f =>
    constructor
    · intro h
      cases h
    · intro h
      obtain ⟨u, hu, _⟩ := h
      cases hu
  | refused f =>
    constructor
    · intro h
      cases h
    · intro h
      obtain ⟨u, hu, _⟩ := h
      cases hu

theorem andThen_all {P : State → Prop} {r : Result State} {k : State → Result State}
    (h : ∀ u, r = .next u → allNext P (k u)) : allNext P (andThen r k) := by
  intro t ht
  obtain ⟨u, hu, hk⟩ := andThen_next.mp ht
  exact h u hu t hk

/-! ### Entries -/

/-- Taking an entry: the owed ARITH entry if there is one, otherwise the entry itself with what it records. -/
theorem takeEntry_cases (e : Entry) (record : State → State) (s : State) :
    (s.arithPending = true ∧ takeEntry e record s = takeArith s) ∨
      (s.arithPending = false ∧ takeEntry e record s = enterPal e s.pc e.offset (record s)) := by
  unfold takeEntry
  cases s.arithPending with
  | true => exact .inl ⟨rfl, rfl⟩
  | false => exact .inr ⟨rfl, rfl⟩

theorem takeEntry_all {P : State → Prop} {e : Entry} {record : State → State} {s : State}
    (ha : s.arithPending = true → P (takeArith s))
    (he : s.arithPending = false → P (enterPal e s.pc e.offset (record s))) : P (takeEntry e record s) := by
  rcases takeEntry_cases e record s with ⟨h, heq⟩ | ⟨h, heq⟩
  · rw [heq]
    exact ha h
  · rw [heq]
    exact he h

theorem raise_all {P : State → Prop} {e : Entry} {s : State} (h : P (takeEntry e id s)) : allNext P (raise e s) :=
  allNext_next h

theorem afterArith_all {P : State → Prop} {s : State} {k : State → Result State}
    (ha : s.arithPending = true → P (takeArith s)) (hk : s.arithPending = false → allNext P (k s)) :
    allNext P (afterArith s k) := by
  unfold afterArith
  cases h : s.arithPending with
  | true => exact allNext_next (ha h)
  | false => exact hk h

theorem whenFp_all {P : State → Prop} {s : State} {k : State → Result State}
    (he : s.fpEnabled = false → P (takeEntry .fen id s)) (hk : s.fpEnabled = true → allNext P (k s)) :
    allNext P (whenFp k s) := by
  unfold whenFp
  cases h : s.fpEnabled with
  | true => exact hk h
  | false => exact raise_all (he h)

theorem whenByteWord_all {P : State → Prop} {s : State} {k : State → Result State}
    (he : s.byteWordEnabled = false → P (takeEntry .opcdec id s)) (hk : s.byteWordEnabled = true → allNext P (k s)) :
    allNext P (whenByteWord k s) := by
  unfold whenByteWord
  cases h : s.byteWordEnabled with
  | true => exact hk h
  | false => exact raise_all (he h)

theorem whenPal_all {P : State → Prop} {s : State} {k : State → Result State}
    (he : s.palOpcodeAllowed = false → P (takeEntry .opcdec id s))
    (hk : s.palOpcodeAllowed = true → allNext P (k s)) : allNext P (whenPal k s) := by
  unfold whenPal
  cases h : s.palOpcodeAllowed with
  | true => exact hk h
  | false => exact raise_all (he h)

/-! ### The CBU registers -/

/-- Reading a CBU register changes only the CBU registers, the memory system and the model's own fields; the write buffer
stays. -/
theorem State.cbuRead_frame {s t : State} {reg : CbuReg} {v : Quad} (h : s.cbuRead reg = some (v, t)) :
    ∃ c w k, t = { s with cbu := c, memsys := w, model := k } ∧ w.wb = s.memsys.wb := by
  cases reg <;> simp only [State.cbuRead, Option.some.injEq, Prod.mk.injEq, reduceCtorEq] at h <;>
    (obtain ⟨-, rfl⟩ := h) <;> exact ⟨_, _, _, rfl, rfl⟩

theorem underWb_length (a : Nat) (v : Byte) : ∀ l : List WbEntry, (underWb a v l).length = l.length
  | [] => rfl
  | e :: rest => by
    unfold underWb
    cases e.writes a with
    | true => rfl
    | false =>
      show (underWb a v rest).length + 1 = rest.length + 1
      rw [underWb_length a v rest]

/-- Losing data keeps the number of entries of the write buffer. -/
theorem State.discard_wb : ∀ (l : Longs) (s : State), (s.discard l).memsys.wb.length = s.memsys.wb.length
  | [], _ => rfl
  | p :: rest, s => by
    rw [State.discard_cons, State.discard_wb rest]
    simp only [State.lowerLong, State.lowered, State.lowerByte, underWb_length]

/-- SC_FLUSH changes memory, the memory system and the model's own fields. -/
theorem State.scacheFlush_frame (s : State) :
    ∃ m w k, s.scacheFlush = { s with mem := m, memsys := w, model := k } ∧ (Memory.wf s.mem = true → Memory.wf m = true) ∧
      w.wb.length = s.memsys.wb.length := by
  unfold State.scacheFlush
  obtain ⟨m, w, k, hm, hw⟩ := State.discard_frame s.memsys.caches.underScache s
  have hl := State.discard_wb s.memsys.caches.underScache s
  rw [hm] at hl ⊢
  exact ⟨m, _, k, rfl, hw, hl⟩

/-- Storing to a CBU register changes only the CBU registers, memory (SC_FLUSH), the memory system and the model's own
fields. -/
theorem State.cbuWrite_frame {s t : State} {reg : CbuReg} {v : Quad} (h : s.cbuWrite v reg = .next t) :
    ∃ c m w k, t = { s with cbu := c, mem := m, memsys := w, model := k } ∧ (Memory.wf s.mem = true → Memory.wf m = true) ∧
      w.wb.length = s.memsys.wb.length := by
  cases reg with
  | scCtl =>
    simp only [State.cbuWrite, State.writeScCtl] at h
    revert h
    cases slice v 16 3 != 0 <;> cases !setsAllowed (slice v 13 3) (bit v 0) <;>
      simp only [cond_true, cond_false, reduceCtorEq, false_imp_iff]
    intro h
    cases hb : bit v 1 with
    | false =>
      rw [hb] at h
      cases h
      exact ⟨_, _, _, _, rfl, id, rfl⟩
    | true =>
      rw [hb] at h
      simp only [cond_true] at h
      cases h
      obtain ⟨m, w, k, hm, hw, hl⟩ := State.scacheFlush_frame
        { s.withCbu { s.cbu with scCtl := slice v 0 19 } with
          memsys := (s.withCbu { s.cbu with scCtl := slice v 0 19 }).memsys.onCaches
            (Caches.changeSets (s.cbu.scCtl.extractLsb' 13 3) (slice v 13 3))
          model := { s.model with
            owed := { s.model.owed with
              scExit := bif s.cbu.scCtl.getLsbD 0 && !bit v 0 then 2 else s.model.owed.scExit }
            cbuQuiet := s.model.cbuQuiet || slice v 0 19 != s.cbu.scCtl } }
      exact ⟨_, m, w, k, hm, hw, hl⟩
  | bcControl =>
    simp only [State.cbuWrite, State.writeBcControl] at h
    revert h
    cases bit v 25 || bit v 27 <;> simp only [cond_true, cond_false, reduceCtorEq, false_imp_iff]
    intro h
    cases h
    exact ⟨_, _, _, _, rfl, id, rfl⟩
  | bcConfig =>
    simp only [State.cbuWrite, State.writeBcConfig] at h
    revert h
    cases bit v 3 || bit v 15 || bit v 19 <;> simp only [cond_true, cond_false, reduceCtorEq, false_imp_iff]
    intro h
    cases h
    exact ⟨_, _, _, _, rfl, id, rfl⟩
  | scStat => cases h
  | scAddr => cases h
  | bcTagAddr => cases h
  | eiStat => cases h
  | eiAddr => cases h
  | fillSyn => cases h

/-! ### Loads and stores -/

/-- Loads only clear a lock flag, and only while system_lock_flag_h is not asserted. -/
def lockKept (s : State) (f : Bool) : Prop := (s.pins.systemLock = true → f = s.lockFlag) ∧ (f = true → s.lockFlag = true)

theorem State.withMemSys_lockKept (s : State) (f : CacheCfg → MemSys → MemSys) : lockKept s (s.withMemSys f).lockFlag := by
  unfold lockKept State.withMemSys
  constructor
  · intro h
    simp [h]
  · intro h
    exact (Bool.and_eq_true_iff.mp h).1

/-- A load of a CBU register that is outstanding changes the memory system, a lock lost to a fill and the model's own fields. -/
theorem State.noteCbuLoad_frame (s : State) (r : DRef) (pa : PAddr) (t : State) :
    ∃ w f m, s.noteCbuLoad r pa t = { t with memsys := w, lockFlag := f, model := m } ∧ lockKept t f ∧
      w.wb.length ≤ t.memsys.wb.length :=
  ⟨_, _, _, rfl, t.withMemSys_lockKept _, MemSys.makeWay_length _ _ _ _ _⟩

/-- A load at a physical address waits, or hands on the data of memory, or a CBU register. -/
theorem loadAt_all {P : State → Prop} {r : DRef} {pa : PAddr} {k : Quad → State → Result State} {s : State}
    (hw : P s)
    (hm : allNext P (k (s.loadData r (s.busAddress pa)) (s.loaded r (s.busAddress pa))))
    (hc : ∀ v c w f m, lockKept s f → w.wb.length ≤ s.memsys.wb.length →
      allNext P (k v { s with cbu := c, memsys := w, lockFlag := f, model := m })) :
    allNext P (loadAt r pa k s) := by
  unfold loadAt
  cases s.model.cbuStore with
  | true => exact allNext_refused
  | false =>
    cases s.loadHeld r (s.busAddress pa) with
    | true => exact allNext_next hw
    | false =>
      cases inCbu pa && (s.dcacheCase r pa).misses with
      | false =>
        cases s.byteWordIoOff r.size pa with
        | true => exact allNext_refused
        | false =>
          cases s.flushUndefined r pa with
          | true => exact allNext_refused
          | false => exact hm
      | true =>
        show allNext P (cbuLoad r pa _ s)
        unfold cbuLoad
        cases cbuReg pa with
        | none => exact allNext_fault
        | some reg =>
          show allNext P (bif r.size != 8 || r.lock then _ else _)
          cases r.size != 8 || r.lock with
          | true => exact allNext_refused
          | false =>
            cases s.cbu.bcControl.getLsbD 1 with
            | true => exact allNext_refused
            | false =>
              show allNext P (match s.cbuRead reg with | none => _ | some (v, t) => _)
              cases h4 : s.cbuRead reg with
              | none => exact allNext_refused
              | some p =>
                obtain ⟨v, t⟩ := p
                obtain ⟨c, w, m, rfl, hwb⟩ := State.cbuRead_frame h4
                show allNext P (k v (s.noteCbuLoad r pa (bif s.stopped then s else _)))
                cases s.stopped with
                | true =>
                  obtain ⟨w', f, m', heq, hl, hwb'⟩ := s.noteCbuLoad_frame r pa s
                  simp only [cond_true, heq]
                  exact hc v s.cbu w' f m' hl hwb'
                | false =>
                  obtain ⟨w', f, m', heq, hl, hwb'⟩ := s.noteCbuLoad_frame r pa { s with cbu := c, memsys := w, model := m }
                  simp only [cond_false, heq]
                  refine hc v c w' f m' hl ?_
                  rw [← hwb]
                  exact hwb'

/-- A store to a CBU register hands on a state in which only those registers, memory, the memory system and the model's own
fields differ. -/
theorem cbuStore_all {P : State → Prop} {r : DRef} {pa : PAddr} {v : Quad} {k : State → Result State} {s : State}
    (h : ∀ c m w q, (Memory.wf s.mem = true → Memory.wf m = true) → w.wb.length = s.memsys.wb.length →
      allNext P (k { s with cbu := c, mem := m, memsys := w, model := q })) : allNext P (cbuStore r pa v k s) := by
  unfold cbuStore
  cases cbuReg pa with
  | none => exact allNext_fault
  | some reg =>
    show allNext P (bif r.size != 8 || r.lock then _ else _)
    cases r.size != 8 || r.lock with
    | true => exact allNext_refused
    | false =>
      show allNext P (match s.cbuWrite v reg with | .next t => _ | .fault f => _ | .refused f => _)
      cases h4 : s.cbuWrite v reg with
      | fault f => exact allNext_fault
      | refused f => exact allNext_refused
      | next t =>
        obtain ⟨c, m, w, q, rfl, hw, hl⟩ := State.cbuWrite_frame h4
        simp only
        cases !s.model.afterMb || (q.cbuQuiet && s.memsys.istreamAsked) with
        | true => exact allNext_refused
        | false =>
          cases s.stopped with
          | true => exact h s.cbu s.mem s.memsys _ id rfl
          | false => exact h c m w _ hw hl

/-- A store at a physical address waits, or hands on the state after it, or after a store to a CBU register. -/
theorem storeAt_all {P : State → Prop} {r : DRef} {pa : PAddr} {v : Quad} {k : State → Result State} {s : State}
    (hs : P s)
    (hm : allNext P (k (s.dcacheStore r (s.busAddress pa) (s.stored r.size (s.busAddress pa) v))))
    (hc : ∀ c m w q, (Memory.wf s.mem = true → Memory.wf m = true) → w.wb.length = s.memsys.wb.length →
      allNext P (k { s with cbu := c, mem := m, memsys := w, model := q })) : allNext P (storeAt r pa v k s) := by
  unfold storeAt
  cases s.model.cbuStore || s.model.owed.storesHeld with
  | true => exact allNext_refused
  | false =>
    cases inCbu pa with
    | true =>
      exact cbuStore_all (k := fun t => k (s.dcacheStore r (s.busAddress pa) t)) fun c m w q hw hl =>
        hc c m (w.onCaches _) q hw hl
    | false =>
      cases s.byteWordIoOff r.size pa with
      | true => exact allNext_refused
      | false =>
        cases s.storeHeld with
        | true => exact allNext_next hs
        | false => exact hm

/-- A conditional store waits or completes. It never reaches a CBU register: it is refused there (13_state_cbu_iprs.md R241 e). -/
theorem condAt_all {P : State → Prop} {r : DRef} {pa : PAddr} {v : Quad} {k : Bool → State → Result State} {s : State}
    (hs : P s)
    (hm : allNext P (k (s.condSucceeds (s.busAddress pa)) (s.condStored r (s.busAddress pa) v))) :
    allNext P (condAt r pa v k s) := by
  unfold condAt
  cases s.model.cbuStore || s.model.owed.storesHeld with
  | true => exact allNext_refused
  | false =>
    cases inCbu pa with
    | false =>
      cases !pa.getLsbD 39 && (s.cacheCfg.scForced || s.cacheCfg.bcForced) with
      | true => exact allNext_refused
      | false =>
        cases s.stopped with
        | true => exact allNext_next hs
        | false => exact hm
    | true =>
      show allNext P (cbuStore { r with lock := true } pa v _ s)
      unfold cbuStore
      cases cbuReg pa with
      | none => exact allNext_fault
      | some reg =>
        show allNext P (bif r.size != 8 || true then _ else _)
        rw [Bool.or_true]
        exact allNext_refused

theorem translated_all {P : State → Prop} {r : DRef} {k : PAddr → State → Result State} {s : State}
    (ht : ∀ e c, s.translate r = .trap e c → P (takeEntry e (recordMm r c) s))
    (hk : ∀ pa, s.translate r = .ok pa → allNext P (k pa s)) : allNext P (translated r k s) := by
  unfold translated
  cases h : s.translate r with
  | ok pa => exact hk pa h
  | trap e c => exact allNext_next (ht e c h)
  | multiple => exact allNext_fault

theorem load_all {P : State → Prop} {r : DRef} {k : Quad → State → Result State} {s : State}
    (ht : ∀ e c, s.translate r = .trap e c → P (takeEntry e (recordMm r c) s))
    (hw : P s)
    (hm : ∀ pa, s.translate r = .ok pa → allNext P (k (s.loadData r (s.busAddress pa)) (s.loaded r (s.busAddress pa))))
    (hc : ∀ v c w f m, lockKept s f → w.wb.length ≤ s.memsys.wb.length →
      allNext P (k v { s with cbu := c, memsys := w, lockFlag := f, model := m })) :
    allNext P (load r k s) :=
  translated_all ht fun pa hpa => loadAt_all hw (hm pa hpa) hc

theorem loadLocked_all {P : State → Prop} {r : DRef} {k : Quad → State → Result State} {s : State}
    (ht : ∀ e c, s.translate r = .trap e c → P (takeEntry e (recordMm r c) s))
    (hw : P s)
    (hm : ∀ pa, s.translate r = .ok pa →
      allNext P (k (s.loadData r (s.busAddress pa)) ((s.loaded r (s.busAddress pa)).locks pa)))
    (hc : ∀ pa v c w f m, lockKept s f → w.wb.length ≤ s.memsys.wb.length →
      allNext P (k v (({ s with cbu := c, memsys := w, lockFlag := f, model := m } : State).locks pa))) :
    allNext P (loadLocked r k s) :=
  translated_all ht fun pa hpa => loadAt_all hw (hm pa hpa) (hc pa)

theorem store_all {P : State → Prop} {r : DRef} {v : Quad} {k : State → Result State} {s : State}
    (ht : ∀ e c, s.translate r = .trap e c → P (takeEntry e (recordMm r c) s))
    (hs : P s)
    (hm : ∀ pa, s.translate r = .ok pa → allNext P (k (s.dcacheStore r (s.busAddress pa) (s.stored r.size (s.busAddress pa) v))))
    (hc : ∀ c m w q, (Memory.wf s.mem = true → Memory.wf m = true) → w.wb.length = s.memsys.wb.length →
      allNext P (k { s with cbu := c, mem := m, memsys := w, model := q })) : allNext P (store r v k s) :=
  translated_all ht fun pa hpa => storeAt_all hs (hm pa hpa) hc

theorem storeConditional_all {P : State → Prop} {r : DRef} {v : Quad} {k : Bool → State → Result State} {s : State}
    (ht : ∀ e c, s.translate r = .trap e c → P (takeEntry e (recordMm r c) s))
    (hs : P s)
    (hm : ∀ pa, s.translate r = .ok pa →
      allNext P (k (s.condSucceeds (s.busAddress pa)) (s.condStored r (s.busAddress pa) v))) :
    allNext P (storeConditional r v k s) :=
  translated_all ht fun pa hpa => condAt_all hs (hm pa hpa)

/-! ### Internal processor registers -/

/-- HW_MFPR changes at most the IPRs and the model's own fields. -/
theorem readIpr_frame {s t : State} {i : Ipr} {v : Quad} (h : readIpr s i = some (v, t)) :
    ∃ d m q, t = { s with idu := d, mtu := m, model := q } := by
  cases i with
  | ivptbr =>
    have hb : ∀ b : Bool, ∀ x y : Quad × State, (bif b then some x else some y) = some (v, t) → t = x.2 ∨ t = y.2 := by
      intro b x y hxy
      cases b with
      | true => exact .inl (congrArg Prod.snd (Option.some.inj hxy)).symm
      | false => exact .inr (congrArg Prod.snd (Option.some.inj hxy)).symm
    rcases hb _ _ _ h with rfl | rfl
    · exact ⟨_, _, _, rfl⟩
    · exact ⟨_, _, _, rfl⟩
  | itbPte =>
    cases h
    unfold State.noteSteps
    cases Nat.blt s.model.sinceMtu 7 <;> exact ⟨_, _, _, rfl⟩
  | _ =>
    cases h <;> exact ⟨_, _, _, rfl⟩

/-- HW_MTPR changes at most the IPRs, the Dcache (DC_FLUSH, DC_TEST_TAG) and the model's own fields. -/
theorem writeIpr_frame {s t : State} {i : Ipr} {v : Quad} (h : writeIpr s v i = .next t) :
    ∃ d m w q, t = { s with idu := d, mtu := m, memsys := w, model := q } ∧ w.wb = s.memsys.wb := by
  cases i with
  | icsr =>
    simp only [writeIpr, State.writeIcsr] at h
    revert h
    cases bit v 18 || !bit v 37 <;> simp only [cond_true, cond_false, reduceCtorEq, false_imp_iff]
    intro h
    cases h
    exact ⟨_, _, _, _, rfl, rfl⟩
  | mcsr =>
    simp only [writeIpr] at h
    revert h
    cases bit v 3 || bit v 5 <;> simp only [cond_true, cond_false, reduceCtorEq, false_imp_iff]
    intro h
    cases h
    exact ⟨_, _, _, _, rfl, rfl⟩
  | itbPte =>
    cases h
    unfold State.noteSteps
    cases Nat.blt s.model.sinceMtu 7 <;> exact ⟨_, _, _, _, rfl, rfl⟩
  | _ =>
    cases h <;> exact ⟨_, _, _, _, rfl, rfl⟩

/-- After HW_MFPR only the model's own fields differ. -/
theorem State.afterMfpr_frame (s : State) (index : BitVec 16) : ∃ k, s.afterMfpr index = { s with model := k } := by
  unfold State.afterMfpr
  cases index.extractLsb' 8 8 == 2 with
  | true => exact ⟨_, rfl⟩
  | false => exact ⟨_, rfl⟩

/-- HW_MFPR, case by case: OPCDEC where it is not allowed, or a register read. -/
theorem execHwMfpr_all {P : State → Prop} {ra rb : Reg} {index : BitVec 16} {s : State}
    (he : s.palOpcodeAllowed = false → P (takeEntry .opcdec id s))
    (hr : s.palOpcodeAllowed = true → ra = rb → ∀ i v t, iprAt index = some i → readIpr s i = some (v, t) →
      P ((t.afterMfpr index).writeReg ra v).advance) : allNext P (execHwMfpr ra rb index s) := by
  unfold execHwMfpr
  refine whenPal_all he fun hp => ?_
  by_cases hab : ra = rb
  · have hb : (ra != rb) = false := by simpa using hab
    show allNext P (bif ra != rb then _ else _)
    rw [hb]
    show allNext P (match (iprAt index).bind (readIpr s) with | none => _ | some (v, t) => _)
    cases hi : iprAt index with
    | none => exact allNext_refused
    | some i =>
      cases hv : readIpr s i with
      | none =>
        simp only [Option.bind_some, hv]
        exact allNext_refused
      | some p =>
        simp only [Option.bind_some, hv]
        exact allNext_next (hr hp hab i p.1 p.2 hi hv)
  · have hb : (ra != rb) = true := by simpa using hab
    show allNext P (bif ra != rb then _ else _)
    rw [hb]
    exact allNext_refused

/-- HW_MTPR, case by case: OPCDEC where it is not allowed, or a register written. -/
theorem execHwMtpr_all {P : State → Prop} {ra rb : Reg} {index : BitVec 16} {s : State}
    (he : s.palOpcodeAllowed = false → P (takeEntry .opcdec id s))
    (hw : s.palOpcodeAllowed = true → ra = rb → ∀ i t, iprAt index = some i → writeIpr s (s.readReg ra) i = .next t →
      P t.advance) : allNext P (execHwMtpr ra rb index s) := by
  unfold execHwMtpr
  refine whenPal_all he fun hp => ?_
  by_cases hab : ra = rb
  · have hb : (ra != rb) = false := by simpa using hab
    simp only [hb, cond_false]
    cases hi : iprAt index with
    | none => exact allNext_refused
    | some i =>
      cases hv : writeIpr s (s.readReg ra) i with
      | next t =>
        simp only [hv]
        exact allNext_next (hw hp hab i t hi hv)
      | fault f =>
        simp only [hv]
        exact allNext_fault
      | refused f =>
        simp only [hv]
        exact allNext_refused
  · have hb : (ra != rb) = true := by simpa using hab
    simp only [hb, cond_true]
    exact allNext_refused

end Sys2Proof.Machine
end

