-- ==== Sys2Proof/Tests/Slice0.lean ====
section
/-!
SUPPORT. Tests: the decoding of every instruction from the words of spec/opcode_table.json, well-formedness, one-instruction
vectors of the spec, and a witness for the hypotheses of every obligation that has some.
-/

namespace Sys2Proof.Tests

open Sys2Proof Sys2Proof.Machine

-- One theorem after the other: many `decide +kernel` at a time each hold a thread that waits for the kernel.
set_option Elab.async false

/-! ## States and helpers -/

/-- The start state S0 of spec/95_test_vectors.md section 2: native mode, kernel, superpages, FPE and BSE. -/
def native : State :=
  { State.reset with
    pc := 0xFFFFFC0000010000
    idu := { Idu.reset with icsr := 0x2024020000, palBase := 2, iplr := 31 }
    mtu := { Mtu.reset with mcsr := 4 }
    mem := Memory.writeBytes (Memory.writeBytes [] 0x20000 0x1122334455667788 8) 0x20008 0xFFEEDDCCBBAA9988 8 }

/-- S0 in PALmode. -/
def pal : State := { native with pc := 0x9001 }

/-- S0 with an owed ARITH entry. -/
def owing : State := { native with arithPending := true }

/-- S0 in user mode. -/
def user : State := { native with idu := { native.idu with icm := 3 }, mtu := { native.mtu with dtbCm := 3 } }

/-- S0 with floating point and the byte/word extension off. -/
def disabled : State := { native with idu := { native.idu with icsr := 0x2020000000 } }

/-- The data address of S0: the superpage address of physical address 20000 hex. -/
def dataAddress : Quad := 0xFFFFFC0000020000

/-- The instruction goes on, and the state after it satisfies a test. -/
def after (i : Instr) (s : State) (p : State → Bool) : Bool :=
  match exec i s with
  | .next t => p t
  | .fault _ => false
  | .refused _ => false

/-- As `after`, for the instruction that a word decodes to. -/
noncomputable def afterWord (w : Long) (s : State) (p : State → Bool) : Bool :=
  match decode w with
  | .instr i => after i s p
  | .rejected _ => false

/-- The result is a next state. -/
def isNext (r : Result State) : Bool :=
  match r with
  | .next _ => true
  | .fault _ => false
  | .refused _ => false

/-- Every word decodes to its instruction. -/
noncomputable def decodesTo (l : List (Long × Instr)) : Bool := l.all fun p => decode p.1 == .instr p.2

/-- The word leaves R3 with the last value, from S0 with R1 and R2 as given, and advances. -/
noncomputable def integerVectors (l : List (Long × Quad × Quad × Quad)) : Bool :=
  l.all fun (w, a, b, r) => afterWord w ((native.writeReg 1 a).writeReg 2 b) fun t =>
    t.readReg 3 == r && t.pc == native.pc + 4 && !t.arithPending

/-- The word, from S0 with F1, F2 and FPCR as given, leaves F3, FPCR and EXC_SUM as given, and an ARITH entry is owed when
EXC_SUM is not zero. -/
noncomputable def floatingVectors (l : List (Long × Quad × Quad × Quad × Quad × Quad × Quad)) : Bool :=
  l.all fun (w, a, b, fpcr, r, fpcr', sum) =>
    afterWord w { (native.writeFreg 1 a).writeFreg 2 b with fpcr := slice fpcr 49 14 } fun t =>
      t.readFreg 3 == r && t.fpcrValue == fpcr' && place t.idu.excSum 10 == sum && t.arithPending == (sum != 0)

/-! ## Decoding: the words of spec/opcode_table.json with operands (30_encoding.md R452 to R484) -/

theorem test_decode_memory : decodesTo
    [ (0x2022FFFF, .lda 1 2 0xFFFF), (0x24228000, .ldah 1 2 0x8000), (0x28220007, .ldbu 1 2 0x0007),
      (0x2C22FFFF, .ldq_u 1 2 0xFFFF), (0x30228000, .ldwu 1 2 0x8000), (0x34220007, .stw 1 2 0x0007),
      (0x3822FFFF, .stb 1 2 0xFFFF), (0x3C228000, .stq_u 1 2 0x8000), (0xA0220007, .ldl 1 2 0x0007),
      (0xA422FFFF, .ldq 1 2 0xFFFF), (0xA8228000, .ldl_l 1 2 0x8000), (0xAC220007, .ldq_l 1 2 0x0007),
      (0xB022FFFF, .stl 1 2 0xFFFF), (0xB4228000, .stq 1 2 0x8000), (0xB8220007, .stl_c 1 2 0x0007),
      (0xBC22FFFF, .stq_c 1 2 0xFFFF), (0x80228000, .ldf 1 2 0x8000), (0x84220007, .ldg 1 2 0x0007),
      (0x8822FFFF, .lds 1 2 0xFFFF), (0x8C228000, .ldt 1 2 0x8000), (0x90220007, .stf 1 2 0x0007),
      (0x9422FFFF, .stg 1 2 0xFFFF), (0x98228000, .sts 1 2 0x8000), (0x9C220007, .stt 1 2 0x0007) ] = true := by
  decide +kernel

theorem test_decode_control : decodesTo
    [ (0xC03FFFFF, .br 1 0x1FFFFF), (0xD0300000, .bsr 1 0x100000), (0xE0200003, .blbc 1 0x000003),
      (0xE43FFFFF, .beq 1 0x1FFFFF), (0xE8300000, .blt 1 0x100000), (0xEC200003, .ble 1 0x000003),
      (0xF03FFFFF, .blbs 1 0x1FFFFF), (0xF4300000, .bne 1 0x100000), (0xF8200003, .bge 1 0x000003),
      (0xFC3FFFFF, .bgt 1 0x1FFFFF), (0xC4300000, .fbeq 1 0x100000), (0xC8200003, .fblt 1 0x000003),
      (0xCC3FFFFF, .fble 1 0x1FFFFF), (0xD4300000, .fbne 1 0x100000), (0xD8200003, .fbge 1 0x000003),
      (0xDC3FFFFF, .fbgt 1 0x1FFFFF), (0x68222001, .jmp 1 2 0x2001), (0x68226001, .jsr 1 2 0x2001),
      (0x6822A001, .ret 1 2 0x2001), (0x6822E001, .jsr_coroutine 1 2 0x2001) ] = true := by
  decide +kernel

theorem test_decode_integer_arithmetic : decodesTo
    [ (0x40220003, .addl 1 (.reg 2) 3), (0x4034B803, .addl_v 1 (.lit 0xA5) 3), (0x40220403, .addq 1 (.reg 2) 3),
      (0x4034BC03, .addq_v 1 (.lit 0xA5) 3), (0x40220123, .subl 1 (.reg 2) 3), (0x4034B923, .subl_v 1 (.lit 0xA5) 3),
      (0x40220523, .subq 1 (.reg 2) 3), (0x4034BD23, .subq_v 1 (.lit 0xA5) 3), (0x40220043, .s4addl 1 (.reg 2) 3),
      (0x4034B243, .s8addl 1 (.lit 0xA5) 3), (0x40220443, .s4addq 1 (.reg 2) 3),
      (0x4034B643, .s8addq 1 (.lit 0xA5) 3), (0x40220163, .s4subl 1 (.reg 2) 3),
      (0x4034B363, .s8subl 1 (.lit 0xA5) 3), (0x40220563, .s4subq 1 (.reg 2) 3),
      (0x4034B763, .s8subq 1 (.lit 0xA5) 3), (0x402205A3, .cmpeq 1 (.reg 2) 3), (0x4034B9A3, .cmplt 1 (.lit 0xA5) 3),
      (0x40220DA3, .cmple 1 (.reg 2) 3), (0x4034B3A3, .cmpult 1 (.lit 0xA5) 3), (0x402207A3, .cmpule 1 (.reg 2) 3),
      (0x4034B1E3, .cmpbge 1 (.lit 0xA5) 3) ] = true := by
  decide +kernel

theorem test_decode_logical : decodesTo
    [ (0x44220003, .and 1 (.reg 2) 3), (0x4434B103, .bic 1 (.lit 0xA5) 3), (0x44220403, .bis 1 (.reg 2) 3),
      (0x4434B503, .ornot 1 (.lit 0xA5) 3), (0x44220803, .xor 1 (.reg 2) 3), (0x4434B903, .eqv 1 (.lit 0xA5) 3),
      (0x44220483, .cmoveq 1 (.reg 2) 3), (0x4434B4C3, .cmovne 1 (.lit 0xA5) 3), (0x44220883, .cmovlt 1 (.reg 2) 3),
      (0x4434BC83, .cmovle 1 (.lit 0xA5) 3), (0x44220CC3, .cmovgt 1 (.reg 2) 3),
      (0x4434B8C3, .cmovge 1 (.lit 0xA5) 3), (0x44220283, .cmovlbs 1 (.reg 2) 3),
      (0x4434B2C3, .cmovlbc 1 (.lit 0xA5) 3), (0x47E20C23, .amask (.reg 2) 3), (0x47E03D83, .implver 3) ] = true := by
  decide +kernel

theorem test_decode_shift_and_byte : decodesTo
    [ (0x48220723, .sll 1 (.reg 2) 3), (0x4834B683, .srl 1 (.lit 0xA5) 3), (0x48220783, .sra 1 (.reg 2) 3),
      (0x4834B603, .zap 1 (.lit 0xA5) 3), (0x48220623, .zapnot 1 (.reg 2) 3), (0x4834B0C3, .extbl 1 (.lit 0xA5) 3),
      (0x482202C3, .extwl 1 (.reg 2) 3), (0x4834B4C3, .extll 1 (.lit 0xA5) 3), (0x482206C3, .extql 1 (.reg 2) 3),
      (0x4834BB43, .extwh 1 (.lit 0xA5) 3), (0x48220D43, .extlh 1 (.reg 2) 3), (0x4834BF43, .extqh 1 (.lit 0xA5) 3),
      (0x48220163, .insbl 1 (.reg 2) 3), (0x4834B363, .inswl 1 (.lit 0xA5) 3), (0x48220563, .insll 1 (.reg 2) 3),
      (0x4834B763, .insql 1 (.lit 0xA5) 3), (0x48220AE3, .inswh 1 (.reg 2) 3), (0x4834BCE3, .inslh 1 (.lit 0xA5) 3),
      (0x48220EE3, .insqh 1 (.reg 2) 3), (0x4834B043, .mskbl 1 (.lit 0xA5) 3), (0x48220243, .mskwl 1 (.reg 2) 3),
      (0x4834B443, .mskll 1 (.lit 0xA5) 3), (0x48220643, .mskql 1 (.reg 2) 3), (0x4834BA43, .mskwh 1 (.lit 0xA5) 3),
      (0x48220C43, .msklh 1 (.reg 2) 3), (0x4834BE43, .mskqh 1 (.lit 0xA5) 3) ] = true := by
  decide +kernel

theorem test_decode_multiply : decodesTo
    [ (0x4C220003, .mull 1 (.reg 2) 3), (0x4C34B803, .mull_v 1 (.lit 0xA5) 3), (0x4C220403, .mulq 1 (.reg 2) 3),
      (0x4C34BC03, .mulq_v 1 (.lit 0xA5) 3), (0x4C220603, .umulh 1 (.reg 2) 3) ] = true := by
  decide +kernel

theorem test_decode_sign_extension : decodesTo
    [ (0x73E20003, .sextb (.reg 2) 3), (0x73F4B023, .sextw (.lit 0xA5) 3) ] = true := by
  decide +kernel

theorem test_decode_opcode_17 : decodesTo
    [ (0x5FE20203, .cvtlq 2 3), (0x5C220403, .cpys 1 2 3), (0x5C220423, .cpysn 1 2 3), (0x5C220443, .cpyse 1 2 3),
      (0x5C210481, .mt_fpcr 1 1 1), (0x5C2104A1, .mf_fpcr 1 1 1), (0x5C220543, .fcmoveq 1 2 3),
      (0x5C220563, .fcmovne 1 2 3), (0x5C220583, .fcmovlt 1 2 3), (0x5C2205A3, .fcmovge 1 2 3),
      (0x5C2205C3, .fcmovle 1 2 3), (0x5C2205E3, .fcmovgt 1 2 3), (0x5FE20603, .cvtql 2 3),
      (0x5FE22603, .cvtql_v 2 3), (0x5FE2A603, .cvtql_sv 2 3) ] = true := by
  decide +kernel

theorem test_decode_ieee_1 : decodesTo
    [ (0x58221003, .adds 1 2 3), (0x58220003, .adds_c 1 2 3), (0x58220803, .adds_m 1 2 3),
      (0x58221803, .adds_d 1 2 3), (0x58223003, .adds_u 1 2 3), (0x58222003, .adds_uc 1 2 3),
      (0x58222803, .adds_um 1 2 3), (0x58223803, .adds_ud 1 2 3), (0x5822B003, .adds_su 1 2 3),
      (0x5822A003, .adds_suc 1 2 3), (0x5822A803, .adds_sum 1 2 3), (0x5822B803, .adds_sud 1 2 3),
      (0x5822F003, .adds_sui 1 2 3), (0x5822E003, .adds_suic 1 2 3), (0x5822E803, .adds_suim 1 2 3),
      (0x5822F803, .adds_suid 1 2 3), (0x58221403, .addt 1 2 3), (0x58220403, .addt_c 1 2 3),
      (0x58220C03, .addt_m 1 2 3), (0x58221C03, .addt_d 1 2 3), (0x58223403, .addt_u 1 2 3),
      (0x58222403, .addt_uc 1 2 3), (0x58222C03, .addt_um 1 2 3), (0x58223C03, .addt_ud 1 2 3),
      (0x5822B403, .addt_su 1 2 3), (0x5822A403, .addt_suc 1 2 3), (0x5822AC03, .addt_sum 1 2 3),
      (0x5822BC03, .addt_sud 1 2 3), (0x5822F403, .addt_sui 1 2 3), (0x5822E403, .addt_suic 1 2 3) ] = true := by
  decide +kernel

theorem test_decode_ieee_2 : decodesTo
    [ (0x5822EC03, .addt_suim 1 2 3), (0x5822FC03, .addt_suid 1 2 3), (0x58221023, .subs 1 2 3),
      (0x58220023, .subs_c 1 2 3), (0x58220823, .subs_m 1 2 3), (0x58221823, .subs_d 1 2 3),
      (0x58223023, .subs_u 1 2 3), (0x58222023, .subs_uc 1 2 3), (0x58222823, .subs_um 1 2 3),
      (0x58223823, .subs_ud 1 2 3), (0x5822B023, .subs_su 1 2 3), (0x5822A023, .subs_suc 1 2 3),
      (0x5822A823, .subs_sum 1 2 3), (0x5822B823, .subs_sud 1 2 3), (0x5822F023, .subs_sui 1 2 3),
      (0x5822E023, .subs_suic 1 2 3), (0x5822E823, .subs_suim 1 2 3), (0x5822F823, .subs_suid 1 2 3),
      (0x58221423, .subt 1 2 3), (0x58220423, .subt_c 1 2 3), (0x58220C23, .subt_m 1 2 3),
      (0x58221C23, .subt_d 1 2 3), (0x58223423, .subt_u 1 2 3), (0x58222423, .subt_uc 1 2 3),
      (0x58222C23, .subt_um 1 2 3), (0x58223C23, .subt_ud 1 2 3), (0x5822B423, .subt_su 1 2 3),
      (0x5822A423, .subt_suc 1 2 3), (0x5822AC23, .subt_sum 1 2 3), (0x5822BC23, .subt_sud 1 2 3) ] = true := by
  decide +kernel

theorem test_decode_ieee_3 : decodesTo
    [ (0x5822F423, .subt_sui 1 2 3), (0x5822E423, .subt_suic 1 2 3), (0x5822EC23, .subt_suim 1 2 3),
      (0x5822FC23, .subt_suid 1 2 3), (0x58221043, .muls 1 2 3), (0x58220043, .muls_c 1 2 3),
      (0x58220843, .muls_m 1 2 3), (0x58221843, .muls_d 1 2 3), (0x58223043, .muls_u 1 2 3),
      (0x58222043, .muls_uc 1 2 3), (0x58222843, .muls_um 1 2 3), (0x58223843, .muls_ud 1 2 3),
      (0x5822B043, .muls_su 1 2 3), (0x5822A043, .muls_suc 1 2 3), (0x5822A843, .muls_sum 1 2 3),
      (0x5822B843, .muls_sud 1 2 3), (0x5822F043, .muls_sui 1 2 3), (0x5822E043, .muls_suic 1 2 3),
      (0x5822E843, .muls_suim 1 2 3), (0x5822F843, .muls_suid 1 2 3), (0x58221443, .mult 1 2 3),
      (0x58220443, .mult_c 1 2 3), (0x58220C43, .mult_m 1 2 3), (0x58221C43, .mult_d 1 2 3),
      (0x58223443, .mult_u 1 2 3), (0x58222443, .mult_uc 1 2 3), (0x58222C43, .mult_um 1 2 3),
      (0x58223C43, .mult_ud 1 2 3), (0x5822B443, .mult_su 1 2 3), (0x5822A443, .mult_suc 1 2 3) ] = true := by
  decide +kernel

theorem test_decode_ieee_4 : decodesTo
    [ (0x5822AC43, .mult_sum 1 2 3), (0x5822BC43, .mult_sud 1 2 3), (0x5822F443, .mult_sui 1 2 3),
      (0x5822E443, .mult_suic 1 2 3), (0x5822EC43, .mult_suim 1 2 3), (0x5822FC43, .mult_suid 1 2 3),
      (0x58221063, .divs 1 2 3), (0x58220063, .divs_c 1 2 3), (0x58220863, .divs_m 1 2 3),
      (0x58221863, .divs_d 1 2 3), (0x58223063, .divs_u 1 2 3), (0x58222063, .divs_uc 1 2 3),
      (0x58222863, .divs_um 1 2 3), (0x58223863, .divs_ud 1 2 3), (0x5822B063, .divs_su 1 2 3),
      (0x5822A063, .divs_suc 1 2 3), (0x5822A863, .divs_sum 1 2 3), (0x5822B863, .divs_sud 1 2 3),
      (0x5822F063, .divs_sui 1 2 3), (0x5822E063, .divs_suic 1 2 3), (0x5822E863, .divs_suim 1 2 3),
      (0x5822F863, .divs_suid 1 2 3), (0x58221463, .divt 1 2 3), (0x58220463, .divt_c 1 2 3),
      (0x58220C63, .divt_m 1 2 3), (0x58221C63, .divt_d 1 2 3), (0x58223463, .divt_u 1 2 3),
      (0x58222463, .divt_uc 1 2 3), (0x58222C63, .divt_um 1 2 3), (0x58223C63, .divt_ud 1 2 3) ] = true := by
  decide +kernel

theorem test_decode_ieee_5 : decodesTo
    [ (0x5822B463, .divt_su 1 2 3), (0x5822A463, .divt_suc 1 2 3), (0x5822AC63, .divt_sum 1 2 3),
      (0x5822BC63, .divt_sud 1 2 3), (0x5822F463, .divt_sui 1 2 3), (0x5822E463, .divt_suic 1 2 3),
      (0x5822EC63, .divt_suim 1 2 3), (0x5822FC63, .divt_suid 1 2 3), (0x5BE21583, .cvtts 2 3),
      (0x5BE20583, .cvtts_c 2 3), (0x5BE20D83, .cvtts_m 2 3), (0x5BE21D83, .cvtts_d 2 3), (0x5BE23583, .cvtts_u 2 3),
      (0x5BE22583, .cvtts_uc 2 3), (0x5BE22D83, .cvtts_um 2 3), (0x5BE23D83, .cvtts_ud 2 3),
      (0x5BE2B583, .cvtts_su 2 3), (0x5BE2A583, .cvtts_suc 2 3), (0x5BE2AD83, .cvtts_sum 2 3),
      (0x5BE2BD83, .cvtts_sud 2 3), (0x5BE2F583, .cvtts_sui 2 3), (0x5BE2E583, .cvtts_suic 2 3),
      (0x5BE2ED83, .cvtts_suim 2 3), (0x5BE2FD83, .cvtts_suid 2 3), (0x5BE21783, .cvtqs 2 3),
      (0x5BE20783, .cvtqs_c 2 3), (0x5BE20F83, .cvtqs_m 2 3), (0x5BE21F83, .cvtqs_d 2 3),
      (0x5BE2F783, .cvtqs_sui 2 3), (0x5BE2E783, .cvtqs_suic 2 3) ] = true := by
  decide +kernel

theorem test_decode_ieee_6 : decodesTo
    [ (0x5BE2EF83, .cvtqs_suim 2 3), (0x5BE2FF83, .cvtqs_suid 2 3), (0x5BE217C3, .cvtqt 2 3),
      (0x5BE207C3, .cvtqt_c 2 3), (0x5BE20FC3, .cvtqt_m 2 3), (0x5BE21FC3, .cvtqt_d 2 3),
      (0x5BE2F7C3, .cvtqt_sui 2 3), (0x5BE2E7C3, .cvtqt_suic 2 3), (0x5BE2EFC3, .cvtqt_suim 2 3),
      (0x5BE2FFC3, .cvtqt_suid 2 3), (0x58221483, .cmptun 1 2 3), (0x5822B483, .cmptun_su 1 2 3),
      (0x582214A3, .cmpteq 1 2 3), (0x5822B4A3, .cmpteq_su 1 2 3), (0x582214C3, .cmptlt 1 2 3),
      (0x5822B4C3, .cmptlt_su 1 2 3), (0x582214E3, .cmptle 1 2 3), (0x5822B4E3, .cmptle_su 1 2 3),
      (0x5BE25583, .cvtst 2 3), (0x5BE2D583, .cvtst_s 2 3), (0x5BE215E3, .cvttq 2 3), (0x5BE205E3, .cvttq_c 2 3),
      (0x5BE20DE3, .cvttq_m 2 3), (0x5BE21DE3, .cvttq_d 2 3), (0x5BE235E3, .cvttq_v 2 3),
      (0x5BE225E3, .cvttq_vc 2 3), (0x5BE22DE3, .cvttq_vm 2 3), (0x5BE23DE3, .cvttq_vd 2 3),
      (0x5BE2B5E3, .cvttq_sv 2 3), (0x5BE2A5E3, .cvttq_svc 2 3) ] = true := by
  decide +kernel

theorem test_decode_ieee_7 : decodesTo
    [ (0x5BE2ADE3, .cvttq_svm 2 3), (0x5BE2BDE3, .cvttq_svd 2 3), (0x5BE2F5E3, .cvttq_svi 2 3),
      (0x5BE2E5E3, .cvttq_svic 2 3), (0x5BE2EDE3, .cvttq_svim 2 3), (0x5BE2FDE3, .cvttq_svid 2 3) ] = true := by
  decide +kernel

theorem test_decode_vax_1 : decodesTo
    [ (0x54221003, .addf 1 2 3), (0x54220003, .addf_c 1 2 3), (0x54223003, .addf_u 1 2 3),
      (0x54222003, .addf_uc 1 2 3), (0x54229003, .addf_s 1 2 3), (0x54228003, .addf_sc 1 2 3),
      (0x5422B003, .addf_su 1 2 3), (0x5422A003, .addf_suc 1 2 3), (0x54221403, .addg 1 2 3),
      (0x54220403, .addg_c 1 2 3), (0x54223403, .addg_u 1 2 3), (0x54222403, .addg_uc 1 2 3),
      (0x54229403, .addg_s 1 2 3), (0x54228403, .addg_sc 1 2 3), (0x5422B403, .addg_su 1 2 3),
      (0x5422A403, .addg_suc 1 2 3), (0x54221023, .subf 1 2 3), (0x54220023, .subf_c 1 2 3),
      (0x54223023, .subf_u 1 2 3), (0x54222023, .subf_uc 1 2 3), (0x54229023, .subf_s 1 2 3),
      (0x54228023, .subf_sc 1 2 3), (0x5422B023, .subf_su 1 2 3), (0x5422A023, .subf_suc 1 2 3),
      (0x54221423, .subg 1 2 3), (0x54220423, .subg_c 1 2 3), (0x54223423, .subg_u 1 2 3),
      (0x54222423, .subg_uc 1 2 3), (0x54229423, .subg_s 1 2 3), (0x54228423, .subg_sc 1 2 3) ] = true := by
  decide +kernel

theorem test_decode_vax_2 : decodesTo
    [ (0x5422B423, .subg_su 1 2 3), (0x5422A423, .subg_suc 1 2 3), (0x54221043, .mulf 1 2 3),
      (0x54220043, .mulf_c 1 2 3), (0x54223043, .mulf_u 1 2 3), (0x54222043, .mulf_uc 1 2 3),
      (0x54229043, .mulf_s 1 2 3), (0x54228043, .mulf_sc 1 2 3), (0x5422B043, .mulf_su 1 2 3),
      (0x5422A043, .mulf_suc 1 2 3), (0x54221443, .mulg 1 2 3), (0x54220443, .mulg_c 1 2 3),
      (0x54223443, .mulg_u 1 2 3), (0x54222443, .mulg_uc 1 2 3), (0x54229443, .mulg_s 1 2 3),
      (0x54228443, .mulg_sc 1 2 3), (0x5422B443, .mulg_su 1 2 3), (0x5422A443, .mulg_suc 1 2 3),
      (0x54221063, .divf 1 2 3), (0x54220063, .divf_c 1 2 3), (0x54223063, .divf_u 1 2 3),
      (0x54222063, .divf_uc 1 2 3), (0x54229063, .divf_s 1 2 3), (0x54228063, .divf_sc 1 2 3),
      (0x5422B063, .divf_su 1 2 3), (0x5422A063, .divf_suc 1 2 3), (0x54221463, .divg 1 2 3),
      (0x54220463, .divg_c 1 2 3), (0x54223463, .divg_u 1 2 3), (0x54222463, .divg_uc 1 2 3) ] = true := by
  decide +kernel

theorem test_decode_vax_3 : decodesTo
    [ (0x54229463, .divg_s 1 2 3), (0x54228463, .divg_sc 1 2 3), (0x5422B463, .divg_su 1 2 3),
      (0x5422A463, .divg_suc 1 2 3), (0x57E213C3, .cvtdg 2 3), (0x57E203C3, .cvtdg_c 2 3),
      (0x57E233C3, .cvtdg_u 2 3), (0x57E223C3, .cvtdg_uc 2 3), (0x57E293C3, .cvtdg_s 2 3),
      (0x57E283C3, .cvtdg_sc 2 3), (0x57E2B3C3, .cvtdg_su 2 3), (0x57E2A3C3, .cvtdg_suc 2 3),
      (0x57E21583, .cvtgf 2 3), (0x57E20583, .cvtgf_c 2 3), (0x57E23583, .cvtgf_u 2 3), (0x57E22583, .cvtgf_uc 2 3),
      (0x57E29583, .cvtgf_s 2 3), (0x57E28583, .cvtgf_sc 2 3), (0x57E2B583, .cvtgf_su 2 3),
      (0x57E2A583, .cvtgf_suc 2 3), (0x57E215A3, .cvtgd 2 3), (0x57E205A3, .cvtgd_c 2 3), (0x57E235A3, .cvtgd_u 2 3),
      (0x57E225A3, .cvtgd_uc 2 3), (0x57E295A3, .cvtgd_s 2 3), (0x57E285A3, .cvtgd_sc 2 3),
      (0x57E2B5A3, .cvtgd_su 2 3), (0x57E2A5A3, .cvtgd_suc 2 3), (0x57E215E3, .cvtgq 2 3),
      (0x57E205E3, .cvtgq_c 2 3) ] = true := by
  decide +kernel

theorem test_decode_vax_4 : decodesTo
    [ (0x57E235E3, .cvtgq_v 2 3), (0x57E225E3, .cvtgq_vc 2 3), (0x57E295E3, .cvtgq_s 2 3),
      (0x57E285E3, .cvtgq_sc 2 3), (0x57E2B5E3, .cvtgq_sv 2 3), (0x57E2A5E3, .cvtgq_svc 2 3),
      (0x57E21783, .cvtqf 2 3), (0x57E20783, .cvtqf_c 2 3), (0x57E217C3, .cvtqg 2 3), (0x57E207C3, .cvtqg_c 2 3),
      (0x542214A3, .cmpgeq 1 2 3), (0x542294A3, .cmpgeq_s 1 2 3), (0x542214C3, .cmpglt 1 2 3),
      (0x542294C3, .cmpglt_s 1 2 3), (0x542214E3, .cmpgle 1 2 3), (0x542294E3, .cmpgle_s 1 2 3) ] = true := by
  decide +kernel

theorem test_decode_miscellaneous : decodesTo
    [ (0x63FF0000, .trapb), (0x63FF0400, .excb), (0x63FF4000, .mb), (0x63FF4400, .wmb), (0x63E28000, .fetch 2),
      (0x63E2A000, .fetch_m 2), (0x603FC000, .rpcc 1), (0x603FE000, .rc 1), (0x603FF000, .rs 1) ] = true := by
  decide +kernel

theorem test_decode_palcode : decodesTo
    [ (0x00000083, .call_pal 0x83), (0x6421020F, .hw_mfpr 1 1 0x20F),
      (0x6C22ABF8, .hw_ld 1 2 true false true false true false 0x3F8), (0x7421020F, .hw_mtpr 1 1 0x20F),
      (0x7BFF8000, .hw_rei 0), (0x7BFFC000, .hw_rei_stall 0),
      (0x7C225601, .hw_st 1 2 false true false true false true 0x201) ] = true := by
  decide +kernel

/-! ## Well-formedness: an ill-formed term for each check -/

theorem test_wf_hw_st_13 : (Instr.hw_st 1 2 true false true false false false 0).wf = false := by decide

theorem test_wf_hw_st_11 : (Instr.hw_st 1 2 true false false false true false 0).wf = false := by decide

theorem test_wf_hw_rei : (Instr.hw_rei 0x2000).wf = false := by decide

theorem test_wf_hw_rei_stall : (Instr.hw_rei_stall 1).wf = false := by decide

theorem test_wf_hw_mfpr : (Instr.hw_mfpr 1 2 0x10E).wf = false := by decide

theorem test_wf_hw_mtpr : (Instr.hw_mtpr 1 2 0x10E).wf = false := by decide

theorem test_wf_mt_fpcr : (Instr.mt_fpcr 1 1 2).wf = false := by decide

theorem test_wf_mf_fpcr : (Instr.mf_fpcr 1 2 1).wf = false := by decide

theorem test_wf_accepts :
    ([.addl 1 (.reg 2) 3, .hw_st 1 2 true true false true false true 5, .hw_rei 0, .hw_mtpr 1 1 0x10E, .mt_fpcr 1 1 1] :
      List Instr).all Instr.wf = true := by
  decide

/-! ## Refused words -/

/-- A reserved opcode (30_encoding.md R476), an unused function code (R475), HW_REI with TYP 01 (R483). -/
theorem test_decode_rejects :
    ([0x04000000, 0x50000000, 0x40000FE0, 0x78004000, 0x58000000 ||| 0x3E0] : List Long).all
      (fun w => match decode w with | .rejected _ => true | .instr _ => false) = true := by
  decide +kernel

/-- The table's bit numbering, and a word placed where the first step after reset fetches. -/
theorem test_withFetchWord : decodeTableWord 32 0x40220003 = some (.addl 1 (.reg 2) 3) ∧
    Memory.long (State.reset.withFetchWord 32 0x40220003).mem 0 = 0x40220003 := by
  decide +kernel

/-- The first step after reset runs it. -/
theorem test_first_step :
    (match step ((State.reset.writeReg 2 5).withFetchWord 32 0x40220003) with
      | .next t => t.readReg 3 == 5 && t.pc == 5
      | .fault _ => false
      | .refused _ => false) = true := by
  decide +kernel

/-! ## Loads and stores (spec/95_test_vectors.md section 2.1) -/

/-- Word and R2 after it, with R1 = `dataAddress`. -/
theorem test_load_vectors :
    ([ (0x2041FFFF, 0xFFFFFC000001FFFF), (0x205F8000, 0xFFFFFFFFFFFF8000), (0x245F7FFF, 0x7FFF0000),
       (0xA0410008, 0xFFFFFFFFBBAA9988), (0xA4410008, 0xFFEEDDCCBBAA9988), (0x2C41000D, 0xFFEEDDCCBBAA9988),
       (0x2841000F, 0xFF), (0x3041000A, 0xBBAA), (0xAC410008, 0xFFEEDDCCBBAA9988), (0xA8410008, 0xFFFFFFFFBBAA9988) ] :
      List (Long × Quad)).all
      (fun p => afterWord p.1 (native.writeReg 1 dataAddress) fun t => t.readReg 2 == p.2) = true := by
  decide +kernel

/-- A locked load sets the lock; M_BIG_ENDIAN inverts bit 2 of a longword's address. -/
theorem test_load_effects :
    afterWord 0xAC410008 (native.writeReg 1 dataAddress) (fun t => t.lockFlag && t.lockPa == 0x20008) = true ∧
      afterWord 0xA0410000 ({ native with mtu := { native.mtu with mcsr := 5 } }.writeReg 1 dataAddress)
        (fun t => t.readReg 2 == 0x11223344) = true := by
  decide +kernel

/-- Word, the address of a quadword of memory, and its value after, with R1 = `dataAddress`, R3 = AABBCCDDDEADBEEF. -/
theorem test_store_vectors :
    ([ (0xB0610004, 0x20000, 0xDEADBEEF55667788), (0xB4610008, 0x20008, 0xAABBCCDDDEADBEEF),
       (0x38610001, 0x20000, 0x112233445566EF88), (0x34610006, 0x20000, 0xBEEF334455667788),
       (0x3C610007, 0x20000, 0xAABBCCDDDEADBEEF), (0xB7E10000, 0x20000, 0) ] : List (Long × Nat × Quad)).all
      (fun p => afterWord p.1 ((native.writeReg 1 dataAddress).writeReg 3 0xAABBCCDDDEADBEEF)
        fun t => Memory.read t.mem p.2.1 8 == p.2.2) = true := by
  decide +kernel

/-- STQ_C with the lock stores and writes 1; without it neither stores nor writes 1. -/
theorem test_conditional_stores :
    afterWord 0xBC610008 ({ native with lockFlag := true }.writeReg 1 dataAddress |>.writeReg 3 0x77)
        (fun t => t.readReg 3 == 1 && Memory.read t.mem 0x20008 8 == 0x77 && !t.lockFlag) = true ∧
      afterWord 0xBC610008 (native.writeReg 1 dataAddress |>.writeReg 3 0x77)
        (fun t => t.readReg 3 == 0 && Memory.read t.mem 0x20008 8 == 0xFFEEDDCCBBAA9988) = true := by
  decide +kernel

/-- Word, the quadword at 20010 hex, and F2 after it. -/
theorem test_floating_load_vectors :
    ([ (0x88410010, 0xC0490FDB, 0xC00921FB60000000), (0x88410010, 0x7F800000, 0x7FF0000000000000),
       (0x88410010, 0x00000001, 0x20000000), (0x8C410010, 0x400921FB54442D18, 0x400921FB54442D18),
       (0x80410010, 0x0FDBC149, 0xC02921FB60000000), (0x84410010, 0x2D18544421FBC029, 0xC02921FB54442D18) ] :
      List (Long × Quad × Quad)).all
      (fun p => afterWord p.1 ({ native with mem := Memory.writeBytes native.mem 0x20010 p.2.1 8 }.writeReg 1 dataAddress)
        fun t => t.readFreg 2 == p.2.2) = true := by
  decide +kernel

/-- Word, F2, and the quadword at 20010 hex after it. -/
theorem test_floating_store_vectors :
    ([ (0x98410010, 0xC00921FB60000000, 0xC0490FDB), (0x9C410010, 0x400921FB54442D18, 0x400921FB54442D18),
       (0x90410010, 0xC02921FB60000000, 0x0FDBC149), (0x94410010, 0xC02921FB54442D18, 0x2D18544421FBC029) ] :
      List (Long × Quad × Quad)).all
      (fun p => afterWord p.1 ((native.writeReg 1 dataAddress).writeFreg 2 p.2.1)
        fun t => Memory.read t.mem 0x20010 8 == p.2.2) = true := by
  decide +kernel

/-- Word, R1, and the pc, MM_STAT and VA that its exception leaves. -/
theorem test_reference_traps :
    ([ (0xA0410002, 0xFFFFFC0000020000, 0x8301, 0x14080, 0xFFFFFC0000020002),
       (0xA4410000, 0x0000040000000000, 0x8381, 0x148A2, 0x0000040000000000),
       (0xA4410000, 0x0000000000010000, 0x8201, 0x14890, 0x0000000000010000),
       (0xB4410000, 0x0000000000010000, 0x8201, 0x16891, 0x0000000000010000),
       (0x8BE10002, 0xFFFFFC0000020000, 0x8301, 0x117C0, 0xFFFFFC0000020002) ] :
      List (Long × Quad × Quad × BitVec 17 × Quad)).all
      (fun p => afterWord p.1 (native.writeReg 1 p.2.1) fun t =>
        t.pc == p.2.2.1 && t.mtu.mmStat == p.2.2.2.1 && t.mtu.va == p.2.2.2.2 && t.mtu.mmLock &&
          t.idu.excAddr == native.pc) = true := by
  decide +kernel

/-! ## Control (section 2.2) -/

/-- Word, R1, and the pc after it. -/
theorem test_branch_vectors :
    ([ (0xE42FFFFF, 0, 0xFFFFFC0000410000), (0xF4300000, 1, 0xFFFFFBFFFFC10004), (0xF4200008, 0, 0xFFFFFC0000010004),
       (0xE8200008, 0x8000000000000000, 0xFFFFFC0000010024), (0xF8200008, 0x8000000000000000, 0xFFFFFC0000010004),
       (0xEC200008, 0, 0xFFFFFC0000010024), (0xFC200008, 0, 0xFFFFFC0000010004),
       (0xFC200008, 0x7FFFFFFFFFFFFFFF, 0xFFFFFC0000010024), (0xE0200008, 0xFFFFFFFFFFFFFFFE, 0xFFFFFC0000010024),
       (0xF0200008, 0xFFFFFFFFFFFFFFFE, 0xFFFFFC0000010004), (0xC3FFFFFF, 0, 0xFFFFFC0000010000),
       (0x6BE10003, 0xFFFFFC0000010107, 0xFFFFFC0000010104) ] : List (Long × Quad × Quad)).all
      (fun p => afterWord p.1 (native.writeReg 1 p.2.1) fun t => t.pc == p.2.2) = true := by
  decide +kernel

/-- JSR R26,(R26) reads its target first; a PALmode JMP keeps bit 0 of the target and of the return address. -/
theorem test_jumps :
    afterWord 0x6B5A4000 (native.writeReg 26 0xFFFFFC0000010200)
        (fun t => t.readReg 26 == 0xFFFFFC0000010004 && t.pc == 0xFFFFFC0000010200) = true ∧
      afterWord 0x68640000 (pal.writeReg 4 0x20001) (fun t => t.readReg 3 == 0x9005 && t.pc == 0x20001) = true := by
  decide +kernel

/-- FBLT does not take -0, FBEQ does. -/
theorem test_floating_branches :
    after (.fblt 1 8) (native.writeFreg 1 0x8000000000000000) (fun t => t.pc == native.pc + 4) = true ∧
      after (.fbeq 1 8) (native.writeFreg 1 0x8000000000000000) (fun t => t.pc == native.pc + 36) = true := by
  decide +kernel

/-! ## Traps of arithmetic, miscellaneous and PALcode instructions -/

/-- SUBQ/V overflows: the truncated result, EXC_SUM<IOV>, EXC_MASK of R3, an owed ARITH entry. -/
theorem test_overflow :
    afterWord 0x43E20D23 (native.writeReg 2 0x8000000000000000)
      (fun t => t.readReg 3 == 0x8000000000000000 && t.idu.excSum == 0x40 && t.idu.excMaskInt == 8 && t.arithPending) =
        true := by
  decide +kernel

/-- An overflow of MULT leaves F3 free, sets EXC_SUM<FOV> and FPCR<OVF>, and EXC_MASK of F3 (96_test_vectors_continued.md). -/
theorem test_floating_overflow :
    afterWord 0x58221443 ((native.writeFreg 1 0x7FEFFFFFFFFFFFFF).writeFreg 2 0x4000000000000000)
      (fun t => place t.idu.excSum 10 == 0x2000 && t.idu.excMaskFp == 8 && t.fpcrValue == 0x8040000000000000 &&
        t.arithPending && t.model.draws == 1) = true := by
  decide +kernel

/-- DIVT/SU by zero: DZE and SWC; then without /S: SWC cleared (section 3.7). -/
theorem test_software_completion :
    afterWord 0x583FB466 (native.writeFreg 1 0x3FF8000000000000) (fun t => place t.idu.excSum 10 == 0x1400 &&
      afterWord 0x583F1467 t (fun u => place u.idu.excSum 10 == 0x1000 && u.idu.excMaskFp == 0xC0)) = true := by
  decide +kernel

/-- TRAPB delivers an owed ARITH entry at its own pc. -/
theorem test_trapb :
    afterWord 0x60000000 owing (fun t => t.pc == 0x8501 && t.idu.excAddr == native.pc && !t.arithPending) = true := by
  decide +kernel

/-- RS and RC; RPCC of a stopped counter. -/
theorem test_miscellaneous :
    afterWord 0x603FF000 (native.writeReg 1 5) (fun t => t.readReg 1 == 0 && t.intrFlag) = true ∧
      afterWord 0x603FE000 { native with intrFlag := true } (fun t => t.readReg 1 == 1 && !t.intrFlag) = true ∧
      afterWord 0x603FC000 { native with mtu := { native.mtu with ccOffset := 5, ccCount := 0x1230 } }
        (fun t => t.readReg 1 == 0x500001230) = true := by
  decide +kernel

/-- CALL_PAL function, and the pc and EXC_ADDR after it, from S0. -/
theorem test_call_pal_vectors :
    ([ (0x83, 0xB0C1, 0xFFFFFC0000010004), (0x00, 0xA001, 0xFFFFFC0000010004), (0x3F, 0xAFC1, 0xFFFFFC0000010004),
       (0xBF, 0xBFC1, 0xFFFFFC0000010004), (0x40, 0x8481, 0xFFFFFC0000010000), (0x7F, 0x8481, 0xFFFFFC0000010000),
       (0xC0, 0x8481, 0xFFFFFC0000010000), (0x183, 0x8481, 0xFFFFFC0000010000) ] : List (BitVec 26 × Quad × Quad)).all
      (fun p => after (.call_pal p.1) native fun t => t.pc == p.2.1 && t.idu.excAddr == p.2.2) = true := by
  decide +kernel

/-- HW_LD: PHYS quadword with low bits ignored, longword sign-extended, negative displacement. -/
theorem test_hw_ld :
    ([ (0x6C419005, 0x20000, 0x1122334455667788), (0x6C418004, 0x20008, 0xFFFFFFFFFFEEDDCC),
       (0x6C4193F8, 0x20010, 0xFFEEDDCCBBAA9988) ] : List (Long × Quad × Quad)).all
      (fun p => afterWord p.1 (pal.writeReg 1 p.2.1) fun t => t.readReg 2 == p.2.2) = true := by
  decide +kernel

/-- HW_ST of a longword, low bits ignored; HW_REI restores pc from EXC_ADDR. -/
theorem test_hw_st_and_hw_rei :
    afterWord 0x7C418006 ((pal.writeReg 1 0x20000).writeReg 2 0xAABBCCDDDEADBEEF)
        (fun t => Memory.read t.mem 0x20000 8 == 0xDEADBEEF55667788) = true ∧
      afterWord 0x7BFF8000 { pal with idu := { pal.idu with excAddr := 0x1235 } } (fun t => t.pc == 0x1235) = true := by
  decide +kernel

/-- HW_MTPR of PAL_BASE, EXC_ADDR, ICM, DC_MODE, PALtemp23 with all ones, then HW_MFPR; MCSR with a reserved bit
(93_implementation_defined.md U29). -/
theorem test_iprs :
    ([ (0x10E, 0xFFFFFFFFFFFFC000), (0x10B, 0xFFFFFFFFFFFFFFFD), (0x10F, 0x18), (0x216, 0xF), (0x157, 0xFFFFFFFFFFFFFFFF) ] :
      List (BitVec 16 × Quad)).all
      (fun p => after (.hw_mtpr 1 1 p.1) (pal.writeReg 1 0xFFFFFFFFFFFFFFFF) fun t =>
        after (.hw_mfpr 2 2 p.1) t fun u => u.readReg 2 == p.2) = true ∧
      after (.hw_mtpr 1 1 0x20F) (pal.writeReg 1 0x17) (fun t => t.mtu.mcsr == 0x17) = true ∧
      isNext (exec (.hw_mtpr 1 1 0x20F) (pal.writeReg 1 0x20)) = false := by
  decide +kernel

/-! ## Caches, write buffer, bus (21_external_interface.md; 20_memory.md sections 6 to 8) -/

/-- A store waits in the write buffer; MB sends it: READ MISS MOD (code A) for the block, which becomes dirty in the Scache
(R401, R414). -/
theorem test_store_reaches_the_scache :
    after (.stq 3 1 0) ((native.writeReg 1 dataAddress).writeReg 3 0x77) (fun t =>
      t.memsys.wb.map (·.addr) == [0x20000] && t.memsys.caches.bus.commands == [] &&
        after .mb t fun u => u.memsys.wb == [] && u.dirtyInScache 0x2003F &&
          u.memsys.caches.bus.commands.map (·.command.code) == [0xA]) = true := by
  decide +kernel

/-- Another agent reads that block: the answer is ACK from the Scache (R416, R421); INVALIDATE loses its data (R415). -/
theorem test_system_commands :
    after (.stq 3 1 0) ((native.writeReg 1 dataAddress).writeReg 3 0x77) (fun t =>
      after .mb t fun u =>
        (match handleEvent (.systemCommand 4 0x20000 true) u with
          | .next v => v.memsys.caches.bus.response == 6 && v.memsys.caches.bus.data.head? == some 0xFFEEDDCCBBAA99880000000000000077
          | .fault _ => false
          | .refused _ => false) &&
        (match handleEvent (.systemCommand 2 0x20000 true) u with
          | .next v => Memory.read v.mem 0x20000 8 == 0x1122334455667788 && !v.inScache 0x20000
          | .fault _ => false
          | .refused _ => false)) = true := by
  decide +kernel

/-- Two quadword loads of one noncacheable block merge into one READ MISS with both INT8 bits (20_memory.md R296;
21_external_interface.md R397). -/
theorem test_noncacheable_loads_merge :
    after (.ldq 2 1 0) (native.writeReg 1 0xFFFFFC8000000000) (fun t => after (.ldq 3 1 8) t fun u =>
      u.memsys.maf.map (fun e => (e.lanes.bits, e.merged)) == [(3, false), (2, true)] && after .mb u fun v =>
        v.memsys.caches.bus.commands.map (·.command.code) == [8] && v.memsys.maf == []) = true := by
  decide +kernel

/-- An owed machine check that comes before the next instruction is entered at 400 hex, in PALmode too (60_exceptions.md R974). -/
theorem test_machine_check :
    ([(native, 0xFFFFFC0000010000), (pal, 0x9001)] : List (State × Quad)).all (fun p =>
      match step { p.1 with machineChecks := [false, true] } with
      | .next t => t.pc == 0x8401 && t.idu.excAddr == p.2 && t.machineChecks == [false]
      | .fault _ => false
      | .refused _ => false) = true := by
  decide +kernel

/-- The bytes that a store has written since its block was filled stay when the fill's data arrive (21_external_interface.md
R401, R431; 61_errors.md R1050); the others are as the system drives them. -/
theorem test_fill_precedes_store :
    let line : ScLine :=
      { set := 0, index := 0, tag := 4, parity := true, sub0 := ⟨true, false, true, 1, 0, 0xFF00⟩, sub1 := .invalid }
    let s := { native with memsys := native.memsys.onCaches fun m => { m with scache := [line] } }
    (match handleEvent (.fillError false 0x20000 0x01) s with
      | .next t => Memory.read t.mem 0x20000 8 == 1 && Memory.read t.mem 0x20008 8 == 0xFFEEDDCCBBAA9988
      | .fault _ => false
      | .refused _ => false) = true := by
  decide +kernel

/-- A load that MAF_MODE<MAF_ARB_DISABLE> has held reads memory as it is when it arbitrates (12_state_mtu_iprs.md R207), but for
the bytes of an older store. -/
theorem test_held_load_reads_late :
    let entry (own : BitVec 8) : MafEntry :=
      { slot := .int 2, addr := 0x20008, size := 8, opcode := 0x29, lock := false, pc := 0, old := 0, lanes := allLanes,
        waits := true, conflict := false, merged := false, noMerge := false, doubt := false, own := own }
    let s (own : BitVec 8) : State :=
      { native with memsys := { native.memsys with maf := [entry own] } }.writeReg 2 0x1111111111111111
    ([(0, 0xFFEEDDCCBBAA9988), (0x0F, 0xFFEEDDCC11111111)] : List (BitVec 8 × Quad)).all (fun p =>
      match handleEvent .resume (s p.1) with
      | .next t => t.readReg 2 == p.2 && t.memsys.maf.all (!·.waits)
      | .fault _ => false
      | .refused _ => false) = true := by
  decide +kernel

/-- A fill in the way makes one load miss the Dcache (71_timing.md R1170): with DC_FHIT it reaches a CBU register, as the next one
does not. -/
theorem test_forced_miss :
    let s := { native with mtu := { native.mtu with dcMode := 2 } }.writeReg 1 0xFFFFFCFFFFF000A8
    (match handleEvent .loadMisses s with
      | .next t => after (.ldq 2 1 0) t fun u => u.readReg 2 == 0xF000 && !u.model.missNext
      | .fault _ => false
      | .refused _ => false) = true ∧
    (s.dcacheCase (loadRef 0x29 8 2 1 0 s) 0xFFFFF000A8).misses = false := by
  decide +kernel

/-- WRITE BLOCK of a shared block reads it, and its wrong data parity is an error of DWRITE (61_errors.md R1035); a write of a
private one reads nothing. -/
theorem test_shared_write_reads :
    let line (shared : Bool) : ScLine :=
      { set := 0, index := 0, tag := 4, parity := true, sub0 := ⟨true, shared, false, 0, 2, 0⟩, sub1 := .invalid }
    let m (shared : Bool) : Caches := { native.memsys.caches with scache := [line shared] }
    ((m true).write native.cacheCfg .modify 0x20000 0xFF []).posted = [.scacheParity 0 2 .dwrite 0x20000] ∧
      ((m false).write native.cacheCfg .modify 0x20000 0xFF []).posted = [] := by
  decide +kernel

/-- A load in pipe E1 has come through when at most four of the six entries are taken (71_timing.md R1176). -/
theorem test_make_way :
    let entry (a : PAddr) : MafEntry :=
      { slot := .int 3, addr := a, size := 8, opcode := 0x29, lock := false, pc := 0, old := 0, lanes := allLanes,
        waits := false, conflict := false, merged := false, noMerge := false, doubt := false, own := 0 }
    let m := { native.memsys with maf := [0x100, 0x200, 0x300, 0x400, 0x500, 0x600].map entry }
    (m.makeWay false true native.cacheCfg (entry 0x700)).loadEntries = 4 ∧
      (m.makeWay false false native.cacheCfg (entry 0x700)).loadEntries = 5 := by
  decide +kernel

/-- A page of I/O space that an address was mapped to is looked for under the address that stands on the bus with ICSR<BSE>
(20_memory.md R362; 21_external_interface.md R399). -/
theorem test_former_pages :
    let e : ItbEntry := ⟨true, 1, 0, ⟨true, 0, 1, 0x6000000⟩⟩
    { native with model := { native.model with stale := { native.model.stale with mappings := [e] } } }.formerPages 0x2010 =
      [0x8000000010, 0xC000000010] := by
  decide +kernel

/-- The shadow of an entry follows a jump whose register is written in it (70_reset_and_hazards.md R1116): LDA R1; JMP (R1); at
its target HW_MTPR DTB_IS. -/
theorem test_shadow_follows_jumps :
    let words (target : Nat) : List (Nat × Quad) := [(0x9000, 0x203F7001), (0x9004, 0x6BE10000), (target, 0x77FF020B)]
    let s (target : Nat) : State :=
      { pal with mem := (words target).foldl (fun m p => Memory.writeBytes m p.1 p.2 4) pal.mem }
    (s 0x7000).entryShadow = true ∧ (s 0x9008).entryShadow = false := by
  decide +kernel

/-- Where another agent takes a block whose Bcache copy cannot be corrected, nothing is known of it (21_external_interface.md
R416, R430). -/
theorem test_flush_of_wrong_data :
    let line : BcLine := { BcLine.good 0x800 0 true false true with flips := [⟨0, 3, 0⟩] }
    let s := { native with
      cbu := { native.cbu with bcControl := 0x8071, bcConfig := 1 }
      memsys := native.memsys.onCaches fun m => { m with bcache := [line] } }
    (s.dirtyInBcache 0x20000 = true ∧ (s.memsys.caches.flushBlock s.cacheCfg 0x20000).poisoned = bytesIn 0x20000 16) := by
  decide +kernel

/-- The check bytes of 0 and of 1 (R430). -/
theorem test_ecc : eccByte 0 = 0x0C ∧ eccByte 1 = 0xC2 := by decide +kernel

/-- An instruction that is off: FEN, OPCDEC. -/
theorem test_disabled :
    after (.cpys 1 2 3) disabled (fun t => t.pc == 0x8581 && t.idu.excAddr == native.pc) = true ∧
      after (.sextw (.reg 2) 3) disabled (fun t => t.pc == 0x8481) = true ∧
      after (.hw_mfpr 1 1 0x10E) native (fun t => t.pc == 0x8481) = true := by
  decide +kernel

/-! ## One-instruction vectors -/

/-! ### Integer operates: the word, R1, R2, and R3 after it (spec/95_test_vectors.md sections 2.3, 2.4) -/

theorem test_integer_vectors_1 : integerVectors
    [ (0x40220003, 0x7FFFFFFF, 0x1, 0xFFFFFFFF80000000),
      (0x40220003, 0x123456789ABCDEF0, 0x1111111111111111, 0xFFFFFFFFABCDF001),
      (0x40220803, 0x1FFFFFFFF, 0x1, 0x0),
      (0x403FF403, 0xFFFFFFFFFFFFFF01, 0x0, 0x0),
      (0x40220123, 0x0, 0x1, 0xFFFFFFFFFFFFFFFF),
      (0x40220523, 0x0, 0x1, 0xFFFFFFFFFFFFFFFF),
      (0x40220043, 0x40000000, 0x4, 0x4),
      (0x40220243, 0x3, 0x100, 0x118),
      (0x40220443, 0x4000000000000001, 0x1, 0x5),
      (0x40220643, 0x5, 0x1000, 0x1028),
      (0x40220163, 0x1, 0x5, 0xFFFFFFFFFFFFFFFF),
      (0x40220363, 0x2, 0x1, 0xF),
      (0x40220563, 0x1, 0x5, 0xFFFFFFFFFFFFFFFF),
      (0x40220763, 0x2, 0x1, 0xF),
      (0x402205A3, 0x5, 0x5, 0x1),
      (0x402209A3, 0xFFFFFFFFFFFFFFFF, 0x0, 0x1),
      (0x402203A3, 0xFFFFFFFFFFFFFFFF, 0x0, 0x0),
      (0x40220DA3, 0x8000000000000000, 0x8000000000000000, 0x1),
      (0x402017A3, 0x0, 0x0, 0x1),
      (0x402209A3, 0x8000000000000000, 0x7FFFFFFFFFFFFFFF, 0x1),
      (0x4C220003, 0x10000, 0x10000, 0x0),
      (0x4C220003, 0xFFFFFFFF, 0x3, 0xFFFFFFFFFFFFFFFD),
      (0x4C220403, 0x100000000, 0x100000000, 0x0),
      (0x4C220C03, 0xFFFFFFFFFFFFFFFF, 0xFFFFFFFFFFFFFFFF, 0x1) ] = true := by
  decide +kernel

theorem test_integer_vectors_2 : integerVectors
    [ (0x4C220603, 0xFFFFFFFFFFFFFFFF, 0xFFFFFFFFFFFFFFFF, 0xFFFFFFFFFFFFFFFE),
      (0x4C205603, 0x8000000000000000, 0x0, 0x1),
      (0x44220003, 0xFF00FF00F0F0F0F0, 0xFF00FF0FFFF0000, 0xF000F00F0F00000),
      (0x44220103, 0xFF00FF00F0F0F0F0, 0xFF00FF0FFFF0000, 0xF000F0000000F0F0),
      (0x44220403, 0xFF00FF00F0F0F0F0, 0xFF00FF0FFFF0000, 0xFFF0FFF0FFFFF0F0),
      (0x44220503, 0xFF00FF00F0F0F0F0, 0xFF00FF0FFFF0000, 0xFF0FFF0FF0F0FFFF),
      (0x44220803, 0xFF00FF00F0F0F0F0, 0xFF00FF0FFFF0000, 0xF0F0F0F00F0FF0F0),
      (0x44220903, 0xFF00FF00F0F0F0F0, 0xFF00FF0FFFF0000, 0xF0F0F0FF0F00F0F),
      (0x47FF0503, 0x0, 0x0, 0xFFFFFFFFFFFFFFFF),
      (0x44220483, 0x0, 0xAA, 0xAA),
      (0x4420F4C3, 0x1, 0x0, 0x7),
      (0x44220883, 0x8000000000000000, 0xAA, 0xAA),
      (0x44220C83, 0x0, 0xAA, 0xAA),
      (0x44220283, 0x3, 0xAA, 0xAA),
      (0x48220723, 0x8000000000000001, 0x41, 0x2),
      (0x4827F723, 0x3, 0x0, 0x8000000000000000),
      (0x48209683, 0x8000000000000000, 0x0, 0x800000000000000),
      (0x48209783, 0x8000000000000000, 0x0, 0xF800000000000000),
      (0x48220783, 0x8000000000000000, 0xFF, 0xFFFFFFFFFFFFFFFF),
      (0x48220683, 0x8000000000000000, 0x40, 0x8000000000000000),
      (0x4821F603, 0x8877665544332211, 0x0, 0x8877665500000000),
      (0x4821F623, 0x8877665544332211, 0x0, 0x44332211),
      (0x48220623, 0x8877665544332211, 0xFFFFFFFFFFFFFF81, 0x8800000000000011),
      (0x402201E3, 0x8877665544332211, 0x8800665500FF2212, 0xFA) ] = true := by
  decide +kernel

theorem test_integer_vectors_3 : integerVectors
    [ (0x43E201E3, 0x0, 0xFF00FF00FF0041, 0xAA),
      (0x482200C3, 0x8877665544332211, 0xFFFFFFFFFFFFFFFD, 0x66),
      (0x482202C3, 0x8877665544332211, 0xFFFFFFFFFFFFFFFD, 0x7766),
      (0x482204C3, 0x8877665544332211, 0xFFFFFFFFFFFFFFFD, 0x887766),
      (0x482206C3, 0x8877665544332211, 0xFFFFFFFFFFFFFFFD, 0x887766),
      (0x48220B43, 0x8877665544332211, 0xFFFFFFFFFFFFFFFD, 0x0),
      (0x48220D43, 0x8877665544332211, 0xFFFFFFFFFFFFFFFD, 0x11000000),
      (0x48220F43, 0x8877665544332211, 0xFFFFFFFFFFFFFFFD, 0x5544332211000000),
      (0x48220F43, 0x8877665544332211, 0x8, 0x8877665544332211),
      (0x482016C3, 0x8877665544332211, 0x0, 0x8877665544332211),
      (0x48220163, 0x8877665544332211, 0x5, 0x110000000000),
      (0x48220363, 0x8877665544332211, 0x5, 0x22110000000000),
      (0x48220563, 0x8877665544332211, 0x5, 0x3322110000000000),
      (0x48220763, 0x8877665544332211, 0x5, 0x3322110000000000),
      (0x48220AE3, 0x8877665544332211, 0x5, 0x0),
      (0x48220CE3, 0x8877665544332211, 0x5, 0x44),
      (0x48220EE3, 0x8877665544332211, 0x5, 0x8877665544),
      (0x48220EE3, 0x8877665544332211, 0x0, 0x0),
      (0x48220AE3, 0x8877665544332211, 0x7, 0x22),
      (0x48220043, 0x8877665544332211, 0x5, 0x8877005544332211),
      (0x48220243, 0x8877665544332211, 0x5, 0x8800005544332211),
      (0x48220443, 0x8877665544332211, 0x5, 0x5544332211),
      (0x48220643, 0x8877665544332211, 0x5, 0x5544332211),
      (0x48220A43, 0x8877665544332211, 0x5, 0x8877665544332211) ] = true := by
  decide +kernel

theorem test_integer_vectors_4 : integerVectors
    [ (0x48220C43, 0x8877665544332211, 0x5, 0x8877665544332200),
      (0x48220E43, 0x8877665544332211, 0x5, 0x8877660000000000),
      (0x48220E43, 0x8877665544332211, 0x0, 0x8877665544332211),
      (0x73E20003, 0x0, 0x1280, 0xFFFFFFFFFFFFFF80),
      (0x73E20023, 0x0, 0x12348000, 0xFFFFFFFFFFFF8000),
      (0x73EFF003, 0x0, 0x0, 0x7F) ] = true := by
  decide +kernel

/-! ### Floating-point operates: the word, F1, F2, FPCR, and F3, FPCR, EXC_SUM after it (spec/96_test_vectors_continued.md) -/

theorem test_floating_vectors_1 : floatingVectors
    [ (0x5C220403, 0x8000000000000000, 0x400921FB54442D18, 0x0, 0xC00921FB54442D18, 0x0, 0x0),
      (0x5FE20403, 0x0, 0xC00921FB54442D18, 0x0, 0x400921FB54442D18, 0x0, 0x0),
      (0x5C420423, 0x0, 0x400921FB54442D18, 0x0, 0xC00921FB54442D18, 0x0, 0x0),
      (0x5C220423, 0x8000000000000000, 0xC00921FB54442D18, 0x0, 0x400921FB54442D18, 0x0, 0x0),
      (0x5C220443, 0xC340000000000000, 0xFFFFFFFFFFFFF, 0x0, 0xC34FFFFFFFFFFFFF, 0x0, 0x0),
      (0x5FE20203, 0x0, 0xC7FFFFFFE0000000, 0x0, 0xFFFFFFFFFFFFFFFF, 0x0, 0x0),
      (0x5FE20203, 0x0, 0x7FFFFFFFFFFFFFFF, 0x0, 0x7FFFFFFF, 0x0, 0x0),
      (0x5FE20603, 0x0, 0x12345678, 0x0, 0x2468ACF00000000, 0x0, 0x0),
      (0x5FE20603, 0x0, 0x180000001, 0x0, 0x8000000020000000, 0x8300000000000000, 0x0),
      (0x5FE22603, 0x0, 0x180000001, 0x0, 0x8000000020000000, 0x8300000000000000, 0x10000),
      (0x5FE2A603, 0x0, 0x180000001, 0x0, 0x8000000020000000, 0x8300000000000000, 0x10400),
      (0x5FE22603, 0x0, 0xFFFFFFFF80000000, 0x0, 0x8000000000000000, 0x0, 0x0),
      (0x5C220543, 0x8000000000000000, 0x4000000000000000, 0x0, 0x4000000000000000, 0x0, 0x0),
      (0x5C220583, 0xBFF0000000000000, 0x4000000000000000, 0x0, 0x4000000000000000, 0x0, 0x0),
      (0x5C2205A3, 0x8000000000000000, 0x4000000000000000, 0x0, 0x4000000000000000, 0x0, 0x0),
      (0x5C2205E3, 0x7FF8000000000000, 0x4000000000000000, 0x0, 0x4000000000000000, 0x0, 0x0),
      (0x58221403, 0x3FF0000000000000, 0x3CA0000000000000, 0x0, 0x3FF0000000000000, 0x8100000000000000, 0x0),
      (0x58220403, 0x3FF0000000000000, 0x3CA0000000000000, 0x0, 0x3FF0000000000000, 0x8100000000000000, 0x0),
      (0x58220C03, 0xBFF0000000000000, 0xBCA0000000000000, 0x0, 0xBFF0000000000001, 0x8100000000000000, 0x0),
      (0x58221C03, 0x3FF0000000000000, 0x3CA0000000000000, 0xC00000000000000, 0x3FF0000000000001, 0x8D00000000000000, 0x0),
      (0x58221C03, 0x3FF0000000000000, 0x3CA0000000000000, 0x0, 0x3FF0000000000000, 0x8100000000000000, 0x0),
      (0x5822F403, 0x3FF0000000000000, 0x3CA0000000000000, 0x0, 0x3FF0000000000000, 0x8100000000000000, 0x8400),
      (0x5822F403, 0x3FF0000000000000, 0x3CA0000000000000, 0x4800000000000000, 0x3FF0000000000000, 0xC900000000000000, 0x0),
      (0x58221423, 0x4008000000000000, 0x4008000000000000, 0x0, 0x0, 0x0, 0x0) ] = true := by
  decide +kernel

theorem test_floating_vectors_2 : floatingVectors
    [ (0x58220C23, 0x4008000000000000, 0x4008000000000000, 0x0, 0x8000000000000000, 0x0, 0x0),
      (0x58221403, 0x8000000000000000, 0x8000000000000000, 0x0, 0x8000000000000000, 0x0, 0x0),
      (0x58221443, 0x10000000000000, 0x3FE0000000000000, 0x0, 0x0, 0x8080000000000000, 0x0),
      (0x58223443, 0x10000000000000, 0x3FE0000000000000, 0x0, 0x0, 0x8080000000000000, 0x4000),
      (0x5822B443, 0x10000000000000, 0x3FE0000000000000, 0x0, 0x0, 0x8080000000000000, 0x4400),
      (0x5822B443, 0x10000000000000, 0x3FE0000000000000, 0x3800000000000000, 0x0, 0xB880000000000000, 0x0),
      (0x5822F443, 0x10000000000000, 0x3FE0000000000000, 0x0, 0x0, 0x8180000000000000, 0xC400),
      (0x58221463, 0x3FF0000000000000, 0x4008000000000000, 0x0, 0x3FD5555555555555, 0x8100000000000000, 0x0),
      (0x58221C63, 0x3FF0000000000000, 0x4008000000000000, 0xC00000000000000, 0x3FD5555555555556, 0x8D00000000000000, 0x0),
      (0x58221003, 0x3FF0000000000000, 0x3E70000000000000, 0x0, 0x3FF0000000000000, 0x8100000000000000, 0x0),
      (0x58221803, 0x3FF0000000000000, 0x3E70000000000000, 0xC00000000000000, 0x3FF0000020000000, 0x8D00000000000000, 0x0),
      (0x58221023, 0x3FF0000000000000, 0x3E60000000000000, 0x0, 0x3FF0000000000000, 0x8100000000000000, 0x0),
      (0x58221043, 0x47EFFFFFE0000000, 0x3FF0000000000000, 0x0, 0x47EFFFFFE0000000, 0x0, 0x0),
      (0x58223043, 0x3C00000000000000, 0x3BF0000000000000, 0x0, 0x0, 0x8080000000000000, 0x4000),
      (0x58221063, 0x3FF0000000000000, 0x4008000000000000, 0x0, 0x3FD5555560000000, 0x8100000000000000, 0x0),
      (0x58220063, 0x4000000000000000, 0x4008000000000000, 0x0, 0x3FE5555540000000, 0x8100000000000000, 0x0),
      (0x582214A3, 0x0, 0x8000000000000000, 0x0, 0x4000000000000000, 0x0, 0x0),
      (0x582214C3, 0x8000000000000000, 0x0, 0x0, 0x0, 0x0, 0x0),
      (0x582214E3, 0xBFF0000000000000, 0x3FF0000000000000, 0x0, 0x4000000000000000, 0x0, 0x0),
      (0x58221483, 0x3FF0000000000000, 0x4000000000000000, 0x0, 0x0, 0x0, 0x0),
      (0x5BE215E3, 0x0, 0x4004000000000000, 0x0, 0x2, 0x8100000000000000, 0x0),
      (0x5BE215E3, 0x0, 0x400C000000000000, 0x0, 0x4, 0x8100000000000000, 0x0),
      (0x5BE205E3, 0x0, 0xC004000000000000, 0x0, 0xFFFFFFFFFFFFFFFE, 0x8100000000000000, 0x0),
      (0x5BE20DE3, 0x0, 0xC004000000000000, 0x0, 0xFFFFFFFFFFFFFFFD, 0x8100000000000000, 0x0) ] = true := by
  decide +kernel

theorem test_floating_vectors_3 : floatingVectors
    [ (0x5BE21DE3, 0x0, 0x4004000000000000, 0xC00000000000000, 0x3, 0x8D00000000000000, 0x0),
      (0x5BE2F5E3, 0x0, 0x4004000000000000, 0x0, 0x2, 0x8100000000000000, 0x8400),
      (0x5BE205E3, 0x0, 0x43E0000000000000, 0x0, 0x8000000000000000, 0x8300000000000000, 0x0),
      (0x5BE225E3, 0x0, 0x43E0000000000000, 0x0, 0x8000000000000000, 0x8300000000000000, 0x10000),
      (0x5BE225E3, 0x0, 0xC3E0000000000000, 0x0, 0x8000000000000000, 0x0, 0x0),
      (0x5BE217C3, 0x0, 0x20000000000001, 0x0, 0x4340000000000000, 0x8100000000000000, 0x0),
      (0x5BE20FC3, 0x0, 0xFFDFFFFFFFFFFFFF, 0x0, 0xC340000000000001, 0x8100000000000000, 0x0),
      (0x5BE2F7C3, 0x0, 0x20000000000001, 0x0, 0x4340000000000000, 0x8100000000000000, 0x8400),
      (0x5BE21783, 0x0, 0x1000003, 0x0, 0x4170000040000000, 0x8100000000000000, 0x0),
      (0x5BE20783, 0x0, 0xFFFFFFFFFFFFFFFF, 0x0, 0xBFF0000000000000, 0x0, 0x0),
      (0x5BE21583, 0x0, 0x3FF0000010000000, 0x0, 0x3FF0000000000000, 0x8100000000000000, 0x0),
      (0x5BE23583, 0x0, 0x3800000000000000, 0x0, 0x0, 0x8080000000000000, 0x4000),
      (0x5BE25583, 0x0, 0x3FF0000020000000, 0x0, 0x3FF0000020000000, 0x0, 0x0),
      (0x54221403, 0x4010000000000000, 0x4020000000000000, 0x0, 0x4028000000000000, 0x0, 0x0),
      (0x54221403, 0x4010000000000000, 0x3CC0000000000000, 0x0, 0x4010000000000001, 0x8100000000000000, 0x0),
      (0x54220403, 0x4010000000000000, 0x3CC0000000000000, 0x0, 0x4010000000000000, 0x8100000000000000, 0x0),
      (0x54221423, 0x4010000000000000, 0x4010000000000000, 0x0, 0x0, 0x0, 0x0),
      (0x54221443, 0x10000000000000, 0x4000000000000000, 0x0, 0x0, 0x8080000000000000, 0x0),
      (0x54223443, 0x10000000000000, 0x4000000000000000, 0x0, 0x0, 0x8080000000000000, 0x4000),
      (0x5422B443, 0x10000000000000, 0x4000000000000000, 0x0, 0x0, 0x8080000000000000, 0x4400),
      (0x54221463, 0x4010000000000000, 0x4028000000000000, 0x0, 0x3FF5555555555555, 0x8100000000000000, 0x0),
      (0x54220463, 0x4020000000000000, 0x4028000000000000, 0x0, 0x4005555555555555, 0x8100000000000000, 0x0),
      (0x54221003, 0x4010000000000000, 0x3E90000000000000, 0x0, 0x4010000020000000, 0x8100000000000000, 0x0),
      (0x54220003, 0x4010000000000000, 0x3E90000000000000, 0x0, 0x4010000000000000, 0x8100000000000000, 0x0) ] = true := by
  decide +kernel

theorem test_floating_vectors_4 : floatingVectors
    [ (0x54221023, 0x4010000000000000, 0x4028000000000000, 0x0, 0xC020000000000000, 0x0, 0x0),
      (0x54223043, 0x3810000000000000, 0x4000000000000000, 0x0, 0x0, 0x8080000000000000, 0x4000),
      (0x54221063, 0x4010000000000000, 0x4028000000000000, 0x0, 0x3FF5555560000000, 0x8100000000000000, 0x0),
      (0x542214A3, 0x4010000000000000, 0x4010000000000000, 0x0, 0x4000000000000000, 0x0, 0x0),
      (0x542214C3, 0xC010000000000000, 0x0, 0x0, 0x4000000000000000, 0x0, 0x0),
      (0x542214E3, 0x4020000000000000, 0x4010000000000000, 0x0, 0x0, 0x0, 0x0),
      (0x57E215E3, 0x0, 0x4024000000000000, 0x0, 0x3, 0x8100000000000000, 0x0),
      (0x57E205E3, 0x0, 0x4024000000000000, 0x0, 0x2, 0x8100000000000000, 0x0),
      (0x57E215E3, 0x0, 0xC024000000000000, 0x0, 0xFFFFFFFFFFFFFFFD, 0x8100000000000000, 0x0),
      (0x57E235E3, 0x0, 0x4400000000000000, 0x0, 0x8000000000000000, 0x8300000000000000, 0x10000),
      (0x57E217C3, 0x0, 0x20000000000001, 0x0, 0x4360000000000001, 0x8100000000000000, 0x0),
      (0x57E207C3, 0x0, 0x20000000000001, 0x0, 0x4360000000000000, 0x8100000000000000, 0x0),
      (0x57E21783, 0x0, 0x1000001, 0x0, 0x4190000020000000, 0x8100000000000000, 0x0),
      (0x57E21783, 0x0, 0xFFFFFFFFFFFFFFFB, 0x0, 0xC034000000000000, 0x0, 0x0),
      (0x57E21583, 0x0, 0x4010000010000000, 0x0, 0x4010000020000000, 0x8100000000000000, 0x0),
      (0x57E20583, 0x0, 0x4010000010000000, 0x0, 0x4010000000000000, 0x8100000000000000, 0x0),
      (0x57E23583, 0x0, 0x3800000000000000, 0x0, 0x0, 0x8080000000000000, 0x4000) ] = true := by
  decide +kernel

/-! ## Witnesses: states and operands that meet the hypotheses of the obligations -/

/-- S0 with R1 = `dataAddress`. -/
def atData : State := native.writeReg 1 dataAddress

/-- S0 with R1 at the last quadword of cacheable memory. -/
def atTop : State := native.writeReg 1 0xFFFFFC7FFFFFFFF8

/-- S0 with R1 at the last quadword below the CBU registers. -/
def atLast : State := native.writeReg 1 0xFFFFFCFFFFEFFFF8

/-- A load of the quadword at 20008 hex into R2, which the CBU has accepted. -/
def outstanding : MafEntry where
  slot := .int 2
  addr := 0x20008
  size := 8
  opcode := 0x29
  lock := false
  pc := native.pc
  old := 0
  lanes := allLanes
  waits := false
  conflict := false
  merged := false
  noMerge := false
  doubt := false
  own := 0

/-- S0 with that load. -/
def loading : State := { native with memsys := { native.memsys with maf := [outstanding] } }

/-- S0 with that load held back by MAF_MODE<MAF_ARB_DISABLE>. -/
def waiting : State :=
  { native with
    mtu := { native.mtu with mafMode := 0x20 }
    memsys := { native.memsys with maf := [{ outstanding with waits := true }] } }

/-- S0 with a block in the Scache. -/
def caching : State :=
  { native with memsys := native.memsys.onCaches fun m =>
      { m with scache := [{ set := 0, index := 0, tag := 4, parity := true, sub0 := ⟨true, false, false, 0, 0, 0⟩, sub1 := .invalid }] } }

/-- S0 with ICSR<HWE>: the PALcode-only opcodes are allowed in native kernel mode. -/
def allowed : State := { native with idu := { native.idu with icsr := 0x202C020000 } }

/-- S0 with R1 at an address that nothing maps. -/
def atHole : State := native.writeReg 1 0x10000

theorem test_witness_DecodeOfEncodeIsIdentity : decode 0x40220003 = .instr (.addl 1 (.reg 2) 3) := by
  decide +kernel

theorem test_witness_ReservedEncodingsAreRefused :
    (0x04000000 : Long).toNat / 2 ^ 26 ∈ [1, 2, 3, 4, 5, 6, 7, 0x14] ∧
      (0x53FFFFFF : Long).toNat / 2 ^ 26 ∈ [1, 2, 3, 4, 5, 6, 7, 0x14] ∧
      native.arithPending = false ∧ owing.arithPending = true := by
  decide +kernel

/-- Native mode, at the instruction word of S0. -/
theorem test_witness_StepRunsTheDecodedInstruction_native :
    let s := native.withFetchWord 32 0x40220003
    (s.memsys.caches.posted = [] ∧ s.model.inbox = [] ∧ s.machineChecks = [] ∧ s.arithPending = false) ∧
      (s.palmode = false ∧ s.model.former = [] ∧ s.translateFetch (s.pc &&& ~~~3) = .ok 0x10000 ∧
        s.interruptDeliverable = false) ∧
      inCbu 0x10000 = false ∧ s.onBus 0x10000 = 0x10000 ∧ s.sromHits = [] ∧ s.cached 0x10000 = [] ∧
      s.model.cbuQuiet = false ∧ (s.begin.istreamRead (s.onBus 0x10000)).memsys.caches.posted = [] ∧
      (∀ k < 4, s.memsys.covers (0x10000 + k) = false ∧ 0x10000 + k ∉ s.memsys.caches.poisoned ∧
        0x10000 + k ∉ (s.begin.istreamRead (s.onBus 0x10000)).memsys.caches.poisoned) ∧
      decode (Memory.long s.mem 0x10000) = .instr (.addl 1 (.reg 2) 3) ∧
      s.blocked 0x40220003 = false ∧ s.restricted 0x10000 (Memory.long s.mem 0x10000) = false ∧
      s.mtu.mafMode.getLsbD 5 = false ∧ isNext (exec (.addl 1 (.reg 2) 3) s) = true ∧ isNext (step s) = true := by
  decide +kernel

/-- PALmode, at the last longword below the CBU registers, where ICSR<BSE> takes bits <38:37> off the address. -/
theorem test_witness_StepRunsTheDecodedInstruction_pal :
    let s := { native with pc := 0xFFFFEFFFFD }.withFetchWord 32 0x40220003
    (s.palmode = true ∧ (0xFFFFEFFFFC : PAddr) = palFetchPa s.pc) ∧
      inCbu 0xFFFFEFFFFC = false ∧ s.onBus 0xFFFFEFFFFC = 0x9FFFEFFFFC ∧ s.sromHits = [] ∧ s.cached 0x9FFFEFFFFC = [] ∧
      (s.begin.istreamRead (s.onBus 0xFFFFEFFFFC)).memsys.caches.posted = [] ∧
      (∀ k < 4, s.memsys.covers (0x9FFFEFFFFC + k) = false ∧ 0x9FFFEFFFFC + k ∉ s.memsys.caches.poisoned ∧
        0x9FFFEFFFFC + k ∉ (s.begin.istreamRead (s.onBus 0xFFFFEFFFFC)).memsys.caches.poisoned) ∧
      decode (Memory.long s.mem 0x9FFFEFFFFC) = .instr (.addl 1 (.reg 2) 3) ∧
      s.blocked 0x40220003 = false ∧ s.restricted 0x9FFFEFFFFC (Memory.long s.mem 0x9FFFEFFFFC) = false ∧
      isNext (step s) = true := by
  decide +kernel

/-- The other clauses: a restriction in force, and MB waiting for a load while MAF_MODE<MAF_ARB_DISABLE> is set. -/
theorem test_witness_StepRunsTheDecodedInstruction_stopped :
    let s := { native with model := { native.model with hazards := [⟨.rpcc, 3⟩] } }.withFetchWord 32 0x6020C000
    let b := waiting.withFetchWord 32 0x63FF4000
    s.blocked 0x6020C000 = false ∧ s.restricted 0x10000 0x6020C000 = true ∧ isNext (step s) = false ∧
      b.blocked 0x63FF4000 = true ∧ isNext (step b) = true := by
  decide +kernel

/-- The clauses of a block that is read: from an Scache line with a wrong data parity bit, which comes first; between a store to
a CBU control register and its MB, which stops. -/
theorem test_witness_StepRunsTheDecodedInstruction_read :
    let line : ScLine :=
      { set := 0, index := 0, tag := 2, parity := true, sub0 := ⟨true, false, false, 0, 1, 0⟩, sub1 := .invalid }
    let bad := { native with memsys := native.memsys.onCaches fun m => { m with scache := [line] } }.withFetchWord 32 0x40220003
    let quiet := { native with model := { native.model with cbuQuiet := true } }.withFetchWord 32 0x40220003
    (bad.cached 0x10000 = [] ∧ quiet.cached 0x10000 = [] ∧ quiet.model.cbuQuiet = true ∧ (0x10000 : PAddr).toNat < 2 ^ 39) ∧
    (match step bad with
      | .next t => t.pc == bad.pc && !t.memsys.caches.posted.isEmpty
      | .fault _ => false
      | .refused _ => false) = true ∧
    (match step quiet with
      | .next _ => false
      | .fault _ => false
      | .refused f => f == .cbuOrder) = true := by
  decide +kernel

theorem test_witness_StepKeepsTheMachineWellFormed :
    (native.withFetchWord 32 0x40220003).ok = true ∧ isNext (step (native.withFetchWord 32 0x40220003)) = true := by
  decide +kernel

theorem test_witness_ByteCompareAndZap : (0 : Nat) < 8 ∧ (7 : Nat) < 8 := by decide

theorem test_witness_SignExtensionAndQueries : native.byteWordEnabled = true ∧ (63 : Nat) < 64 := by decide +kernel

theorem test_witness_IntegerLoadResults :
    native.byteWordEnabled = true ∧
      atLast.reaches (loadRef 0x0A 1 2 1 7 atLast) 0xFFFFEFFFFF ∧ atLast.reaches (loadRef 0x0C 2 2 1 6 atLast) 0xFFFFEFFFFE ∧
      atTop.reaches (loadRef 0x28 4 2 1 4 atTop) 0x7FFFFFFFFC ∧ atTop.reaches (loadRef 0x29 8 2 1 0 atTop) 0x7FFFFFFFF8 ∧
      atData.reaches { loadRef 0x0B 8 2 1 7 atData with masked := true } 0x20000 ∧
      atData.reaches { loadRef 0x2A 4 2 1 4 atData with lock := true } 0x20004 ∧
      atData.reaches { loadRef 0x2B 8 2 1 8 atData with lock := true } 0x20008 := by
  simp only [State.reaches, loadRef]
  and_intros <;> decide +kernel

/-- A locked load that MAF_MODE<MAF_ARB_DISABLE> holds back, and one that it does not. -/
theorem test_witness_IntegerLoadResults_held :
    let s := { atData with mtu := { native.mtu with mafMode := 0x20 } }
    s.mtu.mafMode.getLsbD 5 = true ∧ native.mtu.mafMode.getLsbD 5 = false ∧
      s.reaches { loadRef 0x2B 8 2 1 8 s with lock := true } 0x20008 := by
  simp only [State.reaches, loadRef]
  and_intros <;> decide +kernel

/-- Forced to hit the Dcache, a load of an address of the CBU region. -/
theorem test_witness_IntegerLoadResults_forced :
    let s := { native with mtu := { native.mtu with dcMode := 2 } }.writeReg 1 0xFFFFFCFFFFF000A8
    s.reaches (loadRef 0x29 8 2 1 0 s) 0xFFFFF000A8 := by
  simp only [State.reaches, loadRef]
  and_intros <;> decide +kernel

/-- A state in which no load is free: the Dcache flushed, the Bcache off. -/
theorem test_witness_IntegerLoadResults_known :
    let s := { native with memsys := { native.memsys with caches := { native.memsys.caches with dcacheFlushed := true } } }
    s.memsys.caches.posted = [] ∧ s.mtu.dcMode.getLsbD 1 = false ∧ s.cbu.scCtl.getLsbD 0 = false ∧ s.cbu.bcOn = false ∧
      s.memsys.caches.dcacheFlushed = true ∧ (∀ l ∈ s.memsys.caches.dcache, l.stale = false) ∧ s.memsys.caches.poisoned = [] := by
  decide +kernel

theorem test_witness_FloatingLoadResults :
    native.fpEnabled = true ∧
      atData.reaches (loadRef 0x20 4 2 1 4 atData) 0x20004 ∧ atData.reaches (loadRef 0x21 8 2 1 8 atData) 0x20008 ∧
      atTop.reaches (loadRef 0x22 4 2 1 4 atTop) 0x7FFFFFFFFC ∧ atLast.reaches (loadRef 0x23 8 2 1 0 atLast) 0xFFFFEFFFF8 := by
  simp only [State.reaches, loadRef]
  and_intros <;> decide +kernel

/-- The least and the greatest exponent of the finite numbers, and the least of F_floating. -/
theorem test_witness_FloatingMemoryFormats :
    (0x00800000 : Long).toNat / 2 ^ 23 % 2 ^ 8 = 1 ∧ (0x7F000000 : Long).toNat / 2 ^ 23 % 2 ^ 8 = 254 ∧
      (0x00000080 : Long).toNat / 2 ^ 7 % 2 ^ 8 = 1 := by
  decide +kernel

theorem test_witness_StoresWriteTheirBytes :
    native.byteWordEnabled = true ∧ native.fpEnabled = true ∧ Memory.wf native.mem = true ∧
      atLast.reaches (storeRef 0x0E 1 2 1 7 atLast) 0xFFFFEFFFFF ∧ atLast.reaches (storeRef 0x0D 2 2 1 6 atLast) 0xFFFFEFFFFE ∧
      atTop.reaches (storeRef 0x2C 4 2 1 4 atTop) 0x7FFFFFFFFC ∧ atTop.reaches (storeRef 0x2D 8 2 1 0 atTop) 0x7FFFFFFFF8 ∧
      atData.reaches { storeRef 0x0F 8 2 1 7 atData with masked := true } 0x20000 ∧
      atData.reaches (storeRef 0x24 4 2 1 4 atData) 0x20004 ∧ atData.reaches (storeRef 0x25 8 2 1 8 atData) 0x20008 ∧
      atTop.reaches (storeRef 0x26 4 2 1 4 atTop) 0x7FFFFFFFFC ∧ atLast.reaches (storeRef 0x27 8 2 1 0 atLast) 0xFFFFEFFFF8 := by
  simp only [State.reaches, storeRef]
  and_intros <;> decide +kernel

/-- In cacheable memory with and without the lock, and in noncacheable space. -/
theorem test_witness_ConditionalStoreResults :
    atTop.translate (storeRef 0x2E 4 2 1 4 atTop) = .ok 0x7FFFFFFFFC ∧
      atTop.translate (storeRef 0x2F 8 2 1 0 atTop) = .ok 0x7FFFFFFFF8 ∧
      atLast.translate (storeRef 0x2F 8 2 1 0 atLast) = .ok 0xFFFFEFFFF8 ∧
      native.model.cbuStore = false ∧ native.model.owed.storesHeld = false ∧ inCbu 0x7FFFFFFFF8 = false ∧
      inCbu 0xFFFFEFFFF8 = false ∧ native.cacheCfg.scForced = false ∧ native.cacheCfg.bcForced = false ∧
      native.lockFlag = false ∧ { native with lockFlag := true }.lockFlag = true ∧ native.pins.systemLock = true ∧
      native.mtu.mafMode.getLsbD 5 = false ∧ waiting.mtu.mafMode.getLsbD 5 = true ∧ Memory.wf native.mem = true := by
  decide +kernel

/-- A miss, a misaligned reference and a bad address; then the references of HW_LD and HW_ST. -/
theorem test_witness_FailingReferencesTrap :
    atHole.translate (loadRef 0x29 8 2 1 0 atHole) = .trap .dtbmissSingle { dtbMiss := true, wr := false } ∧
      atData.translate (storeRef 0x2F 8 2 1 4 atData) = .trap .unalign { wr := true } ∧
      (native.writeReg 1 0x40000000000).translate (loadRef 0x23 8 2 1 0 (native.writeReg 1 0x40000000000)) =
        .trap .dfault { badVa := true, acv := true, wr := false } ∧
      native.byteWordEnabled = true ∧ native.fpEnabled = true ∧ (2 : Reg) ≠ 31 ∧ pal.palOpcodeAllowed = true ∧
      pal.translate { write := false, size := 8, vpte := true, hw := true, va := 0x200000050, ra := 2, opcode := 0x1B } =
        .trap .dtbmissDouble { dtbMiss := true, wr := false } ∧
      pal.translate { write := true, size := 4, hw := true, va := 0x10000, ra := 2, opcode := 0x1F } =
        .trap .dtbmissSingle { dtbMiss := true, wr := true } ∧
      native.arithPending = false ∧ owing.arithPending = true := by
  decide +kernel

/-- The lowest and the highest canonical address with the superpages off, and one outside them with them on. -/
theorem test_witness_UnmappedReferencesMiss :
    let off := { native with mtu := { native.mtu with mcsr := 0 } }
    let low : DRef := { write := false, size := 8, va := 0xFFFFFC0000000000, ra := 2, opcode := 0x29 }
    let high : DRef := { low with va := 0x000003FFFFFFFFFF }
    (low.phys = false ∧ -2 ^ 42 ≤ low.va.toInt ∧ low.va.toInt < 2 ^ 42 ∧ (∀ e ∈ off.mtu.dtb, ¬off.dtbMaps low.va e) ∧
      ¬off.inDataSuperpage low) ∧
    (-2 ^ 42 ≤ high.va.toInt ∧ high.va.toInt < 2 ^ 42 ∧ (∀ e ∈ native.mtu.dtb, ¬native.dtbMaps high.va e) ∧
      ¬native.inDataSuperpage high ∧ native.dataMode high = 0 ∧ native.mtu.mcsr.getLsbD 2 = true) := by
  simp only [State.dtbMaps, State.inDataSuperpage, entryMaps]
  decide +kernel

/-- A misaligned quadword, and the same of LDQ_U; aligned references just outside the canonical addresses at both ends. -/
theorem test_witness_MisalignedAndBadAddressesTrap :
    let r : DRef := { write := false, size := 8, va := 0xFFFFFC0000020007, ra := 2, opcode := 0x29 }
    let above : DRef := { r with va := 0x0000040000000000 }
    let below : DRef := { r with va := 0xFFFFFBFFFFFFFFF8 }
    (r.phys = false ∧ r.size ∈ [1, 2, 4, 8] ∧ r.hw = false ∧ r.masked = false ∧ r.va.toNat % r.size ≠ 0 ∧
      native.translate r = .trap .unalign { wr := false }) ∧
    native.translate { r with masked := true } = .ok 0x20000 ∧
    (above.va.toNat % above.size = 0 ∧ 2 ^ 42 ≤ above.va.toInt ∧
      native.translate above = .trap .dfault { badVa := true, acv := true, wr := false }) ∧
    (below.va.toNat % below.size = 0 ∧ below.va.toInt < -2 ^ 42 ∧
      native.translate below = .trap .dfault { badVa := true, acv := true, wr := false }) := by
  decide +kernel

/-- Both superpages at the end of their ranges, a physical reference, a longword with the big-endian bit. -/
theorem test_witness_SuperpageAndPhysicalReferences :
    let both := { native with mtu := { native.mtu with mcsr := 7 } }
    let one : DRef := { write := false, size := 8, va := 0xFFFFFDFFFFFFFFF8, ra := 2, opcode := 0x29 }
    let zero : DRef := { one with size := 4, va := 0xFFFFFFFFBFFFFFFC }
    let phys : DRef := { one with phys := true, hw := true, va := 0xFFFFFFFFFFFFFFFF }
    (phys.phys = true ∧ phys.hw = true ∧ phys.size ∈ [1, 2, 4, 8]) ∧
    (one.phys = false ∧ one.va.toNat % one.size = 0 ∧ -2 ^ 42 ≤ one.va.toInt ∧ one.va.toInt < 2 ^ 42 ∧
      both.dataMode one = 0 ∧ (∀ e ∈ both.mtu.dtb, ¬both.dtbMaps one.va e) ∧ both.mtu.mcsr.getLsbD 2 = true ∧
      one.va.toNat / 2 ^ 41 % 4 = 2) ∧
    (zero.phys = false ∧ zero.va.toNat % zero.size = 0 ∧ -2 ^ 42 ≤ zero.va.toInt ∧ zero.va.toInt < 2 ^ 42 ∧
      both.dataMode zero = 0 ∧ (∀ e ∈ both.mtu.dtb, ¬both.dtbMaps zero.va e) ∧ both.mtu.mcsr.getLsbD 1 = true ∧
      zero.va.toNat / 2 ^ 30 % 2 ^ 13 = 0x1FFE ∧ both.mtu.mcsr.getLsbD 0 = true) := by
  simp only [State.dtbMaps, entryMaps]
  decide +kernel

/-- A user page that is readable and not writable, of 512 pages. -/
def page : DtbPte := { DtbPte.zero with gh := 3, re := 8, pfn := 0x200, fault_on_write := true }

/-- User mode with that page at virtual address 0. -/
def mapped : State := { user with mtu := { user.mtu with dtb := user.mtu.dtb.set 0 ⟨true, 0, 0, page⟩ } }

/-- A permitted read, through one entry and through two that are the same, a denied write at the end of the page, and a write that
faults by FOW only. -/
theorem test_witness_MappedReferencesAreChecked :
    let r : DRef := { write := false, size := 8, va := 0x3FFFF8, ra := 2, opcode := 0x29 }
    let w : DRef := { r with write := true }
    let free := { page with we := 8 }
    let open_ := { user with mtu := { user.mtu with dtb := user.mtu.dtb.set 0 ⟨true, 0, 0, free⟩ } }
    let twice := { mapped with mtu := { mapped.mtu with dtb := mapped.mtu.dtb.set 5 ⟨true, 0x1FF, 0, page⟩ } }
    let maps (s : State) (r : DRef) (p : DtbPte) : Prop :=
      (∃ e ∈ s.mtu.dtb, s.dtbMaps r.va e) ∧ (∀ e ∈ s.mtu.dtb, s.dtbMaps r.va e → e.pte = p) ∧ ¬s.inDataSuperpage r
    (r.phys = false ∧ r.size ∈ [1, 2, 4, 8] ∧ r.va.toNat % r.size = 0 ∧ -2 ^ 42 ≤ r.va.toInt ∧ r.va.toInt < 2 ^ 42 ∧
      maps mapped r page ∧ maps twice r page ∧ mapped.dataMode r = 3 ∧ page.re.getLsbD 3 = true ∧
      page.fault_on_read = false) ∧
    (w.phys = false ∧ maps mapped w page ∧ page.we.getLsbD 3 = false) ∧
    (maps open_ w free ∧ free.we.getLsbD 3 = true ∧ free.fault_on_write = true) := by
  simp only [State.dtbMaps, State.inDataSuperpage, entryMaps]
  and_intros <;> decide +kernel

/-- Two entries for one address, of 512 pages and of one; an entry beside a superpage. -/
theorem test_witness_MappedReferencesAreChecked_multiple :
    let r : DRef := { write := false, size := 8, va := 0x3FFFF8, ra := 2, opcode := 0x29 }
    let d : DtbEntry := ⟨true, 0, 0, page⟩
    let e : DtbEntry := ⟨true, 0x1FF, 0, DtbPte.zero⟩
    let two := { mapped with mtu := { mapped.mtu with dtb := mapped.mtu.dtb.set 63 e } }
    let k : DtbEntry := ⟨true, 0x20000010, 0, DtbPte.zero⟩
    let sp := { native with mtu := { native.mtu with dtb := native.mtu.dtb.set 0 k } }
    (d ∈ two.mtu.dtb ∧ e ∈ two.mtu.dtb ∧ two.dtbMaps r.va d ∧ two.dtbMaps r.va e ∧ d.pte ≠ e.pte) ∧
    (k ∈ sp.mtu.dtb ∧ sp.dtbMaps dataAddress k ∧ sp.inDataSuperpage { r with va := dataAddress }) := by
  simp only [State.dtbMaps, State.inDataSuperpage, entryMaps]
  decide +kernel

/-- An ITB entry for virtual page 0, executable by the kernel. -/
def fetchPage : ItbPte := { ItbPte.zero with re := 1, pfn := 5 }

/-- Addresses just outside the canonical ones, both superpages, a miss. -/
theorem test_witness_FetchTranslation :
    let both := { native with idu := { native.idu with icsr := 0x2034020000 } }
    ((0x0000040000000000 : Quad).toInt ≥ 2 ^ 42 ∧ (0xFFFFFBFFFFFFFFFC : Quad).toInt < -2 ^ 42) ∧
    ((∀ e ∈ both.idu.itb, ¬both.itbMaps 0xFFFFFDFFFFFFFFFC e) ∧ both.idu.icm = 0 ∧ both.idu.icsr.getLsbD 29 = true ∧
      (0xFFFFFDFFFFFFFFFC : Quad).toNat / 2 ^ 41 % 4 = 2) ∧
    ((∀ e ∈ both.idu.itb, ¬both.itbMaps 0xFFFFFFFFBFFFFFFC e) ∧ both.idu.icsr.getLsbD 28 = true ∧
      (0xFFFFFFFFBFFFFFFC : Quad).toNat / 2 ^ 30 % 2 ^ 13 = 0x1FFE) ∧
    ((∀ e ∈ both.idu.itb, ¬both.itbMaps 0 e) ∧ ¬both.inFetchSuperpage 0) := by
  simp only [State.itbMaps, State.inFetchSuperpage, entryMaps]
  decide +kernel

/-- A hit that is permitted and one that is not; two entries, though the same; an entry beside a superpage. -/
theorem test_witness_FetchTranslation_hits :
    let e : ItbEntry := ⟨true, 0, 0, fetchPage⟩
    let hit := { native with idu := { native.idu with itb := native.idu.itb.set 0 e } }
    let hitUser := { hit with idu := { hit.idu with icm := 3 } }
    let rest := hit.idu.itb.drop 1
    let twice := { hit with idu := { hit.idu with itb := hit.idu.itb.set 1 e } }
    let k : ItbEntry := ⟨true, 0x20000008, 0, fetchPage⟩
    let sp := { native with idu := { native.idu with itb := native.idu.itb.set 0 k } }
    (hit.idu.itb = [] ++ e :: rest ∧ hit.itbMaps 0x1FFC e ∧ (∀ x ∈ [] ++ rest, ¬hit.itbMaps 0x1FFC x) ∧
      ¬hit.inFetchSuperpage 0x1FFC ∧ fetchPage.re.getLsbD hit.idu.icm.toNat = true) ∧
    (hitUser.itbMaps 0x1FFC e ∧ ¬hitUser.inFetchSuperpage 0x1FFC ∧ fetchPage.re.getLsbD hitUser.idu.icm.toNat = false) ∧
    (twice.idu.itb = [e] ++ e :: twice.idu.itb.drop 2 ∧ twice.itbMaps 0x1FFC e) ∧
    (sp.idu.itb = [] ++ k :: sp.idu.itb.drop 1 ∧ sp.itbMaps native.pc k ∧ sp.inFetchSuperpage native.pc) := by
  simp only [State.itbMaps, State.inFetchSuperpage, entryMaps]
  decide +kernel

theorem test_witness_FloatingConditionalBranches : native.fpEnabled = true := by decide +kernel

theorem test_witness_BranchesAndJumps :
    Instr.bsr ∈ [Instr.br, Instr.bsr] ∧ Instr.ret ∈ [Instr.jmp, Instr.jsr, Instr.ret, Instr.jsr_coroutine] := by
  simp

/-- The operand of a hint in memory, and in the CBU region. -/
theorem test_witness_BarriersAndHints :
    (Instr.excb = .trapb ∨ Instr.excb = .excb) ∧ native.arithPending = false ∧ owing.arithPending = true ∧
      { native with cbu := { native.cbu with bcControl := 8 } }.cbu.bcControl.getLsbD 3 = true ∧
      (Instr.fetch, WriteKind.fetch) ∈ [(Instr.fetch, WriteKind.fetch), (Instr.fetch_m, WriteKind.fetchM)] ∧
      native.model.cbuStore = false ∧ { native with model := { native.model with cbuStore := true } }.model.cbuStore = true ∧
      native.translate { write := false, size := 1, va := 0xFFFFFCFFFFEFFFFF, ra := 31, opcode := 0x18 } = .ok 0xFFFFEFFFFF ∧
      inCbu 0xFFFFEFFFFF = false ∧
      native.translate { write := false, size := 1, va := 0xFFFFFCFFFFF00000, ra := 31, opcode := 0x18 } = .ok 0xFFFFF00000 ∧
      inCbu 0xFFFFF00000 = true := by
  refine ⟨.inr rfl, ?_, ?_, ?_, .head _, ?_, ?_, ?_, ?_, ?_, ?_⟩ <;> decide +kernel

theorem test_witness_CycleCounterAndInterruptFlag :
    native.mtu.ccEnabled = false ∧ { native with mtu := { native.mtu with ccEnabled := true } }.mtu.ccEnabled = true := by
  decide +kernel

/-- Each end of the permitted function codes, in kernel and user mode, and their neighbours outside. -/
theorem test_witness_CallPalEntersPalcode :
    let permitted (fn : BitVec 26) (s : State) : Prop :=
      (fn.toNat < 0x40 ∧ s.idu.icm = 0) ∨ (0x80 ≤ fn.toNat ∧ fn.toNat ≤ 0xBF)
    permitted 0 native ∧ permitted 0x3F native ∧ ¬permitted 0x3F user ∧ ¬permitted 0x40 native ∧ ¬permitted 0x7F native ∧
      permitted 0x80 user ∧ permitted 0xBF user ∧ ¬permitted 0xC0 native ∧ native.arithPending = false ∧
      owing.arithPending = true := by
  decide +kernel

theorem test_witness_HwReiReturns :
    pal.palOpcodeAllowed = true ∧ pal.palmode = true ∧ pal.arithPending = false ∧
      { pal with arithPending := true }.palOpcodeAllowed = true ∧ { pal with arithPending := true }.palmode = true ∧
      allowed.palOpcodeAllowed = true ∧ allowed.palmode = false ∧
      native.palOpcodeAllowed = false ∧ native.arithPending = false ∧
      owing.palOpcodeAllowed = false ∧ owing.arithPending = true := by
  decide +kernel

theorem test_witness_HwLoadAndStoreResults :
    let r : DRef :=
      { write := false, size := 8, phys := true, hw := true, lock := true, va := 0x7FFFFFFFFF, ra := 2, opcode := 0x1B }
    let w : DRef := { write := true, size := 4, phys := true, hw := true, va := 0xFFFFEFFFFF, ra := 2, opcode := 0x1F }
    pal.palOpcodeAllowed = true ∧ pal.reaches r 0x7FFFFFFFF8 ∧ pal.reaches w 0xFFFFEFFFFC := by
  simp only [State.reaches]
  and_intros <;> decide +kernel

theorem test_witness_InternalRegistersAreReachable :
    0x100 ∈ readableIprs ∧ 0x157 ∈ readableIprs ∧ 0x101 ∈ writableIprs ∧ 0x157 ∈ writableIprs ∧
      pal.palOpcodeAllowed = true ∧ allowed.palOpcodeAllowed = true ∧
      ((0x2000000000 : Quad).getLsbD 18 = false ∧ (0x2000000000 : Quad).getLsbD 37 = true) ∧
      (pal.writeReg 1 0x17).readReg 1 = 0x17 ∧ (0x17 : Quad) &&& 0x28 = 0 ∧
      after (.hw_mtpr 1 1 0x217) ({ waiting with idu := allowed.idu }.writeReg 1 0)
        (·.memsys.caches.posted == [.resume]) = true := by
  decide +kernel

/-- After HW_MTPR of each of these registers in PALmode, HW_MFPR is allowed; so it is in native mode after an ICSR with HWE. -/
theorem test_witness_IprsReadBackWhatWasWritten :
    ([0x103, 0x108, 0x109, 0x10A, 0x10B, 0x10E, 0x10F, 0x110, 0x20F, 0x213, 0x216, 0x140, 0x157] : List (BitVec 16)).all
      (fun n => after (.hw_mtpr 1 1 n) (pal.writeReg 1 0xFFFFFFFFFFFFFFD7) fun t => t.palOpcodeAllowed) = true ∧
    ([0x118, 0x217, 0x11C] : List (BitVec 16)).all
      (fun n => after (.hw_mtpr 1 1 n) (allowed.writeReg 1 0x202C020000) fun t => t.palOpcodeAllowed) = true ∧
    (pal.writeReg 1 0xFFFFFFFFFFFFFFD7).readReg 1 &&& 0x28 = 0 ∧ (0x202C020000 : Quad).getLsbD 18 = false ∧
    (0x202C020000 : Quad).getLsbD 37 = true ∧ allowed.idu.icsr.getLsbD 8 = false ∧ allowed.idu.icsr.getLsbD 9 = false ∧
    7 ≤ pal.model.sinceMtu := by
  decide +kernel

theorem test_witness_UndefinedPalFormsStop :
    pal.palOpcodeAllowed = true ∧ (0x2000 : BitVec 14) ≠ 0 ∧ (1 : Reg) ≠ 2 ∧ (0x101 : BitVec 16).toNat ∉ readableIprs ∧
      (0x100 : BitVec 16).toNat ∉ writableIprs ∧ (0x158 : BitVec 16).toNat ∉ writableIprs ∧
      (0x158 : BitVec 16).toNat ∉ [0x118, 0x20F] ∧ (pal.readReg 1).getLsbD 37 = false ∧
      ((pal.writeReg 1 0x2000040000).readReg 1).getLsbD 18 = true ∧ (pal.writeReg 1 0x20).readReg 1 &&& 0x28 ≠ 0 := by
  decide +kernel

theorem test_witness_FloatingMoveResults_and_FpcrReadsBack :
    native.fpEnabled = true ∧ (0x0001000000000000 : Quad).toNat / 2 ^ 49 % 2 ^ 3 = 0 := by
  decide +kernel

/-- ADDS, DIVT/SUID, ADDF/C and DIVG/SU, at both ends of each range of function codes; a nonfinite operand, a zero and one that is
neither. -/
theorem test_witness_FloatingArithmeticFollowsItsWord :
    ([(.adds_c 1 2 3, 0x16, 0), (.divs_suid 1 2 3, 0x16, 3), (.addt 1 2 3, 0x16, 0x20), (.divt_suid 1 2 3, 0x16, 0x23),
      (.subt 1 2 3, 0x16, 0x21), (.mulg 1 2 3, 0x15, 0x22), (.addf_c 1 2 3, 0x15, 0), (.divg_su 1 2 3, 0x15, 0x23)] :
      List (Instr × Nat × Nat)).all
      (fun p => p.1.opcode == p.2.1 && p.1.function % 2 ^ 6 == p.2.2 && (arithmeticOf p.2.2).isSome) = true ∧
      native.fpEnabled = true ∧ arithmeticOf 0x23 = some .div ∧ readT (native.readFreg 1) = .zero false ∧
      readT 0x8000000000000000 = .zero true ∧ readT 0x7FF0000000000000 = .nonfinite ∧
      readT 0x3FF0000000000000 = .finite false 0x10000000000000 (-52) := by
  decide +kernel

/-- One instruction for each clause. -/
theorem test_witness_FloatingConversionsFollowTheirWords :
    ([(.cvtts 1 2, 0x16, 0x2C), (.cvtst_s 1 2, 0x16, 0x2C), (.cvttq 1 2, 0x16, 0x2F), (.cvtqs 1 2, 0x16, 0x3C),
      (.cvtqt 1 2, 0x16, 0x3E), (.cmptun 1 2 3, 0x16, 0x24), (.cmpteq 1 2 3, 0x16, 0x25), (.cmptlt 1 2 3, 0x16, 0x26),
      (.cmptle 1 2 3, 0x16, 0x27), (.cvtdg 1 2, 0x15, 0x1E), (.cvtgf 1 2, 0x15, 0x2C), (.cvtgd 1 2, 0x15, 0x2D),
      (.cvtgq 1 2, 0x15, 0x2F), (.cvtqf 1 2, 0x15, 0x3C), (.cvtqg 1 2, 0x15, 0x3E), (.cmpgeq 1 2 3, 0x15, 0x25),
      (.cmpglt 1 2 3, 0x15, 0x26), (.cmpgle 1 2 3, 0x15, 0x27)] : List (Instr × Nat × Nat)).all
      (fun p => p.1.opcode == p.2.1 && p.1.function % 2 ^ 6 == p.2.2) = true ∧
      (Instr.cvtts 1 2).function / 2 ^ 6 % 2 ^ 4 ≠ 10 ∧ (Instr.cvtst_s 1 2).function / 2 ^ 6 % 2 ^ 4 = 10 ∧
      native.fpEnabled = true := by
  decide +kernel

theorem test_witness_ExactResultsAreExact :
    readT 0x4008000000000000 ≠ .nonfinite ∧ readT 0x4008000000000000 = .finite false 0x18000000000000 (-51) ∧
      readT 0x8000000000000000 = .zero true ∧ (FpOperand.zero true).rational + (FpOperand.zero false).rational = 0 := by
  refine ⟨?_, ?_, ?_, by norm_num [FpOperand.rational]⟩ <;> decide +kernel

theorem test_witness_RoundingFollowsItsMode :
    (2 : Nat) ≤ 2 ∧ (⟨false, 1, 3, 0⟩ : Exact).num ≠ 0 ∧ (⟨false, 1, 3, 0⟩ : Exact).den ≠ 0 := by
  decide +kernel

/-- For S_floating: 2^128, which overflows; the greatest number below 2^-126, which underflows; 2^-126, which does
neither. -/
theorem test_witness_RangeChecksAndEncoding :
    (2 : ℚ) ^ FpFormat.s.overflowExp ≤ (roundTo 24 .chop ⟨false, 1, 1, 128⟩).magnitude ∧
      (roundTo 24 .chop ⟨false, 2 ^ 24 - 1, 1, -150⟩).magnitude < (2 : ℚ) ^ FpFormat.s.underflowExp ∧
      (2 : ℚ) ^ FpFormat.s.underflowExp ≤ (roundTo 24 .chop ⟨false, 1, 1, -126⟩).magnitude ∧
      (roundTo 24 .chop ⟨false, 1, 1, -126⟩).magnitude < (2 : ℚ) ^ FpFormat.s.overflowExp ∧
      (⟨true, 0, 1, 0⟩ : Exact).num = 0 ∧ (⟨true, 5, 2, 0⟩ : Exact).den ≠ 0 := by
  have a : roundTo 24 .chop ⟨false, 1, 1, 128⟩ = ⟨2 ^ 23, 105, false⟩ := by decide +kernel
  have b : roundTo 24 .chop ⟨false, 2 ^ 24 - 1, 1, -150⟩ = ⟨2 ^ 24 - 1, -150, false⟩ := by decide +kernel
  have c : roundTo 24 .chop ⟨false, 1, 1, -126⟩ = ⟨2 ^ 23, -149, false⟩ := by decide +kernel
  rw [a, b, c]
  norm_num [Rounded.magnitude, FpFormat.overflowExp, FpFormat.underflowExp]

/-- The operates; a result whose trap is enabled and one that has none. -/
theorem test_witness_FloatingOperatesComplete :
    (Instr.addt_sui 1 2 3).wf = true ∧ (Instr.mt_fpcr 1 1 1).wf = true ∧ (Instr.addt_sui 1 2 3).opcode ∈ [0x15, 0x16, 0x17] ∧
      (Instr.mt_fpcr 1 1 1).opcode ∈ [0x15, 0x16, 0x17] ∧ native.fpEnabled = true ∧
      (Exc.dze.getLsbD 1 && ([true, true, true, false, false, false] : List Bool).getD 1 false) = true ∧
      ∀ k < 6, ((Exc.unf ||| Exc.ine).getLsbD k && ([true, true, true, false, false, false] : List Bool).getD k false) = false := by
  decide +kernel

/-- The ends of the longword range, inside and outside. -/
theorem test_witness_QuadwordToLongword :
    native.fpEnabled = true ∧ ((native.writeFreg 1 0xFFFFFFFF80000000).readFreg 1).toInt = -2 ^ 31 ∧
      ((native.writeFreg 1 0x7FFFFFFF).readFreg 1).toInt = 2 ^ 31 - 1 ∧
      ((native.writeFreg 1 0x80000000).readFreg 1).toInt = 2 ^ 31 := by
  decide +kernel

theorem test_witness_DisabledInstructionsRaise :
    (Instr.fbeq 1 0).opcode ∈ [0x15, 0x16, 0x17, 0x20, 0x21, 0x22, 0x23, 0x24, 0x25, 0x26, 0x27, 0x31, 0x32, 0x33, 0x35, 0x36,
        0x37] ∧ disabled.fpEnabled = false ∧
      (Instr.ldbu 1 2 0).opcode ∈ [0x0A, 0x0C, 0x0D, 0x0E, 0x1C] ∧ disabled.byteWordEnabled = false ∧
      (Instr.hw_rei 0).opcode ∈ [0x19, 0x1B, 0x1D, 0x1E, 0x1F] ∧ native.pc.toNat % 2 = 0 ∧
      native.idu.icsr.getLsbD 27 = false ∧ user.idu.icm ≠ 0 := by
  decide +kernel

/-- Words: unlisted ones of opcodes 15, 16 and 1C, SRC = 01, unlisted ones of opcodes 10 and 18, TYP 00 and 01. -/
theorem test_witness_DisabledInstructionsRaise_words :
    (0x5400FFE0 : Long).toNat / 2 ^ 26 = 0x15 ∧ disabled.fpEnabled = false ∧
      (0x58000200 : Long).toNat / 2 ^ 26 = 0x16 ∧ (0x58000200 : Long).toNat / 2 ^ 9 % 4 = 1 ∧
      (0x70000FE0 : Long).toNat / 2 ^ 26 = 0x1C ∧ disabled.byteWordEnabled = false ∧ native.byteWordEnabled = true ∧
      ([0x40000FE0, 0x44000020, 0x48000FE0, 0x4C000020, 0x5400FFE0, 0x5800FFE0, 0x5C000000, 0x60000001, 0x70000FE0] :
        List Long).all (fun w => decide (functionOf w ∉ functionCodes (w.toNat / 2 ^ 26))) = true ∧ native.fpEnabled = true ∧
      (0x5800FFE0 : Long).toNat / 2 ^ 9 % 4 ≠ 1 ∧
      ([0x78000000, 0x78004000] : List Long).all
        (fun w => decide (w.toNat / 2 ^ 26 = 0x1E ∧ w.toNat / 2 ^ 14 % 4 < 2)) = true ∧ pal.palOpcodeAllowed = true := by
  decide +kernel

/-- A request by irq_h<3> at level 23, an enabled kernel AST, and one of performance counter 2 at level 29. -/
theorem test_witness_InterruptRequests :
    let s := { native with
      pins := { native.pins with irq := 8 }, idu := { native.idu with iplr := 22, astrr := 8, aster := 8 } }
    s.interruptDeliverable = true ∧ s.intid = 23 ∧ (20 ≤ 23 ∧ 23 ≤ 23 ∧ s.pins.irq.getLsbD 3 = true) ∧
      s.idu.astPending = true ∧ (0 : Nat) < 4 ∧ s.idu.astrr.getLsbD (3 - 0) = true ∧
      let c := { s.idu with icsr := 0x2024020200, pcRequests := 4, pmctr := 0x800 }
      { s with idu := c }.intid = 29 ∧ c.icsr.toNat / 2 ^ 8 % 4 ≠ 0 ∧ c.pcRequests.getLsbD 2 = true ∧
        c.pmctr.toNat / 2 ^ (14 - 2 * 2) % 4 ∈ [2, 3] := by
  decide +kernel

/-- S0 with the halt interrupt, postponed as long as it may be. -/
noncomputable def interrupted : State :=
  { native with pins := { native.pins with halt := true }, model := { native.model with postponed := Config.interruptBound } }

theorem test_witness_InterruptsAreTaken :
    (interrupted.memsys.caches.posted = [] ∧ interrupted.model.inbox = [] ∧ interrupted.machineChecks = [] ∧
      interrupted.arithPending = false ∧ interrupted.model.former = [] ∧ (∀ e ∈ interrupted.memsys.maf, e.waits = false)) ∧
      interrupted.interruptDeliverable = true ∧
      (∀ form, interrupted.translateFetch (interrupted.pc &&& ~~~3) ≠ .iaccvio form) ∧
      Config.interruptBound ≤ interrupted.model.postponed ∧ interrupted.entryShadow = false ∧
      interrupted.mtu.mafMode.getLsbD 5 = false := by
  refine ⟨⟨rfl, rfl, rfl, rfl, rfl, by decide +kernel⟩, by decide +kernel, fun form => ?_, Nat.le_refl _, by decide +kernel,
    by decide +kernel⟩
  have h : interrupted.translateFetch (interrupted.pc &&& ~~~3) = .ok 0x10000 := by decide +kernel
  rw [h]
  exact fun h => nomatch h

/-- The other clauses: HW_MTPR DTB_IS at the program counter, with ICSR<HWE>; a load that MAF_MODE<MAF_ARB_DISABLE> holds. -/
theorem test_witness_InterruptsAreTaken_stopped :
    let shadow := { allowed with pins := { native.pins with halt := true } }.withFetchWord 32 0x77FF020B
    let held := { waiting with pins := { native.pins with halt := true } }
    (shadow.interruptDeliverable = true ∧ shadow.entryShadow = true) ∧
      (held.interruptDeliverable = true ∧ held.entryShadow = false ∧ held.mtu.mafMode.getLsbD 5 = true ∧
        ∃ e ∈ held.memsys.maf, e.waits = true ∧ e.slot.discards = false) := by
  decide +kernel

/-- A fetch that misses, one that the protection forbids, one from a bad address, one that two entries map. -/
theorem test_witness_FetchFaultsAreTaken :
    let miss := { native with pc := 0x2000 }
    let bad := { native with pc := 0x0000040000000000 }
    let e : ItbEntry := ⟨true, 0, 0, fetchPage⟩
    let denied := { user with pc := 0, idu := { user.idu with itb := user.idu.itb.set 0 e } }
    let two := { denied with idu := { denied.idu with itb := denied.idu.itb.set 47 e } }
    (miss.memsys.caches.posted = [] ∧ miss.model.inbox = [] ∧ miss.machineChecks = [] ∧ miss.arithPending = false ∧
      miss.model.former = [] ∧ (∀ e ∈ miss.memsys.maf, e.waits = false) ∧
      miss.palmode = false ∧ miss.interruptDeliverable = false ∧ miss.translateFetch (miss.pc &&& ~~~3) = .itbmiss) ∧
    (bad.palmode = false ∧ bad.interruptDeliverable = false ∧ bad.entryShadow = false ∧
      bad.translateFetch (bad.pc &&& ~~~3) = .iaccvio false) ∧
    (denied.palmode = false ∧ denied.interruptDeliverable = false ∧ denied.entryShadow = false ∧
      denied.translateFetch (denied.pc &&& ~~~3) = .iaccvio true) ∧
    (two.palmode = false ∧ two.interruptDeliverable = false ∧ two.translateFetch (two.pc &&& ~~~3) = .multiple) := by
  decide +kernel

/-- FLUSH of the locked block, and the other commands; a write that ends just below the CBU registers. -/
theorem test_witness_OtherAgentsClearTheLock :
    native.model.cbuQuiet = false ∧ native.model.deaf = false ∧ oddParity 1 0x20000 true ∧ oddParity 4 0x20000 true ∧
      oddParity 8 0xFFFFFFFFF0 false ∧
      { native with lockPa := 0x2001F }.lockPa.toNat / 32 = (0x20000 : PAddr).toNat / 32 ∧
      native.lockPa.toNat / 32 ≠ (0x20000 : PAddr).toNat / 32 ∧
      (0xFFFFEFFFFE : PAddr).toNat + ([1, 2] : List Byte).length ≤ 0xFFFFF00000 ∧ native.memsys.wb = [] ∧
      Memory.wf native.mem = true := by
  unfold oddParity
  decide +kernel

/-- Quadword loads of every readable register, and stores to every writable one, by every form. -/
theorem test_witness_CbuRegistersAreReached :
    let base := { native with
      cbu := { native.cbu with bcControl := 0, scLocked := true, bcTagLocked := true }
      model := { native.model with afterMb := true } }
    let at_ (k : Quad) (v : Quad) : State := (base.writeReg 1 (0xFFFFFCFFFFF00000 + k)).writeReg 2 v
    let pa (k : Quad) : PAddr := 0xFFFFF00000 + k.setWidth 40
    let s := at_ 0xA8 0
    (base.model.cbuStore = false ∧ base.cbu.bcControl.getLsbD 1 = false ∧ base.cbu.scLocked = true ∧
      base.cbu.bcTagLocked = true ∧ base.mtu.dcMode.getLsbD 1 = false ∧ base.model.owed.storesHeld = false ∧
      base.model.afterMb = true ∧ base.model.cbuQuiet = false ∧ base.memsys.imaf = []) ∧
    ([0xA8, 0xE8, 0x188, 0x148, 0x68, 0x108, 0x168] : List Quad).all (fun k => let s := at_ k 0
      s.translate (loadRef 0x29 8 2 1 0 s) == .ok (pa k) && !s.loadHeld (loadRef 0x29 8 2 1 0 s) (pa k)) = true ∧
    (s.translate { loadRef 0x0B 8 2 1 7 s with masked := true } = .ok (pa 0xA8) ∧
      s.translate { storeRef 0x0F 8 2 1 7 s with masked := true } = .ok (pa 0xA8) ∧
      s.translate (loadRef 0x21 8 2 1 0 s) = .ok (pa 0xA8) ∧ s.translate (storeRef 0x25 8 2 1 0 s) = .ok (pa 0xA8) ∧
      s.translate (loadRef 0x23 8 2 1 0 s) = .ok (pa 0xA8) ∧ s.translate (storeRef 0x27 8 2 1 0 s) = .ok (pa 0xA8) ∧
      s.fpEnabled = true ∧ s.byteWordEnabled = true ∧ allowed.palOpcodeAllowed = true ∧
      s.translate { write := false, size := 8, phys := true, hw := true, va := 0xFFFFF000A8, ra := 2, opcode := 0x1B } =
        .ok (pa 0xA8) ∧
      s.translate { write := true, size := 8, phys := true, hw := true, va := 0xFFFFF000A8, ra := 2, opcode := 0x1F } =
        .ok (pa 0xA8)) ∧
    (native.mtu.mafMode.getLsbD 5 = false ∧ waiting.mtu.mafMode.getLsbD 5 = true ∧
      waiting.loadHeld (loadRef 0x29 8 3 1 0 waiting) (pa 0xA8) = false) ∧
    ([(0x1C8, 0x17441, 0x88008), (0x128, 0x8070, 0xA000000), (0xA8, 0xF000, 0x70000), (0xA8, 0xF002, 0x70000)] :
      List (Quad × Quad × Quad)).all (fun p => let s := at_ p.1 p.2.1
        s.translate (storeRef 0x2D 8 2 1 0 s) == .ok (pa p.1) && s.readReg 2 &&& p.2.2 == 0) = true ∧
    (0xF000 : Quad).toNat / 2 ^ 13 % 8 = 7 ∧ (0xF000 : Quad).getLsbD 0 = false ∧ (0xF002 : Quad).getLsbD 1 = true := by
  decide +kernel

/-- The stops: the ends of the region, another width, a lock, the wrong direction, ALLOC_CYC, the reserved values, no MB. -/
theorem test_witness_CbuRegistersAreReached_stops :
    let at_ (k : Quad) (v : Quad) : State := (native.writeReg 1 (0xFFFFFCFFFFF00000 + k)).writeReg 2 v
    let pa (k : Quad) : PAddr := 0xFFFFF00000 + k.setWidth 40
    let loads (k : Quad) (r : State → DRef) : Bool := let s := at_ k 0
      s.translate (r s) == .ok (pa k) && !s.loadHeld (r s) (pa k) && !s.mtu.dcMode.getLsbD 1
    let stores (k v : Quad) (r : State → DRef) : Bool := (at_ k v).translate (r (at_ k v)) == .ok (pa k)
    (0xFFFFF00000 ≤ (pa 0).toNat ∧ (pa 0).toNat % 2 ^ 20 ∉ cbuOffsets ∧ (pa 0xFFFF8).toNat % 2 ^ 20 ∉ cbuOffsets ∧
      (pa 0x1C8).toNat % 2 ^ 20 ∈ cbuOffsets) ∧
    loads 0 (loadRef 0x29 8 2 1 0) = true ∧ stores 0xFFFF8 0 (storeRef 0x2D 8 2 1 0) = true ∧
    loads 0xA8 (loadRef 0x28 4 2 1 0) = true ∧ loads 0xA8 (fun s => { loadRef 0x2B 8 2 1 0 s with lock := true }) = true ∧
    stores 0xA8 0 (storeRef 0x2C 4 2 1 0) = true ∧ stores 0xA8 0 (storeRef 0x2F 8 2 1 0) = true ∧
    loads 0xA8 (loadRef 0x0A 1 2 1 0) = true ∧ loads 0xA8 (loadRef 0x0C 2 2 1 0) = true ∧
    loads 0xA8 (fun s => { loadRef 0x2A 4 2 1 0 s with lock := true }) = true ∧ loads 0xA8 (loadRef 0x20 4 2 1 0) = true ∧
    loads 0xA8 (loadRef 0x22 4 2 1 0) = true ∧ stores 0xA8 0 (storeRef 0x0E 1 2 1 0) = true ∧
    stores 0xA8 0 (storeRef 0x0D 2 2 1 0) = true ∧ stores 0xA8 0 (storeRef 0x2E 4 2 1 0) = true ∧
    stores 0xA8 0 (storeRef 0x24 4 2 1 0) = true ∧ stores 0xA8 0 (storeRef 0x26 4 2 1 0) = true ∧
    { native with cbu := { native.cbu with bcControl := 2 } }.cbu.bcControl.getLsbD 1 = true ∧
    loads 0x128 (loadRef 0x29 8 2 1 0) = true ∧ stores 0xE8 0 (storeRef 0x2D 8 2 1 0) = true ∧
    stores 0xA8 0x10000 (storeRef 0x2D 8 2 1 0) = true ∧ (0x10000 : Quad) &&& 0x70000 ≠ 0 ∧
    stores 0xA8 0xF001 (storeRef 0x2D 8 2 1 0) = true ∧ (0xF001 : Quad) &&& 0x70000 = 0 ∧
    ¬((0xF001 : Quad).toNat / 2 ^ 13 % 8 ∈ [1, 2, 4] ∨ (0xF001 : Quad).toNat / 2 ^ 13 % 8 = 7 ∧
      (0xF001 : Quad).getLsbD 0 = false) ∧
    stores 0x128 0x2000000 (storeRef 0x2D 8 2 1 0) = true ∧ stores 0x1C8 8 (storeRef 0x2D 8 2 1 0) = true ∧
    native.model.afterMb = false ∧ native.model.owed.storesHeld = false ∧
    (stores 0xA8 0xF000 (storeRef 0x2D 8 2 1 0) = true ∧ stores 0x128 0x8070 (storeRef 0x2D 8 2 1 0) = true ∧
      stores 0x1C8 0x17441 (storeRef 0x2D 8 2 1 0) = true) := by
  decide +kernel

/-- A cacheable request of the Istream is outstanding, and STQ would change BC_CONTROL<00>, or ALLOC_CYC alone: the first stops. -/
theorem test_witness_CbuRegistersAreReached_asked :
    let s := { native with
      memsys := { native.memsys with imaf := [0x7FFFFFFFE0] }, model := { native.model with afterMb := true } }
    let at_ (v : Quad) : State := (s.writeReg 1 0xFFFFFCFFFFF00128).writeReg 2 v
    (s.memsys.imaf = [0x7FFFFFFFE0] ∧ (0x7FFFFFFFE0 : PAddr).toNat < 2 ^ 39) ∧ (0x8071 : Quad).getLsbD 0 ≠ native.cbu.bcControl.getLsbD 0 ∧
      isNext (exec (.stq 2 1 0) (at_ 0x8071)) = false ∧ isNext (exec (.stq 2 1 0) (at_ 0x8072)) = true := by
  decide +kernel

/-- ECC and byte parity, with and without the Bcache; the first Icache error with TMR set, and a later one. -/
theorem test_witness_ErrorsAreRecorded :
    let s := { native with cbu := { native.cbu with bcControl := 0x41 } }
    s.cbu.bcControl.getLsbD 15 = false ∧ s.cbu.eiStat &&& 0x3B = 0 ∧
      s.cbu.eiStat &&& 0x33 = 0 ∧ s.cbu.bcControl.getLsbD 6 = true ∧ s.cbu.bcControl.getLsbD 28 = false ∧
      (s.cbu.bcOn = true ∧ (0x7FFFFFFFF0 : PAddr).toNat < 2 ^ 39) ∧ inCbu 0x7FFFFFFFF0 = false ∧ inCbu 0xFFFFEFFFF0 = false ∧
      { s with cbu := { s.cbu with bcControl := 0 } }.cbu.bcControl.getLsbD 6 = false ∧ s.model.cbuQuiet = false ∧
      ¬oddParity 1 0x20000 false ∧ (4 : BitVec 3) &&& 3 = 0 ∧ (5 : BitVec 3) &&& 3 ≠ 0 := by
  unfold oddParity
  decide +kernel

/-- A load that waits; a block in the Scache; machine checks owed, at once and postponed as long as they may be. -/
theorem test_witness_MachineCheckAndReset :
    (inCbu 0x20008 = false ∧ native.memsys.maf = [] ∧ loading.memsys.maf = [outstanding] ∧ outstanding.waits = false ∧
      outstanding.slot = .int 2 ∧ (2 : Reg) ≠ 31 ∧ outstanding.own = 0 ∧ outstanding.addr = 0x20008 ∧ outstanding.opcode = 0x29 ∧
      outstanding.size = 8) ∧
    (caching.memsys.wb = [] ∧ Memory.wf caching.mem = true ∧ caching.inScache 0x20008 = true ∧
      caching.memsys.caches.storedByte caching.cacheCfg 0x2000F = false ∧ (0x20008 : PAddr).toNat < 2 ^ 39) ∧
    (native.memsys.caches.posted = [] ∧ native.model.inbox = [] ∧ native.entryShadow = false ∧ pal.entryShadow = false ∧
      true ∈ { pal with machineChecks := [false, true] }.machineChecks ∧ native.arithPending = false ∧
      owing.arithPending = true ∧ (∀ e ∈ owing.memsys.maf, e.waits = false) ∧ native.model.cbuQuiet = false) ∧
    (native.memsys.caches.underScache = [] ∧ native.memsys.caches.underBcache = []) := by
  decide +kernel

theorem test_witness_MachineCheckAndReset_postponed :
    let s := { native with machineChecks := [false], model := { native.model with checkWaited := Config.machineCheckBound } }
    s.machineChecks ≠ [] ∧ Config.machineCheckBound ≤ s.model.checkWaited :=
  ⟨by simp, Nat.le_refl _⟩

theorem test_witness_OnlyNamedRegistersChange :
    (Instr.addl 1 (.reg 2) 3).wf = true ∧ isNext (exec (.addl 1 (.reg 2) 3) native) = true ∧
      intName 4 ∉ writesOf (encode (.addl 1 (.reg 2) 3)) ∧ shadowSlot 8 = some 0 ∧
      intName 8 ∉ writesOf (encode (.addl 1 (.reg 2) 3)) ∧ fpName 3 ∉ writesOf (encode (.addl 1 (.reg 2) 3)) := by
  decide +kernel

theorem test_witness_OnlyStoresChangeMemory :
    isNext (exec (.ldq_l 2 1 0) atData) = true ∧
      (Instr.ldq_l 2 1 0).opcode ∉ [0x0D, 0x0E, 0x0F, 0x1F, 0x24, 0x25, 0x26, 0x27, 0x2C, 0x2D, 0x2E, 0x2F] := by
  decide +kernel

theorem test_witness_OnlyPalcodeChangesInternalRegisters :
    isNext (exec (.stq 2 1 0) atHole) = true ∧ (Instr.stq 2 1 0).opcode ∉ [0x19, 0x1B, 0x1D, 0x1E, 0x1F] ∧
      native.palmode = false ∧ after (.call_pal 0x83) native (·.palmode) = true ∧ allowed.palmode = false ∧
      after (.hw_rei 0) { allowed with idu := { allowed.idu with excAddr := 0x1235 } } (·.palmode) = true ∧
      (Instr.hw_rei 0).opcode = 0x1E := by
  decide +kernel

theorem test_witness_PalshadowRegistersOverlay :
    isNext (exec (.addl 1 (.reg 2) 8) native) = true ∧
      { pal.idu with icsr := 0x2064020000 }.icsr.getLsbD 30 = true ∧ pal.pc.toNat % 2 = 1 ∧
      native.pc.toNat % 2 = 0 ∧ native.readReg 8 = native.regs.get 8 := by
  decide +kernel

end Sys2Proof.Tests
end

/-! # What keeps the machine well formed

`State.ok` part by part, so that an update needs an argument only for the part that it touches. -/

namespace Sys2Proof.Machine

/-- The part of `State.ok` about the IDU: the ITB and its pointer, EXC_ADDR<1>, the bits of ICSR. -/
def Idu.Ok (i : Idu) : Prop :=
  i.itb.length = 48 ∧ i.itbPtr < 48 ∧ bit i.excAddr 1 = false ∧ bit i.icsr 37 = true ∧ i.icsr &&& icsrMask = i.icsr

/-- The part of `State.ok` about the MTU: the DTB and its pointer, DC_TEST_CTL<2>. -/
def Mtu.Ok (m : Mtu) : Prop := m.dtb.length = 64 ∧ m.dtbPtr < 64 ∧ m.dcTestCtl.getLsbD 2 = false

theorem State.ok_iff (s : State) : s.ok = true ↔
    Memory.wf s.mem = true ∧ s.idu.Ok ∧ s.mtu.Ok ∧ bit s.pc 1 = false ∧ s.memsys.wb.length ≤ 6 := by
  simp only [State.ok, State.tbsOk, State.fixedBitsOk, State.writeBufferOk, Idu.Ok, Mtu.Ok, Bool.and_eq_true, Nat.blt_eq,
    Nat.ble_eq, beq_iff_eq, Bool.not_eq_true']
  tauto

/-- Each part of the well-formedness of `s` carries over to `t`. -/
structure Keeps (s t : State) : Prop where
  mem : Memory.wf s.mem = true → Memory.wf t.mem = true := by simp
  idu : s.idu.Ok → t.idu.Ok := by simp
  mtu : s.mtu.Ok → t.mtu.Ok := by simp
  pc : bit s.pc 1 = false → bit t.pc 1 = false := by simp
  wb : s.memsys.wb.length ≤ 6 → t.memsys.wb.length ≤ 6 := by simp

theorem Keeps.ok {s t : State} (h : Keeps s t) (hs : s.ok = true) : t.ok = true := by
  obtain ⟨hm, hi, hd, hp, hw⟩ := s.ok_iff.mp hs
  exact t.ok_iff.mpr ⟨h.mem hm, h.idu hi, h.mtu hd, h.pc hp, h.wb hw⟩

theorem Keeps.refl (s : State) : Keeps s s := {}

theorem Keeps.trans {s t u : State} (h : Keeps s t) (k : Keeps t u) : Keeps s u where
  mem := k.mem ∘ h.mem
  idu := k.idu ∘ h.idu
  mtu := k.mtu ∘ h.mtu
  pc := k.pc ∘ h.pc
  wb := k.wb ∘ h.wb

/-! ### Addresses: bit 1 -/

@[simp] theorem savedPc_bit1 (t pc : Quad) : bit (savedPc t pc) 1 = false := by
  simp only [bit, savedPc, BitVec.getLsbD_append]
  rfl

@[simp] theorem palAddress_bit1 (base : BitVec 50) (off : BitVec 14) : bit (palAddress base off) 1 = off.getLsbD 1 := by
  simp only [bit, palAddress, BitVec.getLsbD_append]
  simp

@[simp] theorem Entry.offset_bit1 (e : Entry) : e.offset.getLsbD 1 = false := by cases e <;> rfl

@[simp] theorem callPalOffset_bit1 (fn : BitVec 26) : (callPalOffset fn).getLsbD 1 = false := by
  simp only [callPalOffset, BitVec.getLsbD_append]
  rfl

@[simp] theorem branchTarget_bit1 (pc : Quad) (disp : BitVec 21) : bit (branchTarget pc disp) 1 = bit pc 1 := by
  simp only [bit, branchTarget, slice, BitVec.getLsbD_append]
  simp

@[simp] theorem jumpTarget_bit1 (pc t : Quad) : bit (jumpTarget pc t) 1 = false := by
  simp only [bit, jumpTarget, BitVec.getLsbD_append]
  rfl

/-! ### Registers of the IDU and the MTU -/

@[simp] theorem Idu.Ok_excAddr (i : Idu) (t pc : Quad) : i.Ok → { i with excAddr := savedPc t pc }.Ok := by
  rintro ⟨hl, hp, -, hi⟩
  exact ⟨hl, hp, savedPc_bit1 t pc, hi⟩

theorem State.latchMm_keeps (s : State) (va : Quad) (m : BitVec 17) : Keeps s (s.latchMm va m) where
  mtu h := by
    unfold State.latchMm
    cases s.mtu.mmLock <;> exact h

theorem State.integerTrap_keeps (s : State) (r : Reg) : Keeps s (s.integerTrap r) where
  idu h := h

theorem Idu.noteSwc_ok (i : Idu) (b : Bool) (h : i.Ok) : (i.noteSwc b).Ok := by cases b <;> exact h

theorem State.fpTrap_keeps (s : State) (b : Bool) (e : Exc) (r : Reg) : Keeps s (s.fpTrap b e r) where
  idu h := Idu.noteSwc_ok (s.idu.noteExc e) b h

end Sys2Proof.Machine

/-! # What the operations of an instruction hand on

`Hands s u`: an access has gone from `s` to `u` without touching a register, the program counter or the bit that overlays
the PALshadow registers, and has kept the machine well formed. -/

namespace Sys2Proof.Machine

/-! ### The memory system -/

theorem MemSys.conditional_length (ok flag : Bool) (e : WbEntry) (c : CacheCfg) (m : MemSys) :
    (MemSys.conditional ok flag e c m).wb.length = m.wb.length := by
  unfold MemSys.conditional
  cases e.addr.getLsbD 39 || ok with
  | true =>
    simp only [MemSys.sendConditional, cond_true]
    cases e.addr.getLsbD 39 <;> simp [MemSys.onCaches]
  | false => cases flag <;> rfl

theorem State.withMemSys_keeps {s : State} {f : CacheCfg → MemSys → MemSys}
    (h : s.memsys.wb.length ≤ 6 → (f s.cacheCfg s.memsys).wb.length ≤ 6) : Keeps s (s.withMemSys f) where
  wb := h

/-- A change of the memory system that does not lengthen the write buffer. -/
theorem State.withMemSys_keeps_of_le {s : State} {f : CacheCfg → MemSys → MemSys}
    (h : (f s.cacheCfg s.memsys).wb.length ≤ s.memsys.wb.length) : Keeps s (s.withMemSys f) :=
  State.withMemSys_keeps (Nat.le_trans h)

theorem State.loaded_keeps (s : State) (r : DRef) (pa : PAddr) : Keeps s (s.loaded r pa) where
  wb := Nat.le_trans (State.readMemSys_length s r pa _ _ _)

theorem State.stored_keeps (s : State) (n : Nat) (pa : PAddr) (v : Quad) : Keeps s (s.stored n pa v) where
  mem := s.stored_wf n pa v
  wb := MemSys.enter_length _ _ s.memsys

theorem State.condStored_keeps (s : State) (r : DRef) (pa : PAddr) (v : Quad) : Keeps s (s.condStored r pa v) where
  mem := s.condStored_wf r pa v
  wb _ := by
    have hd : ∀ b : Bool,
        (bif b then (s.dcacheStore r pa s).drained.drawn else (s.dcacheStore r pa s).drained).memsys.wb = [] := by
      intro b
      cases b <;> exact MemSys.sendAll_wb _ _
    unfold State.condStored
    dsimp only
    show (MemSys.conditional _ _ _ _ _).wb.length ≤ 6
    rw [MemSys.conditional_length, State.condWritten_memsys, hd]
    exact Nat.zero_le 6

theorem State.barrier_keeps (s : State) : Keeps s s.barrier where
  wb _ := by
    show (MemSys.sendAll _ _).wb.length ≤ 6
    rw [MemSys.sendAll_wb]
    exact Nat.zero_le 6

theorem State.writeBarrier_keeps (s : State) : Keeps s { s with memsys := s.memsys.writeBarrier } where
  wb h := (List.length_map ..).le.trans h

theorem State.hinted_keeps (s : State) (k : WriteKind) (va : Quad) : Keeps s (s.hinted k va) where
  wb h := by
    unfold State.hinted
    dsimp only
    show (bif _ then s.memsys else MemSys.enter _ _ s.memsys).wb.length ≤ 6
    generalize inCbu _ = b
    cases b with
    | true => exact h
    | false => exact MemSys.enter_length _ _ _ h

theorem State.discard_keeps (l : Longs) (s : State) : Keeps s (s.discard l) where
  mem := State.discard_wf l s
  wb h := by rwa [State.discard_wb]

end Sys2Proof.Machine

namespace Sys2Proof.Machine

/-! ### Internal processor registers -/

theorem State.noteSteps_keeps (s : State) : Keeps s s.noteSteps := by
  unfold State.noteSteps
  cases Nat.blt s.model.sinceMtu 7 <;> exact {}

theorem Idu.readItb_ok (i : Idu) (n : Nat) (h : i.Ok) : (i.readItb n).Ok :=
  ⟨h.1, Nat.mod_lt _ (by decide), h.2.2⟩

theorem Idu.fillItb_ok (i : Idu) (n : Nat) (p : ItbPte) (h : i.Ok) : (i.fillItb n p).Ok :=
  ⟨(List.length_set ..).trans h.1, Nat.mod_lt _ (by decide), h.2.2⟩

theorem Idu.invalidateItb_ok (i : Idu) (p : ItbEntry → Bool) (h : i.Ok) : (i.invalidateItb p).Ok :=
  ⟨(List.length_map ..).trans h.1, h.2⟩

theorem Mtu.readDtb_ok (m : Mtu) (h : m.Ok) : m.readDtb.Ok := ⟨h.1, Nat.mod_lt _ (by decide), h.2.2⟩

theorem Mtu.fillDtb_ok (m : Mtu) (tag : BitVec 30) (h : m.Ok) : (m.fillDtb tag).Ok :=
  ⟨(List.length_set ..).trans h.1, Nat.mod_lt _ (by decide), h.2.2⟩

theorem Mtu.invalidateDtb_ok (m : Mtu) (p : DtbEntry → Bool) (h : m.Ok) : (m.invalidateDtb p).Ok :=
  ⟨(List.length_map ..).trans h.1, h.2⟩

/-- HW_MFPR keeps the machine well formed and leaves ICSR alone. -/
theorem readIpr_keeps {s t : State} {i : Ipr} {v : Quad} (h : readIpr s i = some (v, t)) :
    Keeps s t ∧ t.idu.icsr = s.idu.icsr := by
  cases i with
  | itbPte =>
    cases h
    have hk := s.noteSteps_keeps
    exact ⟨⟨hk.mem, s.idu.readItb_ok _, hk.mtu, hk.pc, hk.wb⟩, rfl⟩
  | ivptbr =>
    have ht : t = s.drawn ∨ t = s := by
      revert h
      simp only [readIpr]
      cases s.icsrBit 28 with
      | false => exact fun h => .inl (congrArg Prod.snd (Option.some.inj h)).symm
      | true => exact fun h => .inr (congrArg Prod.snd (Option.some.inj h)).symm
    rcases ht with rfl | rfl <;> exact ⟨{}, rfl⟩
  | dtbPte =>
    cases h
    exact ⟨⟨id, id, s.mtu.readDtb_ok, id, id⟩, rfl⟩
  | _ =>
    cases h <;> exact ⟨⟨id, id, id, id, id⟩, rfl⟩

theorem and_icsrMask_bit37 (v : Quad) : bit (v &&& icsrMask) 37 = bit v 37 := by
  have hm : icsrMask.getLsbD 37 = true := by decide
  unfold bit
  rw [BitVec.getLsbD_and, hm, Bool.and_true]

theorem State.writeIcsr_keeps {s t : State} {v : Quad} (h : s.writeIcsr v = .next t) : Keeps s t := by
  unfold State.writeIcsr at h
  cases h18 : bit v 18 || !bit v 37 with
  | true =>
    rw [h18] at h
    cases h
  | false =>
    rw [h18] at h
    cases h
    have h37 : bit v 37 = true := by
      simp only [Bool.or_eq_false_iff, Bool.not_eq_false'] at h18
      exact h18.2
    refine ⟨id, fun ⟨hl, hp, he, _, _⟩ => ⟨hl, hp, he, ?_, ?_⟩, id, id, id⟩
    · exact (and_icsrMask_bit37 v).trans h37
    · show v &&& icsrMask &&& icsrMask = v &&& icsrMask
      rw [BitVec.and_assoc, BitVec.and_self]

/-- EXC_ADDR<1> reads as zero whatever is written (11_state_idu_iprs.md R133). -/
theorem and_not_two_bit1 (v : Quad) : bit (v &&& ~~~2) 1 = false := by
  have h2 : (~~~2 : Quad).getLsbD 1 = false := by decide
  unfold bit
  rw [BitVec.getLsbD_and, h2, Bool.and_false]

/-- HW_MTPR keeps the machine well formed. -/
theorem writeIpr_keeps {s t : State} {i : Ipr} {v : Quad} (h : writeIpr s v i = .next t) : Keeps s t := by
  cases i with
  | itbPte =>
    cases h
    have hk := s.noteSteps_keeps
    exact ⟨hk.mem, s.idu.fillItb_ok _ _, hk.mtu, hk.pc, hk.wb⟩
  | itbIa =>
    cases h
    refine ⟨id, fun hi => ?_, id, id, id⟩
    obtain ⟨hl, -, hr⟩ := s.idu.invalidateItb_ok (fun _ => true) hi
    exact ⟨hl, Nat.zero_lt_succ _, hr⟩
  | itbIap =>
    cases h
    exact ⟨id, s.idu.invalidateItb_ok _, id, id, id⟩
  | itbIs =>
    cases h
    exact ⟨id, s.idu.invalidateItb_ok _, id, id, id⟩
  | excAddr =>
    cases h
    exact ⟨id, fun ⟨hl, hp, _, hr⟩ => ⟨hl, hp, and_not_two_bit1 v, hr⟩, id, id, id⟩
  | icsr => exact State.writeIcsr_keeps h
  | dtbTag =>
    cases h
    exact ⟨id, id, s.mtu.fillDtb_ok _, id, id⟩
  | dtbIap =>
    cases h
    exact ⟨id, id, s.mtu.invalidateDtb_ok _, id, id⟩
  | dtbIa =>
    cases h
    refine ⟨id, id, fun hd => ?_, id, id⟩
    obtain ⟨hl, -, hr⟩ := s.mtu.invalidateDtb_ok (fun _ => true) hd
    exact ⟨hl, Nat.zero_lt_succ _, hr⟩
  | dtbIs =>
    cases h
    exact ⟨id, id, s.mtu.invalidateDtb_ok _, id, id⟩
  | mcsr =>
    simp only [writeIpr] at h
    revert h
    cases bit v 3 || bit v 5 <;> (intro h; cases h)
    exact ⟨id, id, id, id, id⟩
  | dcTestCtl =>
    cases h
    refine ⟨id, id, fun ⟨hl, hp, _⟩ => ⟨hl, hp, ?_⟩, id, id⟩
    have h4 : (~~~4 : BitVec 13).getLsbD 2 = false := by decide
    show (slice v 0 13 &&& ~~~4).getLsbD 2 = false
    rw [BitVec.getLsbD_and, h4, Bool.and_false]
  | _ =>
    cases h <;> exact ⟨id, id, id, id, id⟩

end Sys2Proof.Machine

namespace Sys2Proof.Machine

/-! ### Registers -/

/-- What decides how `t` names its registers, and what they hold, is as in `s`. -/
structure SameRegisters (s t : State) : Prop where
  regs : t.regs = s.regs := by simp
  shadow : t.shadow = s.shadow := by simp
  fregs : t.fregs = s.fregs := by simp
  pc : t.pc = s.pc := by simp
  icsr : t.idu.icsr = s.idu.icsr := by simp

/-- An access has gone from `s` to `u`, and an instruction goes on from there. -/
structure Hands (s u : State) : Prop where
  same : SameRegisters s u := by exact {}
  keeps : Keeps s u := by exact {}

/-- The registers of `t` are those of `s`, but for one that is named, which has been written. -/
inductive WritesOnly (l : List (BitVec 6)) (s t : State) : Prop where
  | nothing (hr : t.regs = s.regs) (hs : t.shadow = s.shadow) (hf : t.fregs = s.fregs)
  | int (r : Reg) (v : Quad) (hl : intName r ∈ l) (hr : t.regs = (s.writeReg r v).regs)
      (hs : t.shadow = (s.writeReg r v).shadow) (hf : t.fregs = s.fregs)
  | fp (r : Reg) (v : Quad) (hl : fpName r ∈ l) (hr : t.regs = s.regs) (hs : t.shadow = s.shadow)
      (hf : t.fregs = (s.writeFreg r v).fregs)

/-- What an instruction that writes at most the registers of a list makes of a state. -/
structure Follows (l : List (BitVec 6)) (s t : State) : Prop where
  registers : WritesOnly l s t
  keeps : Keeps s t

theorem Hands.refl (s : State) : Hands s s := {}

theorem SameRegisters.shadowOf {s u : State} (h : SameRegisters s u) (r : Reg) : u.shadowOf r = s.shadowOf r := by
  unfold State.shadowOf State.palmode State.icsrBit
  rw [h.pc, h.icsr]

theorem SameRegisters.writeReg {s u : State} (h : SameRegisters s u) (r : Reg) (v : Quad) :
    (u.writeReg r v).regs = (s.writeReg r v).regs ∧ (u.writeReg r v).shadow = (s.writeReg r v).shadow := by
  unfold State.writeReg
  rw [h.shadowOf]
  cases r == 31 with
  | true => exact ⟨h.regs, h.shadow⟩
  | false =>
    cases s.shadowOf r with
    | none => exact ⟨congrArg (·.set r.toFin v) h.regs, h.shadow⟩
    | some k => exact ⟨h.regs, congrArg (·.set k v) h.shadow⟩

theorem SameRegisters.writeFreg {s u : State} (h : SameRegisters s u) (r : Reg) (v : Quad) :
    (u.writeFreg r v).fregs = (s.writeFreg r v).fregs := by
  unfold State.writeFreg
  cases r == 31 with
  | true => exact h.fregs
  | false => exact congrArg (·.set r.toFin v) h.fregs

/-! ### Ends of an instruction -/

theorem State.writeReg_keeps (s : State) (r : Reg) (v : Quad) : Keeps s (s.writeReg r v) := {}
theorem State.writeFreg_keeps (s : State) (r : Reg) (v : Quad) : Keeps s (s.writeFreg r v) := {}
theorem State.advance_keeps (s : State) : Keeps s s.advance where
  pc h := (add_four_low s.pc 1 (by decide)).trans h

variable {l : List (BitVec 6)} {s u : State}

/-- The instruction goes on without writing a register. -/
theorem Hands.advance (h : Hands s u) : Follows l s u.advance where
  registers := .nothing h.same.regs h.same.shadow h.same.fregs
  keeps := h.keeps.trans u.advance_keeps

/-- The instruction writes a register that its word names. -/
theorem Hands.write {r : Reg} (h : Hands s u) (hl : intName r ∈ l) (v : Quad) :
    Follows l s (u.writeReg r v).advance where
  registers := .int r v hl (h.same.writeReg r v).1 (h.same.writeReg r v).2 (by simp [h.same.fregs])
  keeps := (h.keeps.trans (u.writeReg_keeps r v)).trans (State.advance_keeps _)

theorem Hands.writeFp {r : Reg} (h : Hands s u) (hl : fpName r ∈ l) (v : Quad) :
    Follows l s (u.writeFreg r v).advance where
  registers := .fp r v hl (by simp [h.same.regs]) (by simp [h.same.shadow]) (h.same.writeFreg r v)
  keeps := (h.keeps.trans (u.writeFreg_keeps r v)).trans (State.advance_keeps _)

/-- The access waits, and the instruction with it. -/
theorem Follows.wait (s : State) : Follows l s s := ⟨.nothing rfl rfl rfl, .refl s⟩

/-- The program counter goes elsewhere. -/
theorem Follows.jump {t : Quad} (h : bit s.pc 1 = false → bit t 1 = false) : Follows l s (s.setPc t) where
  registers := .nothing rfl rfl rfl
  keeps := { pc := h }

/-! ### Entries -/

theorem enterPal_keeps (e : Entry) (ret : Quad) (off : BitVec 14) (s : State) (h : off.getLsbD 1 = false) :
    Keeps s (enterPal e ret off s) where
  idu := s.idu.Ok_excAddr ret s.pc
  pc _ := (palAddress_bit1 _ _).trans h
  wb hw := by
    rw [enterPal_memsys]
    cases e.drains <;> exact hw

theorem takeArith_keeps (s : State) : Keeps s (takeArith s) :=
  Keeps.trans (t := { s with arithPending := false }) {} (enterPal_keeps .arith _ _ _ Entry.arith.offset_bit1)

theorem takeEntry_keeps {e : Entry} {record : State → State} (h : Keeps s (record s)) :
    Keeps s (takeEntry e record s) :=
  takeEntry_all (P := Keeps s) (fun _ => takeArith_keeps s) fun _ => h.trans (enterPal_keeps _ _ _ _ e.offset_bit1)

theorem takeArith_follows (s : State) : Follows l s (takeArith s) := ⟨.nothing rfl rfl rfl, takeArith_keeps s⟩

/-- An exception that an instruction raises writes no register. -/
theorem takeEntry_follows {e : Entry} {record : State → State} (h : Hands s (record s)) :
    Follows l s (takeEntry e record s) where
  registers := takeEntry_all (P := WritesOnly l s) (fun _ => .nothing rfl rfl rfl)
    fun _ => .nothing h.same.regs h.same.shadow h.same.fregs
  keeps := takeEntry_keeps h.keeps

theorem recordMm_hands (r : DRef) (c : MmCause) (s : State) : Hands s (recordMm r c s) where
  same := { regs := State.latchMm_regs .., shadow := State.latchMm_shadow .., fregs := State.latchMm_fregs ..,
            pc := State.latchMm_pc .., icsr := congrArg Idu.icsr (State.latchMm_idu ..) }
  keeps := s.latchMm_keeps _ _

theorem whenFp_follows {k : State → Result State} (h : allNext (Follows l s) (k s)) :
    allNext (Follows l s) (whenFp k s) :=
  whenFp_all (fun _ => takeEntry_follows (.refl s)) fun _ => h

theorem whenByteWord_follows {k : State → Result State} (h : allNext (Follows l s) (k s)) :
    allNext (Follows l s) (whenByteWord k s) :=
  whenByteWord_all (fun _ => takeEntry_follows (.refl s)) fun _ => h

theorem whenPal_follows {k : State → Result State} (h : allNext (Follows l s) (k s)) :
    allNext (Follows l s) (whenPal k s) :=
  whenPal_all (fun _ => takeEntry_follows (.refl s)) fun _ => h

theorem afterArith_follows {k : State → Result State} (h : allNext (Follows l s) (k s)) :
    allNext (Follows l s) (afterArith s k) :=
  afterArith_all (fun _ => takeArith_follows s) fun _ => h

end Sys2Proof.Machine

namespace Sys2Proof.Machine

variable {l : List (BitVec 6)} {s : State}

/-! ### Families of instructions -/

theorem operate_follows {f : Quad → Quad → Quad} {ra rc : Reg} {b : Operand} (h : intName rc ∈ l) :
    allNext (Follows l s) (operate f ra b rc s) := allNext_next ((Hands.refl s).write h _)

theorem byteOp_follows {f : BitVec 8 → Quad → BitVec 3 → Quad} {n : BitVec 8} {ra rc : Reg} {b : Operand}
    (h : intName rc ∈ l) : allNext (Follows l s) (byteOp f n ra b rc s) :=
  operate_follows (f := fun x y => f n x (s.byteOffset y)) h

theorem operateV_follows {f : Quad → Quad → Quad} {p : Quad → Quad → Bool} {ra rc : Reg} {b : Operand}
    (h : intName rc ∈ l) : allNext (Follows l s) (operateV f p ra b rc s) := by
  refine allNext_next ?_
  have hw := (Hands.refl s).write h (f (s.readReg ra) (s.operand b))
  cases p (s.readReg ra) (s.operand b) with
  | false => exact hw
  | true =>
    refine ⟨.int rc (f (s.readReg ra) (s.operand b)) h ?_ ?_ (State.writeReg_fregs ..), ?_⟩
    · exact rfl
    · exact rfl
    · exact ((s.writeReg_keeps rc _).trans (State.integerTrap_keeps _ rc)).trans (State.advance_keeps _)

theorem moveIf_follows {p : Quad → Bool} {ra rc : Reg} {b : Operand} (h : intName rc ∈ l) :
    allNext (Follows l s) (moveIf p ra b rc s) := by
  refine allNext_next ?_
  cases p (s.readReg ra) with
  | true => exact (Hands.refl s).write h _
  | false => exact (Hands.refl s).advance

theorem branchIf_follows {c : Bool} {disp : BitVec 21} : allNext (Follows l s) (branchIf c disp s) := by
  refine allNext_next (Follows.jump fun h => ?_)
  cases c with
  | true => exact (branchTarget_bit1 s.pc disp).trans h
  | false => exact (add_four_low s.pc 1 (by decide)).trans h

/-- A branch or jump that links. -/
theorem link_follows {ra : Reg} {v t : Quad} (h : intName ra ∈ l) (ht : bit s.pc 1 = false → bit t 1 = false) :
    Follows l s ((s.writeReg ra v).setPc t) where
  registers := .int ra v h rfl rfl (State.writeReg_fregs ..)
  keeps := (s.writeReg_keeps ra v).trans { pc := fun hp => ht ((congrArg (bit · 1) (State.writeReg_pc ..)).symm.trans hp) }

theorem branchLink_follows {ra : Reg} {disp : BitVec 21} (h : intName ra ∈ l) :
    allNext (Follows l s) (branchLink ra disp s) :=
  allNext_next (link_follows h (branchTarget_bit1 s.pc disp).trans)

theorem jumpLink_follows {ra rb : Reg} (h : intName ra ∈ l) : allNext (Follows l s) (jumpLink ra rb s) :=
  allNext_next (link_follows h fun _ => jumpTarget_bit1 _ _)

theorem readIntrFlag_follows {f : Bool} {ra : Reg} (h : intName ra ∈ l) :
    allNext (Follows l s) (readIntrFlag f ra s) :=
  allNext_next (Hands.write (u := { s with intrFlag := f }) {} h _)

theorem execRpcc_follows {ra : Reg} (h : intName ra ∈ l) : allNext (Follows l s) (execRpcc ra s) := by
  refine allNext_next (Hands.write ?_ h _)
  cases s.mtu.ccEnabled <;> exact {}

theorem prefetchHint_follows {k : WriteKind} {rb : Reg} : allNext (Follows l s) (prefetchHint k rb s) := by
  unfold prefetchHint
  cases s.model.cbuStore with
  | true => exact allNext_refused
  | false => exact allNext_next (Hands.advance { keeps := s.hinted_keeps k _ })

/-! ### Loads and stores -/

theorem State.locks_hands {u : State} (h : Hands s u) (pa : PAddr) : Hands s (u.locks pa) := by
  unfold State.locks
  cases u.stopped with
  | true => exact h
  | false => exact ⟨⟨h.same.regs, h.same.shadow, h.same.fregs, h.same.pc, h.same.icsr⟩, h.keeps.trans {}⟩

theorem State.loaded_hands (s : State) (r : DRef) (pa : PAddr) : Hands s (s.loaded r pa) := { keeps := s.loaded_keeps r pa }

/-- The state in which a CBU register has been loaded. -/
theorem cbuLoaded_hands {c : Cbu} {w : MemSys} {f : Bool} {m : Model} (h : w.wb.length ≤ s.memsys.wb.length) :
    Hands s { s with cbu := c, memsys := w, lockFlag := f, model := m } := { keeps := { wb := Nat.le_trans h } }

theorem load_follows {r : DRef} {k : Quad → State → Result State}
    (h : ∀ v u, Hands s u → allNext (Follows l s) (k v u)) : allNext (Follows l s) (load r k s) :=
  load_all (fun _ c _ => takeEntry_follows (recordMm_hands r c s)) (.wait s)
    (fun _ _ => h _ _ (s.loaded_hands r _)) fun _ _ _ _ _ _ hw => h _ _ (cbuLoaded_hands hw)

theorem loadLocked_follows {r : DRef} {k : Quad → State → Result State}
    (h : ∀ v u, Hands s u → allNext (Follows l s) (k v u)) : allNext (Follows l s) (loadLocked r k s) :=
  loadLocked_all (fun _ c _ => takeEntry_follows (recordMm_hands r c s)) (.wait s)
    (fun pa _ => h _ _ (State.locks_hands (s.loaded_hands r _) pa))
    fun pa _ _ _ _ _ _ hw => h _ _ (State.locks_hands (cbuLoaded_hands hw) pa)

theorem store_follows {r : DRef} {v : Quad} {k : State → Result State}
    (h : ∀ u, Hands s u → allNext (Follows l s) (k u)) : allNext (Follows l s) (store r v k s) :=
  store_all (fun _ c _ => takeEntry_follows (recordMm_hands r c s)) (.wait s)
    (fun pa _ => h _ { keeps := (s.stored_keeps r.size (s.busAddress pa) v).trans ⟨id, id, id, id, id⟩ })
    fun _ _ _ _ hm hw => h _ { keeps := { mem := hm, wb := (Nat.le_of_eq hw).trans } }

theorem storeConditional_follows {r : DRef} {v : Quad} {k : Bool → State → Result State}
    (h : ∀ ok u, Hands s u → allNext (Follows l s) (k ok u)) : allNext (Follows l s) (storeConditional r v k s) :=
  storeConditional_all (fun _ c _ => takeEntry_follows (recordMm_hands r c s)) (.wait s)
    fun _ _ => h _ _ { keeps := s.condStored_keeps r _ v }

/-- A load that writes an integer register. -/
theorem loadInt_follows {r : DRef} {ra : Reg} {f : Quad → Quad} (h : intName ra ∈ l) :
    allNext (Follows l s) (load r (fun m t => (t.writeReg ra (f m)).done) s) :=
  load_follows fun _ _ hu => allNext_next (hu.write h _)

theorem loadLockedInt_follows {r : DRef} {ra : Reg} {f : Quad → Quad} (h : intName ra ∈ l) :
    allNext (Follows l s) (loadLocked r (fun m t => (t.writeReg ra (f m)).done) s) :=
  loadLocked_follows fun _ _ hu => allNext_next (hu.write h _)

theorem loadFp_follows {r : DRef} {fa : Reg} {f : Quad → Quad} (h : fpName fa ∈ l) :
    allNext (Follows l s) (load r (fun m t => (t.writeFreg fa (f m)).done) s) :=
  load_follows fun _ _ hu => allNext_next (hu.writeFp h _)

theorem storeDone_follows {r : DRef} {v : Quad} : allNext (Follows l s) (store r v State.done s) :=
  store_follows fun _ hu => allNext_next hu.advance

theorem storeFlag_follows {r : DRef} {ra : Reg} {v : Quad} (h : intName ra ∈ l) :
    allNext (Follows l s) (storeConditional r v (fun ok t => (t.writeReg ra (quadOfBool ok)).done) s) :=
  storeConditional_follows fun _ _ hu => allNext_next (hu.write h _)

theorem execLdqU_follows {ra rb : Reg} {disp : BitVec 16} (h : intName ra ∈ l) :
    allNext (Follows l s) (execLdqU ra rb disp s) := by
  unfold execLdqU
  cases ra == 31 with
  | true => exact allNext_next (Hands.refl s).advance
  | false => exact loadInt_follows h

/-! ### Floating-point operates -/

theorem fpMove_follows {fc : Reg} {v : State → Quad} (h : fpName fc ∈ l) :
    allNext (Follows l s) (fpMove fc v s) :=
  whenFp_follows (allNext_next ((Hands.refl s).writeFp h _))

theorem fpMoveIf_follows {p : Quad → Bool} {fa fb fc : Reg} (h : fpName fc ∈ l) :
    allNext (Follows l s) (fpMoveIf p fa fb fc s) := by
  refine whenFp_follows (allNext_next ?_)
  cases p (s.readFreg fa) with
  | true => exact (Hands.refl s).writeFp h _
  | false => exact (Hands.refl s).advance

theorem Follows.drawn {t : State} (h : Follows l s t) : Follows l s t.drawn where
  registers := by
    cases h.registers with
    | nothing hr hs hf => exact .nothing hr hs hf
    | int r v hl hr hs hf => exact .int r v hl hr hs hf
    | fp r v hl hr hs hf => exact .fp r v hl hr hs hf
  keeps := h.keeps.trans {}

/-- A trap leaves the registers as they are. -/
theorem Follows.fpTrapped {fc : Reg} {u : State} {b c : Bool} {e : Exc} (h : Follows l s u.advance) :
    Follows l s (State.advance (bif c then u else u.fpTrap b e fc)) := by
  cases c with
  | true => exact h
  | false =>
    refine ⟨?_, ⟨h.keeps.mem, fun hi => Idu.noteSwc_ok (u.idu.noteExc e) b (h.keeps.idu hi), h.keeps.mtu, h.keeps.pc,
      h.keeps.wb⟩⟩
    cases h.registers with
    | nothing hr hs hf => exact .nothing hr hs hf
    | int r v hl hr hs hf => exact .int r v hl hr hs hf
    | fp r v hl hr hs hf => exact .fp r v hl hr hs hf

theorem fpInstruction_follows {q : Qual} {fc : Reg} {result : State → FpResult} (h : fpName fc ∈ l) :
    allNext (Follows l s) (fpInstruction q fc result s) := by
  refine whenFp_follows (allNext_next ?_)
  have hw (e : Exc) (v : Quad) : Follows l s ((s.setFpcrStatus e).writeFreg fc v).advance := Hands.writeFp {} h v
  unfold State.finishFp
  cases result s with
  | value v e => exact (hw e v).fpTrapped (c := e &&& s.enabledTraps q == 0)
  | free e => exact Follows.fpTrapped (c := e &&& s.enabledTraps q == 0) (hw e (s.setFpcrStatus e).drawValue).drawn

theorem execMtFpcr_follows {fa fb fc : Reg} : allNext (Follows l s) (execMtFpcr fa fb fc s) :=
  whenFp_follows (allNext_next (Hands.advance {}))

theorem execMfFpcr_follows {fa fb fc : Reg} (h : fpName fa ∈ l) : allNext (Follows l s) (execMfFpcr fa fb fc s) :=
  whenFp_follows (allNext_next (Hands.writeFp (u := s.drawn) {} h _))

/-! ### PALcode -/

theorem execCallPal_follows {fn : BitVec 26} : allNext (Follows l s) (execCallPal fn s) := by
  refine afterArith_follows ?_
  cases callPalIllegal fn s.kernel with
  | true => exact raise_all (takeEntry_follows (.refl s))
  | false => exact allNext_next ⟨.nothing rfl rfl rfl, enterPal_keeps _ _ _ s (callPalOffset_bit1 fn)⟩

theorem leavePal_follows {mbz : BitVec 14} : allNext (Follows l s) (leavePal mbz s) := by
  refine whenPal_follows ?_
  have hret : Follows l s (returnFromPal s) := Follows.jump fun _ => savedPc_bit1 _ _
  cases mbz != 0 with
  | true => exact allNext_refused
  | false =>
    cases s.palmode with
    | true => exact afterArith_follows (k := fun t => .next (returnFromPal t)) (allNext_next hret)
    | false => exact allNext_next hret

theorem execHwLd_follows {ra rb : Reg} {phys alt wrtck quad vpte lock : Bool} {disp : BitVec 10} (h : intName ra ∈ l) :
    allNext (Follows l s) (execHwLd ra rb phys alt wrtck quad vpte lock disp s) := by
  refine whenPal_follows ?_
  cases lock with
  | true => exact loadLockedInt_follows (f := fun m => bif quad then m else sextLong m) h
  | false => exact loadInt_follows (f := fun m => bif quad then m else sextLong m) h

theorem execHwSt_follows {ra rb : Reg} {phys alt mbz13 quad mbz11 cond : Bool} {disp : BitVec 10}
    (h : cond = true → intName ra ∈ l) :
    allNext (Follows l s) (execHwSt ra rb phys alt mbz13 quad mbz11 cond disp s) := by
  refine whenPal_follows ?_
  cases mbz13 || mbz11 with
  | true => exact allNext_refused
  | false =>
    cases cond with
    | true => exact storeFlag_follows (h rfl)
    | false => exact storeDone_follows

theorem execHwMfpr_follows {ra rb : Reg} {index : BitVec 16} (h : intName ra ∈ l) :
    allNext (Follows l s) (execHwMfpr ra rb index s) := by
  refine execHwMfpr_all (fun _ => takeEntry_follows (.refl s)) fun _ _ i v t _ hv => ?_
  obtain ⟨hk, hi⟩ := readIpr_keeps hv
  obtain ⟨d, m, q, rfl⟩ := readIpr_frame hv
  obtain ⟨k, hk'⟩ := State.afterMfpr_frame { s with idu := d, mtu := m, model := q } index
  rw [hk']
  exact Hands.write (u := { s with idu := d, mtu := m, model := k })
    { same := { icsr := hi }, keeps := ⟨hk.mem, hk.idu, hk.mtu, hk.pc, hk.wb⟩ } h v

theorem execHwMtpr_follows {ra rb : Reg} {index : BitVec 16} : allNext (Follows l s) (execHwMtpr ra rb index s) := by
  refine execHwMtpr_all (fun _ => takeEntry_follows (.refl s)) fun _ _ i t _ hw => ?_
  have hk := writeIpr_keeps hw
  obtain ⟨d, m, w, q, rfl, -⟩ := writeIpr_frame hw
  exact ⟨.nothing rfl rfl rfl, hk.trans (State.advance_keeps _)⟩

end Sys2Proof.Machine

/-! # What an instruction does, by the form of its word -/

namespace Sys2Proof.Machine

/-! ### Registers that a word names as written -/

theorem writesOf_encMem_load {op : BitVec 6} {ra rb : Reg} {d : BitVec 16}
    (h : op ∈ ([0x08, 0x09, 0x0A, 0x0B, 0x0C, 0x19, 0x28, 0x29, 0x2A, 0x2B, 0x2E, 0x2F] : List (BitVec 6))) :
    writesOf (encMem op ra rb d) = [intName ra] := by
  have hop : opIn (encMem op ra rb d) [0x08, 0x09, 0x0A, 0x0B, 0x0C, 0x19, 0x1A, 0x1B, 0x28, 0x29, 0x2A, 0x2B, 0x2E,
      0x2F, 0x30, 0x34] = true := by
    rw [opIn, opcodeOf_encMem]
    revert op
    decide
  simp only [writesOf, hop, Bool.true_or, cond_true, raOf_encMem]

theorem writesOf_encMem_misc {ra rb : Reg} {d : BitVec 16} (h : d ∈ ([0xC000, 0xE000, 0xF000] : List (BitVec 16))) :
    writesOf (encMem 0x18 ra rb d) = [intName ra] := by
  simp only [List.mem_cons, List.not_mem_nil, or_false] at h
  rcases h with rfl | rfl | rfl <;> simp [writesOf, opIn, isMisc]

theorem writesOf_encMem_fpLoad {op : BitVec 6} {ra rb : Reg} {d : BitVec 16}
    (h : op ∈ ([0x20, 0x21, 0x22, 0x23] : List (BitVec 6))) : writesOf (encMem op ra rb d) = [fpName ra] := by
  simp only [List.mem_cons, List.not_mem_nil, or_false] at h
  rcases h with rfl | rfl | rfl | rfl <;> simp [writesOf, opIn, isMisc]

theorem writesOf_encBranch {op : BitVec 6} {ra : Reg} {d : BitVec 21} (h : op = 0x30 ∨ op = 0x34) :
    writesOf (encBranch op ra d) = [intName ra] := by
  rcases h with rfl | rfl <;> simp [writesOf, opIn]

theorem writesOf_encJump (sel : BitVec 2) (ra rb : Reg) (hint : BitVec 14) :
    writesOf (encJump sel ra rb hint) = [intName ra] := by simp [writesOf, opIn]

theorem writesOf_hwLd (ra rb : Reg) (b15 b14 b13 b12 b11 b10 : Bool) (d : BitVec 10) :
    writesOf (encHwMem 0x1B ra rb b15 b14 b13 b12 b11 b10 d) = [intName ra] := by simp [writesOf, opIn]

theorem writesOf_hwSt (ra rb : Reg) (b15 b14 b13 b12 b11 : Bool) (d : BitVec 10) :
    writesOf (encHwMem 0x1F ra rb b15 b14 b13 b12 b11 true d) = [intName ra] := by
  simp only [writesOf, opIn, opcodeOf_encHwMem, raOf_encHwMem, getLsbD_10_encHwMem]
  simp

theorem writesOf_encOperate {op : BitVec 6} {fn : BitVec 7} {ra rc : Reg} {b : Operand}
    (h : op ∈ ([0x10, 0x11, 0x12, 0x13, 0x1C] : List (BitVec 6))) :
    writesOf (encOperate op fn ra b rc) = [intName rc] := by
  simp only [List.mem_cons, List.not_mem_nil, or_false] at h
  rcases h with rfl | rfl | rfl | rfl | rfl <;> simp [writesOf, opIn, isMisc]

/-- The word of a floating-point operate that writes F[Fc]: all but MT_FPCR and MF_FPCR. -/
abbrev writesFc (op : BitVec 6) (fn : BitVec 11) : Prop := op = 0x15 ∨ op = 0x16 ∨ (op = 0x17 ∧ fn ≠ 0x024 ∧ fn ≠ 0x025)

theorem writesOf_encFloat {op : BitVec 6} {fn : BitVec 11} {fa fb fc : Reg} (h : writesFc op fn) :
    writesOf (encFloat op fn fa fb fc) = [fpName fc] := by
  rcases h with rfl | rfl | ⟨rfl, h24, h25⟩
  · simp [writesOf, opIn, isMisc]
  · simp [writesOf, opIn, isMisc]
  · have hn24 : fn.toNat ≠ 0x024 := fun h => h24 (BitVec.eq_of_toNat_eq h)
    have hn25 : fn.toNat ≠ 0x025 := fun h => h25 (BitVec.eq_of_toNat_eq h)
    simp [writesOf, opIn, isMisc, fpFunction, beq_false_of_ne hn24, beq_false_of_ne hn25]

theorem writesOf_mfFpcr (fa fb fc : Reg) : writesOf (encFloat 0x17 0x025 fa fb fc) = [fpName fa] := by
  simp [writesOf, opIn, isMisc, fpFunction]

/-! ### The forms -/

/-- What an instruction of a word does: the floating-point operates by what they compute, every other one by what it may
write. -/
inductive ExecForm (i : Instr) : Long → (State → Result State) → Prop where
  | other {w : Long} {op : BitVec 6} {run : State → Result State} (ho : opcodeOf w = op)
      (hop : op ∉ ([0x15, 0x16, 0x17] : List (BitVec 6))) (h : ∀ s, allNext (Follows (writesOf w) s) (run s)) : ExecForm i w run
  | arithmetic {op : BitVec 6} {fn : BitVec 11} {fa fb fc : Reg} {q : Qual} {result : State → FpResult}
      (hf : writesFc op fn) : ExecForm i (encFloat op fn fa fb fc) fun s => fpInstruction q fc result s
  | move {op : BitVec 6} {fn : BitVec 11} {fa fb fc : Reg} {v : State → Quad} (hf : writesFc op fn) :
      ExecForm i (encFloat op fn fa fb fc) fun s => fpMove fc v s
  | moveIf {op : BitVec 6} {fn : BitVec 11} {fa fb fc : Reg} {p : Quad → Bool} (hf : writesFc op fn) :
      ExecForm i (encFloat op fn fa fb fc) fun s => fpMoveIf p fa fb fc s
  | writeFpcr {fa fb fc : Reg} (hi : i = .mt_fpcr fa fb fc) :
      ExecForm i (encFloat 0x17 0x024 fa fb fc) fun s => execMtFpcr fa fb fc s
  | readFpcr {fa fb fc : Reg} (hi : i = .mf_fpcr fa fb fc) :
      ExecForm i (encFloat 0x17 0x025 fa fb fc) fun s => execMfFpcr fa fb fc s

namespace ExecForm

variable {i : Instr} {w : Long} {op : BitVec 6} {ra rb rc : Reg} {run : State → Result State}

/-- An instruction that writes no register. -/
theorem silent (ho : opcodeOf w = op) (hop : op ∉ ([0x15, 0x16, 0x17] : List (BitVec 6)))
    (h : ∀ l s, allNext (Follows l s) (run s)) : ExecForm i w run :=
  .other ho hop (h _)

/-- An instruction that writes one register. -/
theorem writing {d : BitVec 6} (hw : writesOf w = [d]) (ho : opcodeOf w = op)
    (hop : op ∉ ([0x15, 0x16, 0x17] : List (BitVec 6))) (h : ∀ l s, d ∈ l → allNext (Follows l s) (run s)) :
    ExecForm i w run :=
  .other ho hop fun s => h _ s (hw ▸ List.mem_singleton_self _)

theorem ofLoad {d : BitVec 16}
    (hop : op ∈ ([0x08, 0x09, 0x0A, 0x0B, 0x0C, 0x19, 0x28, 0x29, 0x2A, 0x2B, 0x2E, 0x2F] : List (BitVec 6)))
    (h : ∀ l s, intName ra ∈ l → allNext (Follows l s) (run s)) : ExecForm i (encMem op ra rb d) run := by
  refine writing (writesOf_encMem_load hop) (opcodeOf_encMem op ra rb d) ?_ h
  revert op
  decide

theorem ofMisc {d : BitVec 16} (hd : d ∈ ([0xC000, 0xE000, 0xF000] : List (BitVec 16)))
    (h : ∀ l s, intName ra ∈ l → allNext (Follows l s) (run s)) : ExecForm i (encMem 0x18 ra rb d) run :=
  writing (writesOf_encMem_misc hd) (opcodeOf_encMem 0x18 ra rb d) (by decide) h

theorem ofFpLoad {d : BitVec 16} (hop : op ∈ ([0x20, 0x21, 0x22, 0x23] : List (BitVec 6)))
    (h : ∀ l s, fpName ra ∈ l → allNext (Follows l s) (run s)) : ExecForm i (encMem op ra rb d) run := by
  refine writing (writesOf_encMem_fpLoad hop) (opcodeOf_encMem op ra rb d) ?_ h
  revert op
  decide

theorem ofLink {d : BitVec 21} (hop : op = 0x30 ∨ op = 0x34) (h : ∀ l s, intName ra ∈ l → allNext (Follows l s) (run s)) :
    ExecForm i (encBranch op ra d) run := by
  refine writing (writesOf_encBranch hop) (opcodeOf_encBranch op ra d) ?_ h
  rcases hop with rfl | rfl <;> decide

theorem ofJump {sel : BitVec 2} {d : BitVec 14} (h : ∀ l s, intName ra ∈ l → allNext (Follows l s) (run s)) :
    ExecForm i (encJump sel ra rb d) run :=
  writing (writesOf_encJump sel ra rb d) (opcodeOf_encJump sel ra rb d) (by decide) h

theorem ofHwLd {b15 b14 b13 b12 b11 b10 : Bool} {d : BitVec 10}
    (h : ∀ l s, intName ra ∈ l → allNext (Follows l s) (run s)) :
    ExecForm i (encHwMem 0x1B ra rb b15 b14 b13 b12 b11 b10 d) run :=
  writing (writesOf_hwLd ra rb b15 b14 b13 b12 b11 b10 d) (opcodeOf_encHwMem ..) (by decide) h

theorem ofHwSt {b15 b14 b13 b12 b11 b10 : Bool} {d : BitVec 10}
    (h : ∀ l s, (b10 = true → intName ra ∈ l) → allNext (Follows l s) (run s)) :
    ExecForm i (encHwMem 0x1F ra rb b15 b14 b13 b12 b11 b10 d) run := by
  refine .other (opcodeOf_encHwMem ..) (by decide) fun s => h _ s fun hc => ?_
  rw [hc, writesOf_hwSt]
  exact List.mem_singleton_self _

theorem ofOperate {fn : BitVec 7} {b : Operand} (hop : op ∈ ([0x10, 0x11, 0x12, 0x13, 0x1C] : List (BitVec 6)))
    (h : ∀ l s, intName rc ∈ l → allNext (Follows l s) (run s)) : ExecForm i (encOperate op fn ra b rc) run := by
  refine writing (writesOf_encOperate hop) (opcodeOf_encOperate op fn ra b rc) ?_ h
  revert op
  decide

end ExecForm

/-- The form of each instruction; those that the last case stands for are the floating-point operates that compute a result. -/
theorem execForm (i : Instr) : ExecForm i (encode i) (fun s => exec i s) := by
  cases i with dsimp only [exec, encode]
  | addl ra b rc | addq ra b rc | subl ra b rc | subq ra b rc | s4addl ra b rc | s8addl ra b rc | s4addq ra b rc
  | s8addq ra b rc | s4subl ra b rc | s8subl ra b rc | s4subq ra b rc | s8subq ra b rc | cmpeq ra b rc | cmplt ra b rc
  | cmple ra b rc | cmpult ra b rc | cmpule ra b rc | cmpbge ra b rc | and ra b rc | bic ra b rc | bis ra b rc
  | ornot ra b rc | xor ra b rc | eqv ra b rc | sll ra b rc | srl ra b rc | sra ra b rc | zap ra b rc | zapnot ra b rc
  | mull ra b rc | mulq ra b rc | umulh ra b rc =>
    exact .ofOperate (by decide) fun _ _ h => operate_follows h
  | extbl ra b rc | extwl ra b rc | extll ra b rc | extql ra b rc | extwh ra b rc | extlh ra b rc | extqh ra b rc
  | insbl ra b rc | inswl ra b rc | insll ra b rc | insql ra b rc | inswh ra b rc | inslh ra b rc | insqh ra b rc
  | mskbl ra b rc | mskwl ra b rc | mskll ra b rc | mskql ra b rc | mskwh ra b rc | msklh ra b rc | mskqh ra b rc =>
    exact .ofOperate (by decide) fun _ _ h => byteOp_follows h
  | addl_v ra b rc | addq_v ra b rc | subl_v ra b rc | subq_v ra b rc | mull_v ra b rc | mulq_v ra b rc =>
    exact .ofOperate (by decide) fun _ _ h => operateV_follows h
  | cmoveq ra b rc | cmovne ra b rc | cmovlt ra b rc | cmovle ra b rc | cmovgt ra b rc | cmovge ra b rc
  | cmovlbs ra b rc | cmovlbc ra b rc =>
    exact .ofOperate (by decide) fun _ _ h => moveIf_follows h
  | amask b rc | implver rc =>
    exact .ofOperate (by decide) fun _ _ h => allNext_next ((Hands.refl _).write h _)
  | sextb b rc | sextw b rc =>
    exact .ofOperate (by decide) fun _ _ h => whenByteWord_follows (allNext_next ((Hands.refl _).write h _))
  | lda ra rb disp | ldah ra rb disp =>
    exact .ofLoad (by decide) fun _ _ h => allNext_next ((Hands.refl _).write h _)
  | ldl ra rb disp | ldq ra rb disp =>
    exact .ofLoad (by decide) fun _ _ h => loadInt_follows h
  | ldl_l ra rb disp | ldq_l ra rb disp =>
    exact .ofLoad (by decide) fun _ _ h => loadLockedInt_follows h
  | ldbu ra rb disp | ldwu ra rb disp =>
    exact .ofLoad (by decide) fun _ _ h => whenByteWord_follows (loadInt_follows h)
  | ldq_u ra rb disp =>
    exact .ofLoad (by decide) fun _ _ h => execLdqU_follows h
  | stl_c ra rb disp | stq_c ra rb disp =>
    exact .ofLoad (by decide) fun _ _ h => storeFlag_follows h
  | hw_mfpr ra rb index =>
    exact .ofLoad (by decide) fun _ _ h => execHwMfpr_follows h
  | ldf fa rb disp | ldg fa rb disp | lds fa rb disp | ldt fa rb disp =>
    exact .ofFpLoad (by decide) fun _ _ h => whenFp_follows (loadFp_follows h)
  | rc ra | rs ra =>
    exact .ofMisc (by decide) fun _ _ h => readIntrFlag_follows h
  | rpcc ra =>
    exact .ofMisc (by decide) fun _ _ h => execRpcc_follows h
  | stl ra rb disp | stq ra rb disp | stq_u ra rb disp =>
    exact .silent (opcodeOf_encMem ..) (by decide) fun _ _ => storeDone_follows
  | stb ra rb disp | stw ra rb disp =>
    exact .silent (opcodeOf_encMem ..) (by decide) fun _ _ => whenByteWord_follows storeDone_follows
  | stf fa rb disp | stg fa rb disp | sts fa rb disp | stt fa rb disp =>
    exact .silent (opcodeOf_encMem ..) (by decide) fun _ _ => whenFp_follows storeDone_follows
  | trapb | excb =>
    exact .silent (opcodeOf_encMem ..) (by decide) fun _ _ =>
      afterArith_follows (k := State.done) (allNext_next (Hands.refl _).advance)
  | mb =>
    exact .silent (opcodeOf_encMem ..) (by decide) fun _ _ => allNext_next (Hands.advance { keeps := State.barrier_keeps _ })
  | wmb =>
    exact .silent (opcodeOf_encMem ..) (by decide) fun _ _ => allNext_next (Hands.advance { keeps := State.writeBarrier_keeps _ })
  | fetch rb | fetch_m rb =>
    exact .silent (opcodeOf_encMem ..) (by decide) fun _ _ => prefetchHint_follows
  | hw_mtpr ra rb index =>
    exact .silent (opcodeOf_encMem ..) (by decide) fun _ _ => execHwMtpr_follows
  | hw_rei mbz | hw_rei_stall mbz =>
    exact .silent (opcodeOf_encMem ..) (by decide) fun _ _ => leavePal_follows
  | call_pal fn =>
    exact .silent (opcodeOf_callPal ..) (by decide) fun _ _ => execCallPal_follows
  | br ra disp | bsr ra disp =>
    exact .ofLink (by decide) fun _ _ h => branchLink_follows h
  | blbc ra disp | beq ra disp | blt ra disp | ble ra disp | blbs ra disp | bne ra disp | bge ra disp | bgt ra disp =>
    exact .silent (opcodeOf_encBranch ..) (by decide) fun _ _ => branchIf_follows
  | fbeq fa disp | fblt fa disp | fble fa disp | fbne fa disp | fbge fa disp | fbgt fa disp =>
    exact .silent (opcodeOf_encBranch ..) (by decide) fun _ _ => whenFp_follows branchIf_follows
  | jmp ra rb hint | jsr ra rb hint | ret ra rb hint | jsr_coroutine ra rb hint =>
    exact .ofJump fun _ _ h => jumpLink_follows h
  | hw_ld ra rb phys alt wrtck quad vpte lock disp =>
    exact .ofHwLd fun _ _ h => execHwLd_follows h
  | hw_st ra rb phys alt mbz13 quad mbz11 cond disp =>
    exact .ofHwSt fun _ _ => execHwSt_follows
  | cvtlq fb fc | cpys fa fb fc | cpysn fa fb fc | cpyse fa fb fc =>
    exact .move (by decide)
  | fcmoveq fa fb fc | fcmovne fa fb fc | fcmovlt fa fb fc | fcmovge fa fb fc | fcmovle fa fb fc | fcmovgt fa fb fc =>
    exact .moveIf (by decide)
  | mt_fpcr fa fb fc =>
    exact .writeFpcr rfl
  | mf_fpcr fa fb fc =>
    exact .readFpcr rfl
  | _ => exact .arithmetic (by decide)

/-- No instruction writes a register that its word does not name so, and every one keeps the machine well formed. -/
theorem exec_follows (i : Instr) (s : State) : allNext (Follows (writesOf (encode i)) s) (exec i s) := by
  have h := execForm i
  revert h
  generalize encode i = w
  generalize hx : (fun s => exec i s) = run
  intro h
  have hs : exec i s = run s := congrFun hx s
  rw [hs]
  cases h with
  | other _ _ h => exact h s
  | arithmetic hf =>
    rw [writesOf_encFloat hf]
    exact fpInstruction_follows (List.mem_singleton_self _)
  | move hf =>
    rw [writesOf_encFloat hf]
    exact fpMove_follows (List.mem_singleton_self _)
  | moveIf hf =>
    rw [writesOf_encFloat hf]
    exact fpMoveIf_follows (List.mem_singleton_self _)
  | writeFpcr hi =>
    exact execMtFpcr_follows
  | readFpcr hi =>
    exact execMfFpcr_follows (writesOf_mfFpcr .. ▸ List.mem_singleton_self _)

end Sys2Proof.Machine

/-! # The frame of the register files -/

namespace Sys2Proof.Machine

theorem vector_get_set_ne {n : Nat} (xs : Vector Quad n) {i j : Fin n} (v : Quad) (h : i ≠ j) :
    (xs.set i v).get j = xs.get j :=
  (vector_get_set xs i i.isLt j v).trans (if_neg fun hv => h (Fin.ext hv))

/-- A write to a register leaves the architected registers of the other numbers, and that of number 31, as they were. -/
theorem State.writeReg_regs_get (s : State) {r q : Reg} (v : Quad) (h : q = 31 ∨ q ≠ r) :
    (s.writeReg r v).regs.get q.toFin = s.regs.get q.toFin := by
  unfold State.writeReg
  cases hr : r == 31 with
  | true => rfl
  | false =>
    have hne : q ≠ r := h.elim (fun hq hqr => ne_of_beq_false hr (hqr.symm.trans hq)) id
    cases s.shadowOf r with
    | some k => rfl
    | none =>
      exact vector_get_set_ne _ v fun hv => hne (BitVec.eq_of_toFin_eq hv.symm)

/-- A write to a register leaves the PALshadow registers that overlay the other numbers as they were. -/
theorem State.writeReg_shadow_get (s : State) {r q : Reg} {k : Fin 8} (v : Quad) (hq : shadowSlot q = some k) (h : q ≠ r) :
    (s.writeReg r v).shadow.get k = s.shadow.get k := by
  unfold State.writeReg State.shadowOf
  cases r == 31 with
  | true => rfl
  | false =>
    cases s.palmode && s.icsrBit 30 with
    | false => rfl
    | true =>
      cases hr : shadowSlot r with
      | none => rfl
      | some j =>
        exact vector_get_set_ne _ v fun hv => h (shadowSlot_inj q r (by simp [hq]) (by rw [hq, hr, hv]))

theorem State.writeFreg_fregs_get (s : State) {r q : Reg} (v : Quad) (h : q = 31 ∨ q ≠ r) :
    (s.writeFreg r v).fregs.get q.toFin = s.fregs.get q.toFin := by
  unfold State.writeFreg
  cases hr : r == 31 with
  | true => rfl
  | false =>
    have hne : q ≠ r := h.elim (fun hq hqr => ne_of_beq_false hr (hqr.symm.trans hq)) id
    exact vector_get_set_ne _ v fun hv => hne (BitVec.eq_of_toFin_eq hv.symm)

/-- A register that the word does not name as written is not the one that it names. -/
theorem eq_or_ne_of_not_mem {name : Reg → BitVec 6} {l : List (BitVec 6)} {r q : Reg} (hr : name r ∈ l)
    (h : q = 31 ∨ name q ∉ l) : q = 31 ∨ q ≠ r :=
  h.imp_right fun hq hqr => hq (hqr ▸ hr)

namespace WritesOnly

variable {l : List (BitVec 6)} {s t : State}

theorem regs_get (h : WritesOnly l s t) (q : Reg) (hq : q = 31 ∨ intName q ∉ l) :
    t.regs.get q.toFin = s.regs.get q.toFin := by
  cases h with
  | nothing hr | fp _ _ _ hr => rw [hr]
  | int r v hl hr =>
    rw [hr]
    exact s.writeReg_regs_get v (eq_or_ne_of_not_mem hl hq)

theorem shadow_get (h : WritesOnly l s t) (q : Reg) (k : Fin 8) (hk : shadowSlot q = some k) (hq : intName q ∉ l) :
    t.shadow.get k = s.shadow.get k := by
  cases h with
  | nothing _ hs | fp _ _ _ _ hs => rw [hs]
  | int r v hl _ hs =>
    rw [hs]
    exact s.writeReg_shadow_get v hk fun hqr => hq (hqr ▸ hl)

theorem fregs_get (h : WritesOnly l s t) (q : Reg) (hq : q = 31 ∨ fpName q ∉ l) :
    t.fregs.get q.toFin = s.fregs.get q.toFin := by
  cases h with
  | nothing _ _ hf | int _ _ _ _ _ hf => rw [hf]
  | fp r v hl _ _ hf =>
    rw [hf]
    exact s.writeFreg_fregs_get v (eq_or_ne_of_not_mem hl hq)

/-- Without the overlay nothing reaches the PALshadow registers. -/
theorem shadow_eq (h : WritesOnly l s t) (ho : (s.palmode && s.icsrBit 30) = false) : t.shadow = s.shadow := by
  cases h with
  | nothing _ hs | fp _ _ _ _ hs => exact hs
  | int r v _ _ hs =>
    rw [hs]
    unfold State.writeReg State.shadowOf
    rw [ho]
    cases r == 31 <;> rfl

end WritesOnly

/-- Settles O57: what follows an instruction (`exec_follows`) is at most one write to a register that its word names. -/
theorem onlyNamedRegistersChange : Obligations.OnlyNamedRegistersChange := by
  intro i s t _ ht
  have h := (exec_follows i s t ht).registers
  exact ⟨h.regs_get, h.shadow_get, h.fregs_get⟩

/-! ### The overlay -/

/-- PALmode with ICSR<SDE>, as `State.shadowOf` asks it. -/
theorem State.overlay_iff (s : State) :
    (s.palmode && s.icsrBit 30) = true ↔ s.pc.toNat % 2 = 1 ∧ s.idu.icsr.getLsbD 30 = true := by
  have hpc : s.palmode = true ↔ s.pc.toNat % 2 = 1 := by
    unfold State.palmode bit
    rw [BitVec.getLsbD, Nat.testBit_zero, decide_eq_true_iff]
  rw [Bool.and_eq_true, hpc]
  rfl

theorem State.shadowOf_none {s : State} {r : Reg} (h : ¬(s.pc.toNat % 2 = 1 ∧ s.idu.icsr.getLsbD 30 = true ∧
    shadowSlot r ≠ none)) : s.shadowOf r = none := by
  unfold State.shadowOf
  cases ho : s.palmode && s.icsrBit 30 with
  | false => rfl
  | true =>
    obtain ⟨hp, hi⟩ := s.overlay_iff.mp ho
    exact not_not.mp fun hk => h ⟨hp, hi, hk⟩

theorem State.shadowOf_some {s : State} {r : Reg} {k : Fin 8} (ho : s.pc.toNat % 2 = 1 ∧ s.idu.icsr.getLsbD 30 = true)
    (h : shadowSlot r = some k) : s.shadowOf r = some k := by
  unfold State.shadowOf
  rw [s.overlay_iff.mpr ho]
  exact h

theorem shadowSlot_overlaid :
    ∀ p ∈ ([(8, 0), (9, 1), (10, 2), (11, 3), (12, 4), (13, 5), (14, 6), (25, 7)] : List (Reg × Fin 8)),
      shadowSlot p.1 = some p.2 ∧ (p.1 == 31) = false := by
  simp [shadowSlot]

theorem mem_of_shadowSlot_ne_none : ∀ r : Reg, shadowSlot r ≠ none → r ∈ ([8, 9, 10, 11, 12, 13, 14, 25] : List Reg) := by
  decide

/-- Settles O60: by `State.shadowOf`, through which both register operations go. -/
theorem palshadowRegistersOverlay : Obligations.PalshadowRegistersOverlay := by
  intro s overlaid overlay
  have hnames : overlaid.map (·.1) = [8, 9, 10, 11, 12, 13, 14, 25] := rfl
  refine ⟨fun ho i t ht => ?_, fun ho p hp => ?_, fun r hr hn => ?_⟩
  · exact (exec_follows i s t ht).registers.shadow_eq (Bool.eq_false_iff.mpr fun h => ho (s.overlay_iff.mp h))
  · obtain ⟨hk, h31⟩ := shadowSlot_overlaid p hp
    have hs := State.shadowOf_some ho hk
    refine ⟨?_, fun v => ?_⟩
    · rw [State.readReg, h31, hs]
      rfl
    · rw [State.writeReg, h31, hs]
      rfl
  · have h31 : (r == 31) = false := beq_false_of_ne hr
    have hs : s.shadowOf r = none :=
      State.shadowOf_none fun ⟨hp, hi, hk⟩ => hn ⟨⟨hp, hi⟩, hnames ▸ mem_of_shadowSlot_ne_none r hk⟩
    refine ⟨?_, fun v => ?_⟩
    · rw [State.readReg, h31, hs]
      rfl
    · rw [State.writeReg, h31, hs]
      rfl

/-- Settles O5: the reset state is evaluated. -/
theorem resetStartsInPalmodeAtZero : Obligations.ResetStartsInPalmodeAtZero := ⟨rfl, rfl, rfl, rfl⟩

end Sys2Proof.Machine

/-! # Events keep the machine well formed -/

namespace Sys2Proof.Machine

/-! ### Choices and repetitions -/

theorem allNext_cond {P : State → Prop} {b : Bool} {q r : Result State} (hq : allNext P q) (hr : allNext P r) :
    allNext P (bif b then q else r) := by
  cases b with
  | true => exact hq
  | false => exact hr

theorem Keeps.cond {s t u : State} {b : Bool} (ht : Keeps s t) (hu : Keeps s u) : Keeps s (bif b then t else u) := by
  cases b with
  | true => exact ht
  | false => exact hu

theorem foldl_keeps {α : Type} {f : State → α → State} (hf : ∀ s a, Keeps s (f s a)) :
    ∀ (l : List α) (s : State), Keeps s (l.foldl f s)
  | [], s => .refl s
  | a :: l, s => (hf s a).trans (foldl_keeps hf l (f s a))

theorem foldr_keeps {α : Type} {f : α → State → State} (hf : ∀ a s, Keeps s (f a s)) (s : State) :
    ∀ l : List α, Keeps s (l.foldr f s)
  | [] => .refl s
  | a :: l => (foldr_keeps hf s l).trans (hf a _)

theorem Idu.reset_ok : Idu.reset.Ok := ⟨by decide, by decide, by decide, by decide, by decide⟩

theorem Mtu.reset_ok : Mtu.reset.Ok := ⟨by decide, by decide, by decide⟩

/-! ### Errors -/

namespace State

variable (s : State)

theorem drawn_keeps : Keeps s s.drawn := {}

theorem onCaches_keeps (f : Caches → Caches) : Keeps s (s.onCaches f) := ⟨id, id, id, id, id⟩

theorem writeSlot_keeps (v : Quad) (r : RegSlot) : Keeps s (s.writeSlot v r) := by
  cases r with
  | shadow k => exact ⟨id, id, id, id, id⟩
  | int r | fp r => exact .cond (.refl s) ⟨id, id, id, id, id⟩

theorem returned_keeps (p : MafEntry → Bool) : Keeps s (s.returned p) := ⟨id, id, id, id, id⟩

theorem deliver_keeps (p : MafEntry → Bool) (data : MafEntry → Quad) : Keeps s (s.deliver p data) :=
  (foldl_keeps (fun t (e : MafEntry) => t.writeSlot_keeps _ e.slot) _ s).trans (returned_keeps _ p)

theorem deliverFree_keeps (p : MafEntry → Bool) : Keeps s (s.deliverFree p) :=
  (foldl_keeps (fun t (e : MafEntry) => (t.writeSlot_keeps _ e.slot).trans (drawn_keeps _)) _ s).trans (returned_keeps _ p)

theorem fetchable_keeps (l : Longs) : Keeps s (s.fetchable l) := ⟨id, id, id, id, id⟩

theorem fetchableFree_keeps (a n : Nat) : Keeps s (s.fetchableFree a n) := ⟨id, id, id, id, id⟩

theorem poison_keeps (a n : Nat) : Keeps s (s.poison a n) := onCaches_keeps s _

theorem oweCheck_keeps (now : Bool) : Keeps s (s.oweCheck now) := ⟨id, id, id, id, id⟩

theorem setIcperr_keeps (bits : BitVec 3) : Keeps s (s.setIcperr bits) := ⟨id, id, id, id, id⟩

theorem scacheError_keeps (tperr : BitVec 3) (dperr : BitVec 8) (op : ScacheOp) (a : PAddr) :
    Keeps s (s.scacheError tperr dperr op a) := .cond ⟨id, id, id, id, id⟩ ⟨id, id, id, id, id⟩

theorem scacheDamage_keeps (op : ScacheOp) (a : PAddr) : Keeps s (s.scacheDamage op a) :=
  .cond (s.fetchableFree_keeps _ _) ((s.deliverFree_keeps _).trans (poison_keeps _ _ _))

theorem dcacheError_keeps (which : BitVec 4) (va : Quad) (wr : Bool) (ra : Reg) (opcode : BitVec 6) :
    Keeps s (s.dcacheError which va wr ra opcode) :=
  have h (stat : BitVec 6) : Keeps s { s with mtu := { s.mtu with dcPerrStat := stat } } := ⟨id, id, id, id, id⟩
  (h _).trans (latchMm_keeps _ va (mmStatOf opcode ra { wr := wr }))

theorem dcacheDamage_keeps (va : Quad) (wr : Bool) (slot : RegSlot) : Keeps s (s.dcacheDamage va wr slot) :=
  .trans (.cond (b := wr) (.refl s) (s.drawn_keeps.trans (writeSlot_keeps _ s.drawValue slot))) (onCaches_keeps _ _)

theorem correctableError_keeps (system istream : Bool) (a : PAddr) (syn : BitVec 16) :
    Keeps s (s.correctableError system istream a syn) := ⟨id, id, id, id, id⟩

theorem fillFailed_keeps (system istream : Bool) (a : PAddr) (syn : BitVec 16) :
    Keeps s (s.fillFailed system istream a syn) := ⟨id, id, id, id, id⟩

theorem cacheReceived_keeps (system : Bool) (a : Nat) (receive : Nat → Long → Long) :
    Keeps s (s.cacheReceived system a receive) := (discard_keeps _ s).trans (onCaches_keeps _ _)

theorem fillDelivered_keeps (system istream : Bool) (addr : PAddr) (receive : Nat → Long → Long) (load : MafEntry → Quad) :
    Keeps s (s.fillDelivered system istream addr receive load) := by
  have ht := Keeps.cond (b := istream) (s.fetchable_keeps (s.receivedLongs (clearLow addr 4).toNat receive))
    (s.deliver_keeps (·.readsFrom (clearLow addr 4).toNat 16) fun e => e.keepOwn s (load e))
  exact .cond (ht.trans (cacheReceived_keeps _ _ _ _)) ht

theorem keepFlip_keeps (corrected system : Bool) (addr : PAddr) (flip : BitVec 128) (check : BitVec 16) :
    Keeps s (s.keepFlip corrected system addr flip check) := onCaches_keeps s _

theorem bcacheTagError_keeps (tag control : Bool) (a : PAddr) (probe : BitVec 27) :
    Keeps s (s.bcacheTagError tag control a probe) := ⟨id, id, id, id, id⟩

theorem bcacheTagDamage_keeps (istream : Bool) (addr : PAddr) (flip : BitVec 24) :
    Keeps s (s.bcacheTagDamage istream addr flip) :=
  .cond (.refl s) ((Keeps.cond (s.fetchableFree_keeps _ _) (s.deliverFree_keeps _)).trans (onCaches_keeps _ _))

theorem commandError_keeps (a : PAddr) : Keeps s (s.commandError a) := ⟨id, id, id, id, id⟩

/-! ### Fills -/

theorem fillArrives_keeps (system istream nocheck : Bool) (addr : PAddr) (flip : BitVec 128) (check : BitVec 16) :
    Keeps s (s.fillArrives system istream nocheck addr flip check) := by
  have taken (t : State) : Keeps t ((t.fillInverted system istream addr flip).keepFlip false system addr flip check) :=
    (fillDelivered_keeps t ..).trans (keepFlip_keeps _ ..)
  refine .cond (.refl s) (.cond (taken s) ?_)
  cases checkFill (s.cbu.bcControl.getLsbD 6) (s.belowOctaword (clearLow addr 4).toNat ^^^ flip)
      (checkBits (s.cbu.bcControl.getLsbD 6) (s.belowOctaword (clearLow addr 4).toNat) ^^^ check) with
  | good => exact taken s
  | correctable syn => exact (s.correctableError_keeps system istream addr syn).trans (keepFlip_keeps _ ..)
  | uncorrectable syn =>
    exact ((s.fillFailed_keeps system istream addr syn).trans (taken _)).trans (oweCheck_keeps _ istream)

theorem bcacheTagSeen_keeps (istream system : Bool) (addr : PAddr) (tag control : Bool) (probe : BitVec 27) :
    Keeps s (s.bcacheTagSeen istream system addr tag control probe) :=
  .cond (.refl s) (((Keeps.cond s.drawn_keeps (.refl s)).trans (bcacheTagError_keeps _ ..)).trans (oweCheck_keeps _ _))

theorem bcacheTagRead_keeps (istream system : Bool) (addr : PAddr) (flip : BitVec 24) :
    Keeps s (s.bcacheTagRead istream system addr flip) :=
  .cond ((Keeps.cond (.refl s) (s.bcacheTagSeen_keeps ..)).trans (bcacheTagDamage_keeps _ ..)) (.refl s)

/-! ### The system's commands and writes -/

theorem probed_keeps (a : PAddr) : Keeps s (s.probed a) := .cond ⟨id, id, id, id, id⟩ (.refl s)

theorem notAcknowledged_keeps (a : PAddr) : Keeps s (s.notAcknowledged a) := s.drawn_keeps.trans (onCaches_keeps _ _)

theorem invalidateBlock_keeps (a : PAddr) : Keeps s (s.invalidateBlock a) :=
  (discard_keeps _ s).trans (onCaches_keeps _ _)

/-- An answer with the probe that comes with it. -/
theorem answer_probeSeen_keeps (present data reads bcache : Bool) (r : Answer) (op : ScacheOp) (a : PAddr) :
    Keeps s ((s.answer present data r a).probeSeen op reads bcache a) :=
  (s.onCaches_keeps _).trans (onCaches_keeps _ _)

theorem command_keeps (code : BitVec 4) (a : PAddr) : allNext (Keeps s) (s.command code a) := by
  unfold command
  split
  · exact allNext_next (.refl s)
  · exact allNext_next (((s.answer_probeSeen_keeps ..).trans (onCaches_keeps _ _)).trans (probed_keeps _ a))
  · exact allNext_next (((s.drawn_keeps.trans (answer_probeSeen_keeps _ ..)).trans (invalidateBlock_keeps _ a)).trans
      (probed_keeps _ a))
  · exact allNext_next ((s.answer_probeSeen_keeps ..).trans (onCaches_keeps _ _))
  · exact allNext_next (s.answer_probeSeen_keeps ..)
  · exact allNext_next ((s.answer_probeSeen_keeps ..).trans (onCaches_keeps _ _))
  · exact allNext_next (((s.answer_probeSeen_keeps ..).trans (onCaches_keeps _ _)).trans (probed_keeps _ a))
  · exact allNext_refused

theorem commandHeard_keeps (code : BitVec 4) (a : PAddr) : allNext (Keeps s) (s.commandHeard code a) :=
  allNext_cond
    (allNext_cond (allNext_next (s.drawn_keeps.trans (notAcknowledged_keeps _ a)))
      (allNext_mono (fun _ => s.drawn_keeps.trans) (command_keeps _ code a)))
    (s.command_keeps code a)

theorem busFlush_keeps (a : PAddr) : Keeps s (s.busFlush a) :=
  .trans (.cond (.refl s) ((s.onCaches_keeps _).trans (onCaches_keeps _ _))) (probed_keeps _ a)

theorem lowerByte_keeps (a : Nat) (v : Byte) : Keeps s (s.lowerByte a v) := by
  obtain ⟨m, w, h, hm⟩ := s.lowerByte_frame a v
  have hw : (s.lowerByte a v).memsys.wb.length = s.memsys.wb.length := underWb_length a v _
  rw [h] at hw ⊢
  exact ⟨hm, id, id, id, (Nat.le_of_eq hw).trans⟩

theorem busBytes_keeps : ∀ (bytes : List Byte) (a : PAddr) (s : State), Keeps s (busBytes bytes a s)
  | [], _, s => .refl s
  | b :: rest, _, s => (Keeps.cond (.refl s) (s.lowerByte_keeps _ b)).trans (busBytes_keeps rest _ _)

theorem lowered_keeps (l : List Nat) {f : State → State} (hf : ∀ t, Keeps t (f t)) : Keeps s (s.lowered l f) := by
  have ht := hf { s with model := s.model.noteStale s.mem l }
  exact ⟨ht.mem, ht.idu, ht.mtu, ht.pc, ht.wb⟩

theorem noteUnknown_keeps (l : List Nat) : Keeps s (s.noteUnknown l) := ⟨id, id, id, id, id⟩

theorem busWrite_keeps (bytes : List Byte) (a : PAddr) : Keeps s (s.busWrite bytes a) :=
  ((foldl_keeps busFlush_keeps (busAddresses a bytes.length) s).trans (noteUnknown_keeps _ _)).trans
    (lowered_keeps _ _ (busBytes_keeps bytes a))

/-! ### The Istream -/

theorem istreamRead_keeps (pa : PAddr) : Keeps s (s.istreamRead pa) := ⟨id, id, id, id, id⟩

theorem istreamRequest_keeps (a : PAddr) : Keeps s (s.istreamRequest a) := .cond (.refl s) ⟨id, id, id, id, id⟩

theorem istreamReturns_keeps (n : Nat) : Keeps s (s.istreamReturns n) := by
  unfold istreamReturns
  cases s.memsys.imaf[n]? with
  | none => exact .refl s
  | some pa => exact s.istreamRead_keeps pa

/-! ### The arbiter goes on -/

theorem resumeLoad_keeps (t : State) (e : MafEntry) : Keeps t (resumeLoad s t e) := by
  unfold resumeLoad
  split
  next v u hu =>
    have hread : ∃ reg, t.cbuRead reg = some (v, u) := by
      revert hu
      cases inCbu e.addr with
      | false => exact fun h => nomatch h
      | true => exact fun h => (Option.bind_eq_some_iff.mp h).imp fun _ hr => hr.2
    obtain ⟨reg, hr⟩ := hread
    obtain ⟨c, w, k, rfl, hw⟩ := cbuRead_frame hr
    have ht : Keeps t { t with cbu := c, memsys := w, model := k } := ⟨id, id, id, id, fun h => hw ▸ h⟩
    exact ht.trans (writeSlot_keeps _ _ e.slot)
  next =>
    have hd : Keeps t (e.deliver t.drawn (s.resumeData t e)) := t.drawn_keeps.trans (writeSlot_keeps _ _ e.slot)
    have hl (u : State) (hu : Keeps t u) : Keeps t (bif e.lock then u.setLock e.addr else u) :=
      .cond (hu.trans ⟨id, id, id, id, id⟩) hu
    exact hl _ (.cond (hd.trans ⟨id, id, id, id, id⟩) hd)

theorem resumed_keeps : allNext (Keeps s) s.resumed := by
  unfold resumed
  dsimp only
  have hown : Keeps s s.ownStored := ⟨id, id, id, id, id⟩
  have ht := hown.trans ((withMemSys_keeps_of_le (f := fun c m => m.issueThrough c (s.memsys.maf.filter (·.waits)).length)
    (MemSys.issueThrough_length _ _ _)).trans (foldl_keeps s.resumeLoad_keeps (s.memsys.maf.filter (·.waits)) _))
  cases s.model.cbuWaits with
  | none => exact allNext_next ht
  | some p =>
    refine andThen_all fun u hu => allNext_next (ht.trans ?_)
    obtain ⟨c, m, w, k, rfl, hm, hw⟩ := cbuWrite_frame hu
    exact ⟨hm, id, id, id, (Nat.le_of_eq hw).trans⟩

/-! ### Resets -/

/-- The program counter of the instruction that the reset breaks off is not that of the state it leaves. -/
theorem partialReset_keeps : Keeps s s.partialReset := by
  have hf : Keeps s (s.memsys.maf.foldr (fun e t => t.writeSlot e.old e.slot) s) :=
    foldr_keeps (fun (e : MafEntry) t => t.writeSlot_keeps e.old e.slot) s _
  exact ⟨hf.mem, fun h => Idu.Ok_excAddr _ _ _ (hf.idu h), hf.mtu,
    fun _ => (palAddress_bit1 _ _).trans Entry.mchk.offset_bit1, fun _ => Nat.zero_le 6⟩

theorem chipReset_keeps (image : List SromRecord) : Keeps s (s.chipReset image) where
  mem h := discard_wf _ _ (discard_wf _ _ h)
  idu _ := Idu.reset_ok
  mtu _ := Mtu.reset_ok
  pc _ := (rfl : bit State.reset.pc 1 = false)
  wb _ := Nat.zero_le 6

end State

theorem MemSys.complete_length (c : CacheCfg) (n : Nat) (m : MemSys) : (m.complete c n).wb.length ≤ m.wb.length := by
  unfold MemSys.complete
  cases m.wb[n]? with
  | none => exact Nat.le_refl _
  | some e =>
    cases mayComplete n m.wb with
    | false => exact Nat.le_refl _
    | true =>
      show (MemSys.send c _ e).wb.length ≤ _
      rw [MemSys.send_wb]
      exact List.length_eraseIdx_le ..

/-- An event keeps the machine well formed. -/
theorem handleEvent_keeps (e : Event) (s : State) : allNext (Keeps s) (handleEvent e s) := by
  cases e with
  | irqPins | haltPin | powerFailPin | machineCheckPin | serialPin | systemPins | scacheForced | loadMisses =>
    exact allNext_next ⟨id, id, id, id, id⟩
  | counterOverflow n => exact allNext_cond (allNext_next ⟨id, id, id, id, id⟩) (allNext_next (.refl s))
  | fillError istream addr data =>
    exact allNext_cond (allNext_next (.refl s)) (allNext_cond allNext_refused
      (allNext_next ((s.fillDelivered_keeps ..).trans (State.oweCheck_keeps _ _))))
  | icacheParity tag => exact allNext_next ((s.setIcperr_keeps _).trans (State.oweCheck_keeps _ _))
  | scacheParity tperr dperr op addr =>
    exact allNext_cond (allNext_next (.refl s)) (allNext_cond allNext_refused (allNext_next
      (((s.scacheError_keeps ..).trans (State.scacheDamage_keeps _ _ _)).trans (State.oweCheck_keeps _ _))))
  | dcacheParity which va write ra opcode slot =>
    exact allNext_cond (allNext_next (.refl s)) (allNext_next
      (((s.dcacheError_keeps ..).trans (State.dcacheDamage_keeps _ _ _ _)).trans (State.oweCheck_keeps _ _)))
  | fill system istream nocheck addr flip flipCheck =>
    exact allNext_cond (allNext_next (.refl s)) (allNext_cond allNext_refused (allNext_next (s.fillArrives_keeps ..)))
  | bcacheTag istream system addr flip =>
    exact allNext_cond (allNext_next (.refl s)) (allNext_cond allNext_refused (allNext_next (s.bcacheTagRead_keeps ..)))
  | bcacheTagSeen istream system addr tag control probe => exact allNext_next (s.bcacheTagSeen_keeps ..)
  | resume => exact s.resumed_keeps
  | systemCommand code addr parity =>
    have after {bad : Bool} {r : Result State} (h : allNext (Keeps s) r) :
        allNext (Keeps s) (andThen r fun t => .next (t.afterCommand bad code)) :=
      andThen_all fun u hu => allNext_next ((h u hu).trans ⟨id, id, id, id, id⟩)
    exact allNext_cond allNext_refused (allNext_cond (after (s.commandHeard_keeps code addr))
      (allNext_cond (after (allNext_next (s.notAcknowledged_keeps addr)))
        (after (allNext_next (((s.commandError_keeps addr).trans (State.notAcknowledged_keeps _ addr)).trans
          (State.oweCheck_keeps _ _))))))
  | writeCompletes n =>
    exact allNext_cond (allNext_next (.refl s)) (allNext_next (State.withMemSys_keeps_of_le (MemSys.complete_length _ n _)))
  | loadIssues n =>
    exact allNext_cond (allNext_next (.refl s)) (allNext_next (State.withMemSys_keeps_of_le (MemSys.issueThrough_length _ _ _)))
  | loadReturns n => exact allNext_next (State.withMemSys_keeps_of_le (MemSys.finish_length _ _ _ _))
  | istreamRequest addr => exact allNext_cond allNext_refused (allNext_next (s.istreamRequest_keeps addr))
  | istreamReturns n => exact allNext_cond allNext_refused (allNext_next (s.istreamReturns_keeps n))
  | restore below => exact allNext_next (s.discard_keeps below)
  | quiet => exact allNext_next (.refl s)
  | iduTimeout => exact allNext_cond (allNext_next (.refl s)) (allNext_next s.partialReset_keeps)
  | cfailNoCack => exact allNext_next s.partialReset_keeps
  | busWrite addr bytes =>
    exact allNext_cond allNext_refused (allNext_next ((s.busWrite_keeps bytes addr).trans (State.onCaches_keeps _ _)))
  | chipReset image => exact allNext_cond (allNext_next (s.chipReset_keeps image)) allNext_refused

end Sys2Proof.Machine

/-! # A step keeps the machine well formed -/

namespace Sys2Proof.Machine

theorem Keeps.then {s t : State} {r : Result State} (h : Keeps s t) (hr : allNext (Keeps t) r) : allNext (Keeps s) r :=
  allNext_mono (fun _ => h.trans) hr

theorem allNext_keeps_andThen {s : State} {r : Result State} {k : State → Result State} (hr : allNext (Keeps s) r)
    (hk : ∀ u, allNext (Keeps u) (k u)) : allNext (Keeps s) (andThen r k) :=
  andThen_all fun u hu => (hr u hu).then (hk u)

namespace State

variable (s : State)

theorem withModel_keeps (k : Model) : Keeps s { s with model := k } := ⟨id, id, id, id, id⟩

theorem drainFor_keeps (e : Entry) : Keeps s (s.drainFor e) :=
  .cond (withMemSys_keeps_of_le (MemSys.finish_length _ _ _ _)) (.refl s)

theorem noteEntry_keeps : Keeps s s.noteEntry := by
  unfold noteEntry
  cases s.model.lastEntry with
  | none => exact .refl s
  | some e => exact (s.drainFor_keeps e).trans (withModel_keeps _ _)

theorem useRegisters_keeps (w : Long) : Keeps s (s.useRegisters w) :=
  .cond (withMemSys_keeps_of_le (MemSys.finish_length _ _ _ _)) (.refl s)

theorem checkTaken_keeps : Keeps s s.checkTaken := ⟨id, id, id, id, id⟩

theorem begin_keeps : Keeps s s.begin := ⟨id, id, id, id, id⟩

/-! ### A fetch -/

theorem fetchMiss_keeps (pa : Nat) : Keeps s (s.fetchMiss pa).state := by
  have ht := s.istreamRead_keeps (BitVec.ofNat 40 pa)
  unfold fetchMiss
  dsimp only
  cases (bytesIn pa 4).any (s.istreamRead (BitVec.ofNat 40 pa)).memsys.covers with
  | true => exact ht.trans (drawn_keeps _)
  | false => exact .cond (ht.trans (drawn_keeps _)) ht

theorem fetchChoose_keeps (pa : Nat) : ∀ (l : List (Long × BitVec 2)) (s : State), Keeps s (fetchChoose pa l s).state
  | [], s => s.fetchMiss_keeps pa
  | v :: rest, s => by
    unfold fetchChoose
    cases s.drawChoice with
    | true => exact s.drawn_keeps
    | false => exact s.drawn_keeps.trans (fetchChoose_keeps pa rest s.drawn)

theorem fetchSrom_keeps (pa : Nat) : ∀ (l : List SromWord) (s : State), Keeps s (fetchSrom pa l s).state
  | [], s => fetchChoose_keeps pa (s.cached pa) s
  | e :: rest, s => by
    unfold fetchSrom
    cases s.icsrBit 34 with
    | true => exact fetchChoose_keeps pa (s.cached pa) s
    | false =>
      cases s.model.stale.sromWhole with
      | true => exact .refl s
      | false =>
        cases s.drawChoice with
        | true => exact s.drawn_keeps
        | false => exact s.drawn_keeps.trans (fetchSrom_keeps pa rest s.drawn)

theorem fetchWord_keeps (pa : Nat) : Keeps s (s.fetchWord pa).state := fetchSrom_keeps pa s.sromHits s

end State

theorem chooseTranslation_keeps (va : Quad) : ∀ (l : List Former) (s : State), Keeps s (chooseTranslation va l s).2
  | [], s => .refl s
  | f :: rest, s => by
    unfold chooseTranslation
    cases s.drawChoice with
    | true => exact s.drawn_keeps
    | false => exact s.drawn_keeps.trans (chooseTranslation_keeps va rest s.drawn)

theorem recordFetchFault_keeps (va : Quad) (form : Bool) (s : State) : Keeps s (recordFetchFault va form s) :=
  ⟨id, id, id, id, id⟩

/-! ### An instruction -/

theorem execDecoded_keeps (w : Long) (d : Decoded) (s : State) : allNext (Keeps s) (execDecoded w d s) := by
  cases d with
  | instr i => exact allNext_mono (fun _ h => h.keeps) (exec_follows i s)
  | rejected why =>
    have hraise (e : Entry) : allNext (Keeps s) (raise e s) := allNext_next (takeEntry_keeps (.refl s))
    exact allNext_cond (hraise .opcdec) (allNext_cond (hraise .fen) allNext_refused)

theorem settle_keeps (s : State) (pa : Nat) (w : Long) (t : State) : allNext (Keeps t) (settle s pa w t) :=
  allNext_cond allNext_refused
    (allNext_next ((t.withModel_keeps _).trans (State.noteEntry_keeps _)))

theorem runWord_keeps (pa : Nat) (w : Long) (s : State) : allNext (Keeps s) (runWord pa w s) :=
  allNext_cond (allNext_next (.refl s)) ((s.useRegisters_keeps w).then (allNext_cond allNext_refused
    (allNext_keeps_andThen (execDecoded_keeps w (decode w) _) fun u =>
      allNext_cond (allNext_next (.refl u)) (settle_keeps _ pa w u))))

/-! ### The boundary -/

theorem enterAt_keeps {s f t : State} (h : Keeps s t) : allNext (Keeps s) (enterAt f t) :=
  allNext_cond allNext_refused (allNext_next (h.trans t.noteEntry_keeps))

theorem runAt_keeps (pa : PAddr) (s : State) : allNext (Keeps s) (runAt pa s) := by
  have hf := s.fetchWord_keeps (s.busAddress pa).toNat
  refine allNext_cond allNext_refused (allNext_cond allNext_refused (allNext_cond (allNext_next hf) (allNext_cond ?_ ?_)))
  · exact hf.then (runWord_keeps _ _ _)
  · exact enterAt_keeps (hf.trans (takeEntry_keeps (State.setIcperr_keeps _ _)))

theorem orInterrupt_keeps {k : State → Result State} (hk : ∀ u, allNext (Keeps u) (k u)) (s : State) :
    allNext (Keeps s) (orInterrupt k s) := by
  refine allNext_cond (allNext_cond ?_ ?_) ?_
  · exact enterAt_keeps ((s.withModel_keeps _).trans (takeEntry_keeps (.refl _)))
  · exact (s.withModel_keeps _).then (hk _)
  · exact (s.withModel_keeps _).then (hk _)

theorem orArith_keeps {k : State → Result State} (hk : ∀ u, allNext (Keeps u) (k u)) (s : State) :
    allNext (Keeps s) (orArith k s) :=
  allNext_cond (allNext_cond (enterAt_keeps (s.drawn_keeps.trans (takeArith_keeps _))) (s.drawn_keeps.then (hk _))) (hk s)

theorem orMachineCheck_keeps {k : State → Result State} (hk : ∀ u, allNext (Keeps u) (k u)) (s : State) :
    allNext (Keeps s) (orMachineCheck k s) := by
  refine allNext_cond ((s.withModel_keeps _).then (hk _)) (allNext_cond (enterAt_keeps ?_) ?_)
  · exact (s.withModel_keeps _).trans (.cond (takeArith_keeps _) ((State.checkTaken_keeps _).trans (takeEntry_keeps (.refl _))))
  · exact (s.withModel_keeps _).then (hk _)

theorem boundary_keeps (s : State) : allNext (Keeps s) (boundary s) := by
  have hf := chooseTranslation_keeps (clearLow s.pc 2) s.model.former s
  refine allNext_cond (runAt_keeps _ s) (hf.then ?_)
  generalize chooseTranslation (clearLow s.pc 2) s.model.former s = f
  obtain ⟨translation, u⟩ := f
  cases translation with
  | iaccvio form => exact enterAt_keeps (takeEntry_keeps (recordFetchFault_keeps _ _ _))
  | itbmiss =>
    exact orInterrupt_keeps (fun u => allNext_next
      ((takeEntry_keeps (recordFetchFault_keeps _ _ u)).trans (State.noteEntry_keeps _))) _
  | multiple => exact orInterrupt_keeps (fun _ => allNext_fault) _
  | ok pa => exact orInterrupt_keeps (runAt_keeps pa) _

theorem atBoundary_keeps (s : State) : allNext (Keeps s) (atBoundary s) :=
  andThen_all fun t ht => allNext_cond (allNext_next (.refl s))
    (allNext_next (orMachineCheck_keeps (orArith_keeps boundary_keeps) s t ht))

/-! ### A step -/

theorem eventStep_keeps (e : Event) (s : State) : allNext (Keeps s) (eventStep e s) :=
  allNext_keeps_andThen (handleEvent_keeps e s) fun u => allNext_next u.noteEntry_keeps

theorem cycle_keeps (s : State) : allNext (Keeps s) (cycle s) := by
  have hb := s.begin_keeps
  unfold cycle
  dsimp only
  split
  · exact (hb.trans (State.onCaches_keeps _ _)).then (eventStep_keeps _ _)
  · split
    · exact hb.then (atBoundary_keeps _)
    · exact (hb.trans (State.withModel_keeps _ _)).then (atBoundary_keeps _)
    · exact allNext_cond ((hb.trans (State.withModel_keeps _ _)).then (eventStep_keeps _ _))
        (allNext_next (hb.trans (State.withModel_keeps _ _)))

/-- Settles O7: every operation of a step keeps each part of the well-formedness (`Keeps`). -/
theorem stepKeepsTheMachineWellFormed : Obligations.StepKeepsTheMachineWellFormed :=
  fun s t hs ht => (cycle_keeps s t ht).ok hs

end Sys2Proof.Machine

/-! # The FPCR -/

namespace Sys2Proof.Machine

/-- A field of a word as a quotient and a remainder. -/
theorem toNat_extractLsb' {w : Nat} (v : BitVec w) (lo n : Nat) : (v.extractLsb' lo n).toNat = v.toNat / 2 ^ lo % 2 ^ n := by
  rw [BitVec.extractLsb'_toNat, Nat.shiftRight_eq_div_pow]

theorem whenFp_enabled {k : State → Result State} {s : State} (h : s.fpEnabled = true) : whenFp k s = k s := by
  unfold whenFp
  rw [h]
  rfl

/-! ### What MF_FPCR reads, field by field -/

theorem State.fpcrValue_0_49 (s : State) : s.fpcrValue.extractLsb' 0 49 = 0 := by
  apply BitVec.eq_of_getLsbD_eq
  intro i hi
  simp (disch := omega) only [State.fpcrValue, BitVec.getLsbD_extractLsb', BitVec.getLsbD_append, if_pos]
  simp

theorem State.fpcrValue_49_3 (s : State) :
    s.fpcrValue.extractLsb' 49 3 = s.fpcr.extractLsb' 0 3 &&& slice s.drawValue 0 3 := by
  apply BitVec.eq_of_getLsbD_eq
  intro i hi
  simp (disch := omega) only [State.fpcrValue, BitVec.getLsbD_extractLsb', BitVec.getLsbD_append, if_pos, if_neg, hi,
    decide_true, Bool.true_and, Nat.add_sub_cancel_left, if_true]

theorem State.fpcrValue_52_11 (s : State) : s.fpcrValue.extractLsb' 52 11 = s.fpcr.extractLsb' 3 11 := by
  apply BitVec.eq_of_getLsbD_eq
  intro i hi
  have h : 52 + i - 49 - 3 = i := by omega
  simp (disch := omega) only [State.fpcrValue, BitVec.getLsbD_extractLsb', BitVec.getLsbD_append, if_neg, h, hi,
    decide_true, Bool.true_and, if_true]

theorem State.fpcrValue_63 (s : State) : s.fpcrValue.getLsbD 63 = (s.fpcr.extractLsb' 3 6 != 0) := by
  simp (disch := omega) only [State.fpcrValue, BitVec.getLsbD_append, if_neg]
  cases s.fpcr.extractLsb' 3 6 != 0 <;> rfl

/-- A field of the value that MT_FPCR keeps of a source. -/
theorem extractLsb'_slice_49 (v : Quad) (lo n : Nat) (h : lo + n ≤ 14) :
    (slice v 49 14 : BitVec 14).extractLsb' lo n = v.extractLsb' (49 + lo) n := by
  apply BitVec.eq_of_getLsbD_eq
  intro i hi
  have h14 : lo + i < 14 := by omega
  simp only [slice, BitVec.getLsbD_extractLsb', hi, h14, decide_true, Bool.true_and, Nat.add_assoc]

theorem exec_mtFpcr {f g h : Reg} {s : State} (hfp : s.fpEnabled = true) :
    exec (.mt_fpcr f g h) s = .next (State.advance { s with fpcr := slice (s.readFreg f) 49 14 }) := by
  dsimp only [exec]
  exact whenFp_enabled hfp

theorem exec_mfFpcr {f g h : Reg} {s : State} (hfp : s.fpEnabled = true) :
    exec (.mf_fpcr f g h) s = .next ((s.drawn.writeFreg f s.fpcrValue).advance) := by
  dsimp only [exec]
  exact whenFp_enabled hfp

/-- Settles O42: the fields that MT_FPCR keeps are the fields that MF_FPCR shows. -/
theorem fpcrReadsBack : Obligations.FpcrReadsBack := by
  intro f g s hfp
  refine ⟨State.advance { s with fpcr := slice (s.readFreg f) 49 14 }, _, _, exec_mtFpcr hfp, rfl, rfl, exec_mfFpcr hfp, ?_⟩
  generalize ht : State.advance { s with fpcr := slice (s.readFreg f) 49 14 } = t
  have hfpcr : t.fpcr = slice (s.readFreg f) 49 14 := ht ▸ rfl
  have hfield (lo n : Nat) (h : lo + n ≤ 14) :
      (t.fpcr.extractLsb' lo n).toNat = (s.readFreg f).toNat / 2 ^ (49 + lo) % 2 ^ n := by
    rw [hfpcr, extractLsb'_slice_49 _ _ _ h, toNat_extractLsb']
  refine ⟨?_, ?_, ?_, ?_⟩
  · have h := congrArg BitVec.toNat t.fpcrValue_0_49
    rwa [toNat_extractLsb', Nat.pow_zero, Nat.div_one] at h
  · rw [← toNat_extractLsb', t.fpcrValue_52_11, hfield 3 11 (by decide)]
  · rw [t.fpcrValue_63, bne_iff_ne, ← hfield 3 6 (by decide), ne_eq, ne_eq, BitVec.toNat_eq]
    rfl
  · intro h
    have h0 : t.fpcr.extractLsb' 0 3 = 0#3 := BitVec.eq_of_toNat_eq ((hfield 0 3 (by decide)).trans h)
    rw [← toNat_extractLsb', t.fpcrValue_49_3, h0, BitVec.zero_and]
    rfl

end Sys2Proof.Machine

/-! # Completion of a floating-point operate -/

namespace Sys2Proof.Machine

/-! ### Qualifiers (44_fp_common.md R741, R742) -/

/-- FPCR<DYN_RM> as a number gives the mode of /D. -/
theorem Qual.mode_eq (q : Qual) (s : State) : q.mode s = match q.rnd, s.fpcr.toNat / 2 ^ 9 % 4 with
    | some m, _ => m
    | none, 0 => .chop
    | none, 1 => .minusInf
    | none, 2 => .nearest
    | none, _ => .plusInf := by
  have hn : s.fpcr.toNat / 2 ^ 9 % 4 = s.dynRm.toNat := (toNat_extractLsb' s.fpcr 9 2).symm
  unfold Qual.mode State.dynamicRounding
  rw [hn]
  cases q.rnd with
  | some m => rfl
  | none =>
    generalize s.dynRm = d
    revert d
    decide

/-- The traps enabled: INV, DZE and OVF always. -/
theorem State.enabledTraps_getLsbD (s : State) (q : Qual) (k : Nat) (hk : k < 6) :
    (s.enabledTraps q).getLsbD k = [true, true, true, s.unfEnabled q, s.ineEnabled q, q.u].getD k false := by
  have h : ∀ (u i v : Bool), ∀ k < 6, (Exc.inv ||| Exc.dze ||| Exc.ovf ||| Exc.when u Exc.unf ||| Exc.when i Exc.ine |||
      Exc.when v Exc.iov).getLsbD k = [true, true, true, u, i, v].getD k false := by decide
  exact h _ _ _ k hk

/-! ### EXC_SUM -/

theorem Idu.noteTrap_excSum (i : Idu) (e : Exc) (sw : Bool) (j : Nat) (hj : j < 6) :
    ((i.noteExc e).noteSwc sw).excSum.getLsbD (j + 1) = (i.excSum.getLsbD (j + 1) || e.getLsbD j) := by
  have h7E : ∀ j < 6, (0x7E : BitVec 7).getLsbD (j + 1) = true := by decide
  have hj7 : j + 1 < 7 := by omega
  have he : (e.setWidth 7 <<< 1).getLsbD (j + 1) = e.getLsbD j := by
    simp [hj7]
  cases sw with
  | false =>
    show (((i.excSum ||| (e.setWidth 7 <<< 1)) &&& 0x7E)).getLsbD (j + 1) = _
    rw [BitVec.getLsbD_and, BitVec.getLsbD_or, he, h7E j hj, Bool.and_true]
  | true =>
    show ((i.excSum ||| (e.setWidth 7 <<< 1)) ||| BitVec.zeroExtend 7 (BitVec.ofBool (!i.swcKilled))).getLsbD (j + 1) = _
    have hz : (BitVec.zeroExtend 7 (BitVec.ofBool (!i.swcKilled))).getLsbD (j + 1) = false := by
      simp [BitVec.getLsbD_setWidth]
    rw [BitVec.getLsbD_or, BitVec.getLsbD_or, he, hz, Bool.or_false]

/-- EXC_SUM<SWC>: set by /S, and cleared for good by a trap without it (R136). -/
theorem Idu.noteTrap_swc (i : Idu) (e : Exc) (sw : Bool) :
    ((i.noteExc e).noteSwc sw).excSum.getLsbD 0 = (sw && (i.excSum.getLsbD 0 || !i.swcKilled)) := by
  have he : (e.setWidth 7 <<< 1).getLsbD 0 = false := by simp
  cases sw with
  | false =>
    show (((i.excSum ||| (e.setWidth 7 <<< 1)) &&& 0x7E)).getLsbD 0 = _
    rw [BitVec.getLsbD_and]
    exact Bool.and_false _
  | true =>
    show ((i.excSum ||| (e.setWidth 7 <<< 1)) ||| BitVec.zeroExtend 7 (BitVec.ofBool (!i.swcKilled))).getLsbD 0 = _
    rw [BitVec.getLsbD_or, BitVec.getLsbD_or, he, Bool.or_false]
    cases i.swcKilled <;> simp

theorem Idu.noteTrap_swcKilled (i : Idu) (e : Exc) (sw : Bool) :
    ((i.noteExc e).noteSwc sw).swcKilled = (i.swcKilled || !sw) := by
  cases sw with
  | false => exact (Bool.or_true _).symm
  | true => exact (Bool.or_false _).symm

/-! ### The completed state -/

theorem State.writeFreg_eq (s : State) (r : Reg) (v : Quad) :
    s.writeFreg r v = { s with fregs := (s.writeFreg r v).fregs } := by
  unfold State.writeFreg
  cases r == 31 <;> rfl

/-- What the destination receives: the value, or a free one. -/
def FpResult.written (s : State) : FpResult → Quad
  | .value v _ => v
  | .free _ => s.drawValue

/-- The state with the status bits set and the destination written, before a trap. -/
def State.fpRecorded (s : State) (fc : Reg) (r : FpResult) (k : Model) : State :=
  { s with
    fregs := (s.writeFreg fc (r.written s)).fregs
    fpcr := s.fpcr ||| (r.exc.setWidth 14 <<< 3)
    model := k }

/-- Completion is the record, then the trap if an enabled exception has come. -/
theorem State.finishFp_eq (s : State) (q : Qual) (fc : Reg) (r : FpResult) :
    ∃ k, s.finishFp q fc r = bif r.exc &&& s.enabledTraps q == 0 then s.fpRecorded fc r k
      else (s.fpRecorded fc r k).fpTrap q.sw (r.exc &&& s.enabledTraps q) fc := by
  have hw (e : Exc) (v : Quad) : (s.setFpcrStatus e).writeFreg fc v =
      { s.setFpcrStatus e with fregs := (s.writeFreg fc v).fregs } := by
    rw [State.writeFreg_eq, SameRegisters.writeFreg (s := s) {}]
  cases r with
  | value v e =>
    refine ⟨s.model, ?_⟩
    unfold State.finishFp
    dsimp only
    rw [hw]
    rfl
  | free e =>
    refine ⟨s.drawn.model, ?_⟩
    unfold State.finishFp
    dsimp only
    rw [hw]
    rfl

section Finish

variable (s : State) (q : Qual) (fc : Reg) (r : FpResult)

theorem State.finishFp_fregs : (s.finishFp q fc r).fregs = (s.writeFreg fc (r.written s)).fregs := by
  obtain ⟨k, h⟩ := s.finishFp_eq q fc r
  rw [h]
  cases r.exc &&& s.enabledTraps q == 0 <;> rfl

theorem State.finishFp_fpcr : (s.finishFp q fc r).fpcr = s.fpcr ||| (r.exc.setWidth 14 <<< 3) := by
  obtain ⟨k, h⟩ := s.finishFp_eq q fc r
  rw [h]
  cases r.exc &&& s.enabledTraps q == 0 <;> rfl

theorem State.finishFp_untrapped (h0 : r.exc &&& s.enabledTraps q = 0) :
    (s.finishFp q fc r).idu = s.idu ∧ (s.finishFp q fc r).arithPending = s.arithPending := by
  obtain ⟨k, h⟩ := s.finishFp_eq q fc r
  rw [h, h0]
  exact ⟨rfl, rfl⟩

theorem State.finishFp_trapped (h0 : r.exc &&& s.enabledTraps q ≠ 0) :
    (s.finishFp q fc r).arithPending = true ∧ (s.finishFp q fc r).idu =
      { (s.idu.noteExc (r.exc &&& s.enabledTraps q)).noteSwc q.sw with excMaskFp := s.idu.excMaskFp ||| maskBit fc } := by
  obtain ⟨k, h⟩ := s.finishFp_eq q fc r
  rw [h, beq_false_of_ne h0]
  exact ⟨rfl, rfl⟩

end Finish

theorem BitVec6_eq_zero_iff (x : BitVec 6) : x = 0 ↔ ∀ k < 6, x.getLsbD k = false := by
  refine ⟨fun h k _ => ?_, fun h => BitVec.eq_of_getLsbD_eq fun k hk => ?_⟩
  · rw [h]
    exact BitVec.getLsbD_zero
  · rw [h k hk]
    exact BitVec.getLsbD_zero.symm

/-! ### What an operate may change -/

/-- `t` is `s` with a floating-point operate completed, but for what it makes of the FPCR. -/
structure Operates (fc : Reg) (s t : State) : Prop where
  pc : t.pc = s.pc + 4
  fregs : ∀ r : Reg, r ≠ fc → t.readFreg r = s.readFreg r
  frame : { t with
      pc := s.pc
      fregs := s.fregs
      fpcr := s.fpcr
      arithPending := s.arithPending
      idu := { t.idu with
        excSum := s.idu.excSum
        swcKilled := s.idu.swcKilled
        excMaskFp := s.idu.excMaskFp }
      model := s.model } = s

/-- Status bits of the FPCR may have been set, and nothing else in it has changed. -/
def SetsStatus (s t : State) : Prop := t.fpcr &&& s.fpcr = s.fpcr ∧ t.fpcr &&& ~~~0x1F8 = s.fpcr &&& ~~~0x1F8

theorem State.readFreg_of_fregs_eq {s t : State} {fc : Reg} {v : Quad} (h : t.fregs = (s.writeFreg fc v).fregs) (r : Reg)
    (hr : r ≠ fc) : t.readFreg r = s.readFreg r := by
  have ht : t.readFreg r = (s.writeFreg fc v).readFreg r := by
    unfold State.readFreg
    rw [h]
  rw [ht, State.readFreg_writeFreg, if_neg hr]
  split
  next h31 =>
    rw [h31]
    rfl
  next => rfl

theorem operates_advance (fc : Reg) (s : State) : Operates fc s s.advance := ⟨rfl, fun _ _ => rfl, rfl⟩

theorem operates_writeFreg (fc : Reg) (v : Quad) (s : State) : Operates fc s (s.writeFreg fc v).advance := by
  refine ⟨?_, State.readFreg_of_fregs_eq (v := v) rfl, ?_⟩ <;> rw [State.writeFreg_eq] <;> rfl

theorem operates_writeFreg_drawn (fc : Reg) (v : Quad) (s : State) : Operates fc s (s.drawn.writeFreg fc v).advance := by
  refine ⟨?_, State.readFreg_of_fregs_eq (v := v) (SameRegisters.writeFreg (s := s) {} fc v), ?_⟩ <;>
    rw [State.writeFreg_eq] <;> rfl

theorem operates_finishFp (q : Qual) (fc : Reg) (r : FpResult) (s : State) : Operates fc s (s.finishFp q fc r).advance := by
  refine ⟨?_, State.readFreg_of_fregs_eq (s.finishFp_fregs q fc r), ?_⟩
  · obtain ⟨k, h⟩ := s.finishFp_eq q fc r
    rw [h]
    cases r.exc &&& s.enabledTraps q == 0 <;> rfl
  · obtain ⟨k, h⟩ := s.finishFp_eq q fc r
    rw [h]
    cases r.exc &&& s.enabledTraps q == 0 with
    | true => rfl
    | false => cases q.sw <;> rfl

theorem setsStatus_of_fpcr_eq {s t : State} (h : t.fpcr = s.fpcr) : SetsStatus s t := by
  unfold SetsStatus
  rw [h]
  exact ⟨BitVec.and_self, rfl⟩

theorem setsStatus_finishFp (q : Qual) (fc : Reg) (r : FpResult) (s : State) : SetsStatus s (s.finishFp q fc r).advance := by
  have hout : ∀ e : Exc, (e.setWidth 14 <<< 3 : BitVec 14) &&& ~~~0x1F8 = 0 := by decide
  unfold SetsStatus
  rw [State.advance_fpcr, State.finishFp_fpcr]
  constructor
  · apply BitVec.eq_of_getLsbD_eq
    intro i _
    rw [BitVec.getLsbD_and, BitVec.getLsbD_or]
    cases s.fpcr.getLsbD i <;> simp
  · rw [BitVec.and_or_distrib_right, hout]
    exact BitVec.or_zero

/-- Every floating-point operate completes. -/
theorem operate_completes {i : Instr} {s : State} (hwf : i.wf = true) (hop : i.opcode ∈ [0x15, 0x16, 0x17])
    (hfp : s.fpEnabled = true) :
    ∃ t, exec i s = .next t ∧ Operates (rcOf (encode i)) s t ∧ ((∀ a b c, i ≠ .mt_fpcr a b c) → SetsStatus s t) := by
  have hform := execForm i
  have hop' : opcodeOf (encode i) ∈ ([0x15, 0x16, 0x17] : List (BitVec 6)) := by
    unfold Instr.opcode at hop
    rw [toNat_opcode] at hop
    generalize opcodeOf (encode i) = op at hop
    revert op
    decide
  revert hform hop'
  generalize encode i = w
  generalize hx : (fun s => exec i s) = run
  intro hform hop'
  have hs : exec i s = run s := congrFun hx s
  rw [hs]
  cases hform with
  | other ho hn => exact absurd (ho ▸ hop') hn
  | arithmetic =>
    rw [rcOf_encFloat]
    exact ⟨_, whenFp_enabled hfp, operates_finishFp _ _ _ s, fun _ => setsStatus_finishFp _ _ _ s⟩
  | move =>
    rw [rcOf_encFloat]
    exact ⟨_, whenFp_enabled hfp, operates_writeFreg _ _ s, fun _ => setsStatus_of_fpcr_eq (State.writeFreg_fpcr ..)⟩
  | @moveIf _ _ fa fb fc p =>
    rw [rcOf_encFloat]
    refine ⟨_, whenFp_enabled hfp, ?_⟩
    cases p (s.readFreg fa) with
    | true => exact ⟨operates_writeFreg _ _ s, fun _ => setsStatus_of_fpcr_eq (State.writeFreg_fpcr ..)⟩
    | false => exact ⟨operates_advance _ s, fun _ => setsStatus_of_fpcr_eq rfl⟩
  | writeFpcr hi => exact ⟨_, whenFp_enabled hfp, ⟨rfl, fun _ _ => rfl, rfl⟩, fun hne => absurd hi (hne _ _ _)⟩
  | @readFpcr fa fb fc hi =>
    rw [rcOf_encFloat]
    have hfa : fa = fc := by
      rw [hi] at hwf
      simp only [Instr.wf, Bool.and_eq_true, beq_iff_eq] at hwf
      exact hwf.1.trans hwf.2
    rw [hfa]
    exact ⟨_, whenFp_enabled hfp, operates_writeFreg_drawn fc _ s, fun _ => setsStatus_of_fpcr_eq (State.writeFreg_fpcr ..)⟩

/-- Settles O48: completion is the record and the trap (`State.finishFp_eq`), and every form of a floating-point operate ends
so or with a plain write (`operate_completes`). -/
theorem floatingOperatesComplete : Obligations.FloatingOperatesComplete := by
  refine ⟨fun q s => ⟨rfl, q.mode_eq s⟩, ?_, fun i s hwf hop hfp => ?_⟩
  · intro q fc r s result e enabled traps t
    have hresult : result = (r.written s, r.exc) := by cases r <;> rfl
    have htraps (k : Nat) (hk : k < 6) : traps k = (r.exc &&& s.enabledTraps q).getLsbD k := by
      rw [BitVec.getLsbD_and, s.enabledTraps_getLsbD q k hk]
      show (result.2.getLsbD k && _) = _
      rw [hresult]
      rfl
    refine ⟨?_, fun k hk => ?_, fun h => ?_, fun k hk h => ?_⟩
    · rw [hresult]
      exact s.finishFp_fregs q fc r
    · show (s.finishFp q fc r).fpcr.getLsbD k = (s.fpcr.getLsbD k || decide (3 ≤ k) && result.2.getLsbD (k - 3))
      rw [s.finishFp_fpcr, hresult, BitVec.getLsbD_or, BitVec.getLsbD_shiftLeft, BitVec.getLsbD_setWidth]
      have h14 : k - 3 < 14 := by omega
      simp only [hk, h14, decide_true, Bool.true_and, ← decide_not, Nat.not_lt]
    · exact s.finishFp_untrapped q fc r ((BitVec6_eq_zero_iff _).mpr fun k hk => (htraps k hk).symm.trans (h k hk))
    · have h0 : r.exc &&& s.enabledTraps q ≠ 0 := fun h0 =>
        Bool.false_ne_true (((BitVec6_eq_zero_iff _).mp h0 k hk).symm.trans ((htraps k hk).symm.trans h))
      obtain ⟨hpending, hidu⟩ := s.finishFp_trapped q fc r h0
      show (s.finishFp q fc r).arithPending = true ∧ (∀ j < 6, (s.finishFp q fc r).idu.excSum.getLsbD (j + 1) = _) ∧
        (s.finishFp q fc r).idu.excSum.getLsbD 0 = _ ∧ (s.finishFp q fc r).idu.swcKilled = _ ∧
        (s.finishFp q fc r).idu.excMaskFp = _
      rw [hidu]
      refine ⟨hpending, fun j hj => ?_, Idu.noteTrap_swc .., Idu.noteTrap_swcKilled .., rfl⟩
      rw [htraps j hj]
      exact Idu.noteTrap_excSum s.idu _ q.sw j hj
  · obtain ⟨t, ht, ho, hstatus⟩ := operate_completes hwf hop hfp
    exact ⟨t, ht, ho.pc, ho.fregs, ho.frame, hstatus⟩

end Sys2Proof.Machine

/-! # HW_MTPR and HW_MFPR -/

namespace Sys2Proof.Machine

/-! ### Fields -/

theorem slice_eq_ofNat (v : Quad) (lo n : Nat) : slice v lo n = BitVec.ofNat n (v.toNat / 2 ^ lo) := by
  apply BitVec.eq_of_toNat_eq
  rw [slice, toNat_extractLsb', BitVec.toNat_ofNat]

/-- A field put back in its place is the value under the field's mask. -/
theorem place_slice (v : Quad) (lo n : Nat) (h : lo + n ≤ 64) : place (slice v lo n) lo = v &&& maskOf lo n := by
  apply BitVec.eq_of_getLsbD_eq
  intro i hi
  simp only [place, slice, maskOf, BitVec.getLsbD_and, BitVec.getLsbD_shiftLeft, BitVec.getLsbD_setWidth,
    BitVec.getLsbD_extractLsb', BitVec.getLsbD_allOnes]
  by_cases hlo : i < lo
  · simp [hlo]
  · have hsub : lo + (i - lo) = i := by omega
    have h64 : i - lo < 64 := by omega
    simp [hlo, hi, h64, hsub, Bool.and_comm]

/-- What other bits hold does not show under a mask that leaves them out. -/
theorem and_or_and_of_disjoint {v m b : Quad} (h : b &&& m = 0#64) : (v &&& m ||| b) &&& m = v &&& m := by
  rw [BitVec.and_or_distrib_right, h, BitVec.and_assoc, BitVec.and_self, BitVec.or_zero]

/-! ### The instructions -/

section

variable {index : BitVec 16} {i : Ipr} {r q : Reg} {s t : State} {v : Quad} {m : Model}

theorem whenPal_allowed {k : State → Result State} (h : s.palOpcodeAllowed = true) : whenPal k s = k s := by
  unfold whenPal
  rw [h]
  rfl

theorem exec_hwMtpr (hpal : s.palOpcodeAllowed = true) (hi : iprAt index = some i)
    (hw : writeIpr s (s.readReg r) i = .next t) : exec (.hw_mtpr r r index) s = .next t.advance := by
  dsimp only [exec, execHwMtpr]
  rw [whenPal_allowed hpal, bne_self_eq_false, cond_false, hi]
  dsimp only
  rw [hw]
  rfl

theorem exec_hwMfpr (hpal : s.palOpcodeAllowed = true) (hi : iprAt index = some i)
    (hr : readIpr s i = some (v, { s with model := m })) :
    ∃ k, exec (.hw_mfpr q q index) s = .next (({ s with model := k }.writeReg q v).advance) := by
  obtain ⟨k, hk⟩ := State.afterMfpr_frame { s with model := m } index
  refine ⟨k, ?_⟩
  dsimp only [exec, execHwMfpr]
  rw [whenPal_allowed hpal, bne_self_eq_false, cond_false, hi, Option.bind_some, hr]
  dsimp only
  rw [hk]
  rfl

end

/-! ### What is written is read back -/

/-- HW_MTPR writes a value, and HW_MFPR then gives it back under a mask. -/
def ReadsBack (i : Ipr) (mask : Quad) (s : State) (v : Quad) : Prop :=
  ∃ t, writeIpr s v i = .next t ∧ readIpr t.advance i = some (v &&& mask, t.advance)

/-- A register that is one field of the quadword. -/
theorem readsBack_field {i : Ipr} {mask : Quad} {s t : State} {v : Quad} (lo n : Nat) (hw : writeIpr s v i = .next t)
    (hr : readIpr t.advance i = some (place (slice v lo n) lo, t.advance)) (h : lo + n ≤ 64) (hm : maskOf lo n = mask) :
    ReadsBack i mask s v :=
  ⟨t, hw, by rw [hr, place_slice v lo n h, hm]⟩

section

variable (s : State) (v : Quad)

theorem readsBack_itbAsn : ReadsBack .itbAsn 0x7F0 s v := readsBack_field 4 7 rfl rfl (by decide) (by decide)
theorem readsBack_sirr : ReadsBack .sirr 0x7FFF0 s v := readsBack_field 4 15 rfl rfl (by decide) (by decide)
theorem readsBack_astrr : ReadsBack .astrr 0xF s v := readsBack_field 0 4 rfl rfl (by decide) (by decide)
theorem readsBack_aster : ReadsBack .aster 0xF s v := readsBack_field 0 4 rfl rfl (by decide) (by decide)
theorem readsBack_excAddr : ReadsBack .excAddr 0xFFFFFFFFFFFFFFFD s v := ⟨_, rfl, rfl⟩
theorem readsBack_palBase : ReadsBack .palBase 0xFFFFFFFFFFFFC000 s v := readsBack_field 14 50 rfl rfl (by decide) (by decide)
theorem readsBack_icm : ReadsBack .icm 0x18 s v := readsBack_field 3 2 rfl rfl (by decide) (by decide)
theorem readsBack_iplr : ReadsBack .iplr 0x1F s v := readsBack_field 0 5 rfl rfl (by decide) (by decide)
theorem readsBack_dcMode : ReadsBack .dcMode 0xF s v := readsBack_field 0 4 rfl rfl (by decide) (by decide)

theorem readsBack_mcsr (h : v &&& 0x28 = 0) : ReadsBack .mcsr 0x17 s v := by
  have hbit (k : Nat) (hk : (0x28 : Quad).getLsbD k = true) : bit v k = false := by
    have hand := congrArg (·.getLsbD k) h
    simp only [BitVec.getLsbD_and, hk, Bool.and_true] at hand
    exact hand.trans BitVec.getLsbD_zero
  have hw : writeIpr s v .mcsr = .next { s with mtu := { s.mtu with mcsr := slice v 0 6 } } := by
    rw [writeIpr, hbit 3 rfl, hbit 5 rfl]
    rfl
  refine ⟨_, hw, congrArg (fun x => some (x, _)) ?_⟩
  calc place (slice v 0 6) 0 = v &&& (0x28 ||| 0x17) := (place_slice v 0 6 (by decide)).trans rfl
    _ = v &&& 0x17 := by rw [BitVec.and_or_distrib_left, h]; exact BitVec.zero_or

/-- DC_TEST_CTL has no bit <2>. -/
theorem readsBack_dcTestCtl : ReadsBack .dcTestCtl 0x1FFB s v := by
  refine ⟨_, rfl, congrArg (fun x => some (x, _)) ?_⟩
  have hs : slice v 0 13 &&& ~~~4 = slice (v &&& ~~~4) 0 13 := by
    rw [slice, slice, BitVec.extractLsb'_and]
    rfl
  calc place (slice v 0 13 &&& ~~~4) 0 = v &&& ~~~4 &&& maskOf 0 13 := by rw [hs, place_slice _ 0 13 (by decide)]
    _ = v &&& 0x1FFB := BitVec.and_assoc ..

theorem readsBack_palTemp (n : Fin 24) : ReadsBack (.palTemp n) 0xFFFFFFFFFFFFFFFF s v := by
  refine ⟨_, rfl, congrArg (fun x => some (x, _)) ?_⟩
  exact ((vector_get_set s.idu.palTemp n n.isLt n v).trans (if_pos rfl)).trans BitVec.and_allOnes.symm

end

theorem iprAt_palTemp : ∀ n < 24, iprAt (BitVec.ofNat 16 (0x140 + n)) = some (.palTemp (Fin.ofNat 24 n)) := by decide

section

variable {n : Nat} {i : Ipr} {mask x : Quad} {r q : Reg} {s t : State} {m : Model}

/-- HW_MTPR, and then HW_MFPR. -/
theorem exec_writeRead (hw : writeIpr s (s.readReg r) i = .next t)
    (hr : readIpr t.advance i = some (x, { t.advance with model := m })) (hi : iprAt (BitVec.ofNat 16 n) = some i)
    (hpal : s.palOpcodeAllowed = true) :
    exec (.hw_mtpr r r (BitVec.ofNat 16 n)) s = .next t.advance ∧ (t.advance.palOpcodeAllowed = true → ∃ k,
      exec (.hw_mfpr q q (BitVec.ofNat 16 n)) t.advance = .next (({ t.advance with model := k }.writeReg q x).advance)) :=
  ⟨exec_hwMtpr hpal hi hw, fun hpal' => exec_hwMfpr hpal' hi hr⟩

theorem ReadsBack.exec (h : ReadsBack i mask s (s.readReg r)) (hi : iprAt (BitVec.ofNat 16 n) = some i)
    (hpal : s.palOpcodeAllowed = true) :
    ∃ t, Machine.exec (.hw_mtpr r r (BitVec.ofNat 16 n)) s = .next t ∧ (t.palOpcodeAllowed = true → ∃ k,
      Machine.exec (.hw_mfpr q q (BitVec.ofNat 16 n)) t =
        .next (({ t with model := k }.writeReg q (s.readReg r &&& mask)).advance)) := by
  obtain ⟨t, hw, hr⟩ := h
  exact ⟨t.advance, exec_writeRead (m := t.model) hw hr hi hpal⟩

end

/-- The registers that read back all that was written, cut to their bits. -/
theorem wholeIprs_readBack :
    ∀ p ∈ ([(0x103, 0x7F0), (0x108, 0x7FFF0), (0x109, 0xF), (0x10A, 0xF), (0x10B, 0xFFFFFFFFFFFFFFFD),
      (0x10E, 0xFFFFFFFFFFFFC000), (0x10F, 0x18), (0x110, 0x1F), (0x20F, 0x17), (0x213, 0x1FFB), (0x216, 0xF)] ++
      (List.range 24).map (fun n => (0x140 + n, 0xFFFFFFFFFFFFFFFF)) : List (Nat × Quad)),
    ∃ i, iprAt (BitVec.ofNat 16 p.1) = some i ∧ ∀ s v, (p.1 = 0x20F → v &&& 0x28 = 0) → ReadsBack i p.2 s v := by
  simp only [List.forall_mem_append, List.forall_mem_cons, List.forall_mem_map, List.mem_range]
  refine ⟨⟨⟨_, rfl, fun s v _ => readsBack_itbAsn s v⟩, ⟨_, rfl, fun s v _ => readsBack_sirr s v⟩,
    ⟨_, rfl, fun s v _ => readsBack_astrr s v⟩, ⟨_, rfl, fun s v _ => readsBack_aster s v⟩,
    ⟨_, rfl, fun s v _ => readsBack_excAddr s v⟩, ⟨_, rfl, fun s v _ => readsBack_palBase s v⟩,
    ⟨_, rfl, fun s v _ => readsBack_icm s v⟩, ⟨_, rfl, fun s v _ => readsBack_iplr s v⟩,
    ⟨_, rfl, fun s v h => readsBack_mcsr s v (h trivial)⟩, ⟨_, rfl, fun s v _ => readsBack_dcTestCtl s v⟩,
    ⟨_, rfl, fun s v _ => readsBack_dcMode s v⟩, ?_⟩,
    fun n hn => ⟨_, iprAt_palTemp n hn, fun s v _ => readsBack_palTemp s v _⟩⟩
  exact fun _ h => nomatch h

/-! ### ICSR, MAF_MODE and PMCTR -/

/-- ICSR reads as written, beside the self-test bit <38>. -/
theorem icsr_writeRead (s : State) (v : Quad) (h18 : bit v 18 = false) (h37 : bit v 37 = true) :
    ∃ t x, writeIpr s v .icsr = .next t ∧ readIpr t.advance .icsr = some (x, t.advance) ∧
      x &&& 0xBF7FF20300 = v &&& 0xBF7FF20300 ∧ x &&& ~~~0xFF7FF20300 = 0 := by
  have htest : ∀ b : Bool, place (BitVec.ofBool b) 38 &&& 0xBF7FF20300 = 0#64 ∧
      place (BitVec.ofBool b) 38 &&& ~~~0xFF7FF20300 = 0#64 := by decide
  obtain ⟨hin, hout⟩ := htest Config.icacheBistPassed
  obtain ⟨t, hw, ht⟩ : ∃ t, writeIpr s v .icsr = .next t ∧ t.idu.icsr = v &&& icsrMask := by
    rw [writeIpr, State.writeIcsr, h18, h37]
    exact ⟨_, rfl, rfl⟩
  refine ⟨t, (v &&& icsrMask) ||| place (BitVec.ofBool Config.icacheBistPassed) 38, hw, ?_, and_or_and_of_disjoint hin, ?_⟩
  · rw [← ht]
    rfl
  · rw [BitVec.and_or_distrib_right, hout, BitVec.or_zero, BitVec.and_assoc]
    exact BitVec.and_zero

/-- MAF_MODE<07:06>. -/
theorem mafPending_bits (s : State) : s.mafPending &&& 0x3F = 0#64 ∧ s.mafPending.toNat < 2 ^ 8 ∧
    (s.mafPending.getLsbD 6 = true ↔ s.memsys.maf ≠ []) ∧
    (s.mafPending.getLsbD 7 = true ↔ s.memsys.wb ≠ [] ∨ s.model.cbuWaits ≠ none) := by
  have hbits : ∀ a b : Bool, ((bif a then 0 else 0x40) ||| (bif b then 0 else 0x80) : Quad) &&& 0x3F = 0#64 ∧
      ((bif a then 0 else 0x40) ||| (bif b then 0 else 0x80) : Quad).toNat < 2 ^ 8 ∧
      ((bif a then 0 else 0x40) ||| (bif b then 0 else 0x80) : Quad).getLsbD 6 = !a ∧
      ((bif a then 0 else 0x40) ||| (bif b then 0 else 0x80) : Quad).getLsbD 7 = !b := by decide
  obtain ⟨hlow, hlt, h6, h7⟩ := hbits s.memsys.maf.isEmpty (s.memsys.wb.isEmpty && s.model.cbuWaits.isNone)
  refine ⟨hlow, hlt, ?_, ?_⟩
  · rw [State.mafPending, h6]
    simp
  · rw [State.mafPending, h7]
    simp [Option.isSome_iff_ne_none]

/-- MAF_MODE reads as written, beside the bits <07:06> that say what is outstanding. -/
theorem mafMode_writeRead (s : State) (v : Quad) :
    ∃ t x, writeIpr s v .mafMode = .next t ∧ readIpr t.advance .mafMode = some (x, t.advance) ∧
      x &&& 0x3F = v &&& 0x3F ∧ x.toNat < 256 ∧ (x.getLsbD 6 = true ↔ t.memsys.maf ≠ []) ∧
      (x.getLsbD 7 = true ↔ t.memsys.wb ≠ [] ∨ t.model.cbuWaits ≠ none) := by
  obtain ⟨hlow, hlt, h6, h7⟩ := mafPending_bits s
  have hm6 : (0x3F : Quad).getLsbD 6 = false := by decide
  have hm7 : (0x3F : Quad).getLsbD 7 = false := by decide
  refine ⟨s.writeMafMode v, (v &&& 0x3F) ||| s.mafPending, rfl, ?_, and_or_and_of_disjoint hlow, ?_, ?_, ?_⟩
  · have hfield : place (slice v 0 6) 0 = v &&& 0x3F := place_slice v 0 6 (by decide)
    rw [← hfield]
    rfl
  · have hv : (v &&& 0x3F).toNat < 2 ^ 8 := by
      rw [BitVec.toNat_and]
      exact Nat.lt_of_le_of_lt Nat.and_le_right (by decide)
    rw [BitVec.toNat_or]
    exact Nat.or_lt_two_pow hv hlt
  · rw [BitVec.getLsbD_or, BitVec.getLsbD_and, hm6, Bool.and_false, Bool.false_or]
    exact h6
  · rw [BitVec.getLsbD_or, BitVec.getLsbD_and, hm7, Bool.and_false, Bool.false_or]
    exact h7

/-- While nothing counts PMCTR reads as it is. -/
theorem State.pmctrRead_of_stopped {t : State} (hon : t.countersOn = false) (hc : t.model.counted = 0) :
    t.pmctrRead = t.idu.pmctr := by
  have hfree (n : Nat) : t.counterFree n = false := by
    rw [State.counterFree, State.counting, hon, hc, Bool.false_and, Bool.false_and, Bool.false_or]
    exact BitVec.getLsbD_zero
  rw [State.pmctrRead, State.pmctrKnown, hfree, hfree, hfree]
  show (_ &&& ~~~(BitVec.allOnes 64)) ||| (t.idu.pmctr &&& BitVec.allOnes 64) = t.idu.pmctr
  rw [BitVec.not_allOnes, BitVec.and_zero, BitVec.and_allOnes, BitVec.zero_or]

theorem readIpr_pmctr_of_stopped {t : State} (hon : t.countersOn = false) (hc : t.model.counted = 0) :
    readIpr t .pmctr = some (t.idu.pmctr, { t with model := { t.drawn.model with counted := 0 } }) := by
  rw [readIpr, State.pmctrRead_of_stopped hon hc]

theorem pmctr_writeRead (s : State) (v : Quad) (h8 : s.icsrBit 8 = false) (h9 : s.icsrBit 9 = false) :
    ∃ t k, writeIpr s v .pmctr = .next t ∧ readIpr t.advance .pmctr = some (v, { t.advance with model := k }) := by
  have hon : (s.icsrBit 8 || s.icsrBit 9) = false := by
    rw [h8, h9]
    rfl
  exact ⟨_, _, rfl, readIpr_pmctr_of_stopped hon rfl⟩

/-! ### The translation buffers -/

theorem clearLow_eq_iff {n : Nat} (x y : BitVec n) (k : Nat) :
    clearLow x k = clearLow y k ↔ x.toNat / 2 ^ k = y.toNat / 2 ^ k := by
  have hclear (z : BitVec n) : (clearLow z k).toNat = z.toNat / 2 ^ k * 2 ^ k := by
    have hz : z.toNat / 2 ^ k * 2 ^ k < 2 ^ n := Nat.lt_of_le_of_lt (Nat.div_mul_le_self _ _) z.isLt
    rw [clearLow, BitVec.toNat_shiftLeft, BitVec.toNat_ushiftRight, Nat.shiftRight_eq_div_pow, Nat.shiftLeft_eq,
      Nat.mod_eq_of_lt hz]
  rw [BitVec.toNat_eq, hclear, hclear]
  exact Nat.mul_left_inj (Nat.two_pow_pos k).ne'

/-- The comparison of two page numbers under a granularity hint, in numbers. -/
theorem samePage_iff (gh : BitVec 2) (tag : BitVec 30) (va : Quad) :
    samePage gh tag (vpnOf va) = true ↔ tag.toNat / 8 ^ gh.toNat = va.toNat / 2 ^ 13 % 2 ^ 30 / 8 ^ gh.toNat := by
  have h8 : 8 ^ gh.toNat = 2 ^ (3 * gh.toNat) := (Nat.pow_mul 2 3 gh.toNat).symm
  rw [samePage, beq_iff_eq, clearLow_eq_iff, h8, vpnOf, slice, toNat_extractLsb']

theorem ItbEntry.hits_iff (s : State) (va : Quad) (e : ItbEntry) : e.hits s.idu.itbAsn (vpnOf va) = true ↔ s.itbMaps va e := by
  rw [ItbEntry.hits, State.itbMaps, entryMaps, Bool.and_eq_true, Bool.and_eq_true, samePage_iff, Bool.or_eq_true, beq_iff_eq,
    and_assoc]

theorem DtbEntry.hits_iff (s : State) (va : Quad) (e : DtbEntry) : e.hits s.mtu.dtbAsn (vpnOf va) = true ↔ s.dtbMaps va e := by
  rw [DtbEntry.hits, State.dtbMaps, entryMaps, Bool.and_eq_true, Bool.and_eq_true, samePage_iff, Bool.or_eq_true, beq_iff_eq,
    and_assoc]

/-- An entry that is left valid has not been invalidated, and was there before. -/
theorem Idu.mem_invalidateItb {i : Idu} {p : ItbEntry → Bool} {e : ItbEntry} (he : e ∈ (i.invalidateItb p).itb)
    (hv : e.valid = true) : e ∈ i.itb ∧ p e = false := by
  obtain ⟨e', he', rfl⟩ := List.mem_map.mp he
  cases hp : p e' with
  | true =>
    rw [hp] at hv
    cases hv
  | false => exact ⟨he', hp⟩

theorem Idu.mem_invalidateItb_of_mem {i : Idu} {p : ItbEntry → Bool} {e : ItbEntry} (he : e ∈ i.itb) (hp : p e = false) :
    e ∈ (i.invalidateItb p).itb := List.mem_map.mpr ⟨e, he, by rw [hp, cond_false]⟩

theorem Mtu.mem_invalidateDtb {m : Mtu} {p : DtbEntry → Bool} {e : DtbEntry} (he : e ∈ (m.invalidateDtb p).dtb)
    (hv : e.valid = true) : e ∈ m.dtb ∧ p e = false := by
  obtain ⟨e', he', rfl⟩ := List.mem_map.mp he
  cases hp : p e' with
  | true =>
    rw [hp] at hv
    cases hv
  | false => exact ⟨he', hp⟩

theorem Mtu.mem_invalidateDtb_of_mem {m : Mtu} {p : DtbEntry → Bool} {e : DtbEntry} (he : e ∈ m.dtb) (hp : p e = false) :
    e ∈ (m.invalidateDtb p).dtb := List.mem_map.mpr ⟨e, he, by rw [hp, cond_false]⟩

theorem itb_invalidateIa (i : Idu) : ∀ e ∈ (i.invalidateItb fun _ => true).itb, e.valid = false :=
  fun _ he => Bool.eq_false_iff.mpr fun hv => nomatch (Idu.mem_invalidateItb he hv).2

theorem itb_invalidateIap (i : Idu) :
    (∀ e ∈ (i.invalidateItb fun e => !e.pte.asm).itb, e.valid = true → e.pte.asm = true) ∧
      ∀ e ∈ i.itb, e.pte.asm = true → e ∈ (i.invalidateItb fun e => !e.pte.asm).itb :=
  ⟨fun _ he hv => Bool.not_inj (y := true) (Idu.mem_invalidateItb he hv).2,
    fun _ he ha => Idu.mem_invalidateItb_of_mem he (congrArg (!·) ha)⟩

theorem dtb_invalidateIa (m : Mtu) : ∀ e ∈ (m.invalidateDtb fun _ => true).dtb, e.valid = false :=
  fun _ he => Bool.eq_false_iff.mpr fun hv => nomatch (Mtu.mem_invalidateDtb he hv).2

theorem dtb_invalidateIap (m : Mtu) :
    (∀ e ∈ (m.invalidateDtb fun e => !e.pte.asm).dtb, e.valid = true → e.pte.asm = true) ∧
      ∀ e ∈ m.dtb, e.pte.asm = true → e ∈ (m.invalidateDtb fun e => !e.pte.asm).dtb :=
  ⟨fun _ he hv => Bool.not_inj (y := true) (Mtu.mem_invalidateDtb he hv).2,
    fun _ he ha => Mtu.mem_invalidateDtb_of_mem he (congrArg (!·) ha)⟩

/-- After the entries that map an address are invalidated none maps it, and the others are there. -/
theorem itb_invalidateIs (s : State) (v : Quad) :
    (∀ e ∈ (s.idu.invalidateItb (ItbEntry.hits s.idu.itbAsn (vpnOf v))).itb, ¬s.itbMaps v e) ∧
      ∀ e ∈ s.idu.itb, ¬s.itbMaps v e → e ∈ (s.idu.invalidateItb (ItbEntry.hits s.idu.itbAsn (vpnOf v))).itb := by
  refine ⟨fun e he hm => ?_, fun e he hm =>
    Idu.mem_invalidateItb_of_mem he (Bool.eq_false_iff.mpr fun h => hm ((e.hits_iff s v).mp h))⟩
  obtain ⟨-, hp⟩ := Idu.mem_invalidateItb he hm.1
  exact Bool.false_ne_true (hp.symm.trans ((e.hits_iff s v).mpr hm))

theorem dtb_invalidateIs (s : State) (v : Quad) :
    (∀ e ∈ (s.mtu.invalidateDtb (DtbEntry.hits s.mtu.dtbAsn (vpnOf v))).dtb, ¬s.dtbMaps v e) ∧
      ∀ e ∈ s.mtu.dtb, ¬s.dtbMaps v e → e ∈ (s.mtu.invalidateDtb (DtbEntry.hits s.mtu.dtbAsn (vpnOf v))).dtb := by
  refine ⟨fun e he hm => ?_, fun e he hm =>
    Mtu.mem_invalidateDtb_of_mem he (Bool.eq_false_iff.mpr fun h => hm ((e.hits_iff s v).mp h))⟩
  obtain ⟨-, hp⟩ := Mtu.mem_invalidateDtb he hm.1
  exact Bool.false_ne_true (hp.symm.trans ((e.hits_iff s v).mpr hm))

theorem Caches.flushDcache_valid (m : Caches) : ∀ l ∈ m.flushDcache.dcache, l.valid = 0 := by
  intro l hl
  obtain ⟨_, -, rfl⟩ := List.mem_map.mp hl
  rfl

/-! ### Fields that are cut out otherwise -/

theorem ccCount_eq (v : Quad) :
    (slice v 4 28 : BitVec 28) ++ (0 : BitVec 4) = BitVec.ofNat 32 (v.toNat / 2 ^ 4 % 2 ^ 28 * 2 ^ 4) := by
  apply BitVec.eq_of_toNat_eq
  have hlt : v.toNat / 2 ^ 4 % 2 ^ 28 * 2 ^ 4 < 2 ^ 32 := by omega
  rw [BitVec.toNat_append, slice, toNat_extractLsb', BitVec.toNat_ofNat, Nat.mod_eq_of_lt hlt, Nat.shiftLeft_eq]
  exact Nat.or_zero _

theorem dcPerrWritten_eq (old : BitVec 6) (v : Quad) : dcPerrWritten old v =
    (if v.getLsbD 1 = true then old &&& 1 else old) &&& (if v.getLsbD 0 = true then 0x3E else 0x3F) := by
  unfold dcPerrWritten bit
  cases v.getLsbD 1 <;> cases v.getLsbD 0 <;> rfl

/-- The pointer's further steps come only after an MTU instruction that may have been replayed. -/
theorem extraSteps_eq_zero {s : State} (h : 7 ≤ s.model.sinceMtu) : s.extraSteps = 0 := by
  have hlt : Nat.blt s.model.sinceMtu 7 = false := by
    rw [← Bool.not_eq_true, Nat.blt_eq]
    omega
  rw [State.extraSteps, hlt]
  rfl

/-! ### The obligation -/

/-- Settles O39: each register by its write and its read, `exec_hwMtpr` and `exec_hwMfpr` taking them to the instructions. -/
theorem iprsReadBackWhatWasWritten : Obligations.IprsReadBackWhatWasWritten := by
  refine ⟨?_, ?_, ?_⟩
  · intro p hp r q s hpal hok
    obtain ⟨i, hi, hback⟩ := wholeIprs_readBack p hp
    exact (hback s (s.readReg r) hok).exec hi hpal
  · intro r q s hpal v readsBack
    have hreads {n : Nat} {i : Ipr} {t : State} {x mask : Quad} {m : Model} {p : State → Quad → Prop}
        (hi : iprAt (BitVec.ofNat 16 n) = some i) (hw : writeIpr s v i = .next t)
        (hr : readIpr t.advance i = some (x, { t.advance with model := m })) (hx : x &&& mask = v &&& mask)
        (hp : p t.advance x) : readsBack n mask p := by
      obtain ⟨ht, hread⟩ := exec_writeRead hw hr hi hpal
      exact ⟨_, ht, fun hpal' => (hread hpal').elim fun k hk => ⟨x, k, hx, hp, hk⟩⟩
    refine ⟨fun h18 h37 => ?_, ?_, fun h8 h9 => ?_⟩
    · obtain ⟨t, x, hw, hr, hx, hout⟩ := icsr_writeRead s v h18 h37
      exact hreads (m := t.model) rfl hw hr hx hout
    · obtain ⟨t, x, hw, hr, hx, hbits⟩ := mafMode_writeRead s v
      exact hreads (m := t.model) rfl hw hr hx hbits
    · obtain ⟨t, m, hw, hr⟩ := pmctr_writeRead s v h8 h9
      exact hreads rfl hw hr rfl trivial
  · intro r s hpal v writes sets idu mtu field
    have hfield (lo n : Nat) : field lo n = slice v lo n := (slice_eq_ofNat v lo n).symm
    have hwrites {n : Nat} {i : Ipr} {t : State} {p : State → Prop} (hi : iprAt (BitVec.ofNat 16 n) = some i)
        (hw : writeIpr s v i = .next t) (hp : p t.advance) : writes n p := ⟨_, exec_hwMtpr hpal hi hw, hp⟩
    have hsets {n : Nat} {i : Ipr} {t : State} (hi : iprAt (BitVec.ofNat 16 n) = some i)
        (hw : writeIpr s v i = .next t) : sets n t := ⟨t.model, exec_hwMtpr hpal hi hw⟩
    simp only [hfield, ← dcPerrWritten_eq, ← ccCount_eq]
    refine ⟨hwrites rfl rfl ⟨rfl, s.extraSteps, rfl, extraSteps_eq_zero⟩, hwrites rfl rfl ⟨itb_invalidateIa s.idu, rfl⟩,
      hwrites rfl rfl (itb_invalidateIap s.idu), hwrites rfl rfl (itb_invalidateIs s v), hwrites rfl rfl ⟨rfl, rfl⟩,
      hwrites rfl rfl (dtb_invalidateIap s.mtu), hwrites rfl rfl ⟨dtb_invalidateIa s.mtu, rfl⟩,
      hwrites rfl rfl (dtb_invalidateIs s v), hwrites rfl rfl ⟨rfl, s.memsys.caches.flushDcache_valid⟩,
      hsets rfl rfl, hsets rfl rfl, hsets rfl rfl, hsets rfl rfl, hsets rfl rfl, hsets rfl rfl, hsets rfl rfl, hsets rfl rfl,
      hsets rfl rfl, hsets rfl rfl, hsets rfl rfl, hsets rfl rfl, hsets rfl rfl, hsets rfl rfl⟩

end Sys2Proof.Machine

/-! # Check codes -/

namespace Sys2Proof.Machine

/-! ### Parity -/

theorem eparity_xor {n : Nat} (x y : BitVec n) : eparity (x ^^^ y) = (eparity x ^^ eparity y) := by
  have fold_xor : ∀ (l : List Nat) (a b : Bool), l.foldl (fun p k => p ^^ (x ^^^ y).getLsbD k) (a ^^ b) =
      (l.foldl (fun p k => p ^^ x.getLsbD k) a ^^ l.foldl (fun p k => p ^^ y.getLsbD k) b) := by
    intro l
    induction l with
    | nil => intro a b; rfl
    | cons k l ih =>
      intro a b
      have step : (a ^^ b ^^ (x ^^^ y).getLsbD k) = (a ^^ x.getLsbD k ^^ (b ^^ y.getLsbD k)) := by
        rw [BitVec.getLsbD_xor, Bool.xor_assoc, Bool.xor_assoc, Bool.xor_left_comm b]
      rw [List.foldl_cons, step]
      exact ih _ _
  exact fold_xor (List.range n) false false

theorem eparity_zero {n : Nat} : eparity 0#n = false := by simpa using eparity_xor 0#n 0#n

/-- The parity of a word counts its bits. -/
theorem eparity_eq_card {n : Nat} (v : BitVec n) :
    eparity v = decide (((Finset.range n).filter fun k => v.getLsbD k = true).card % 2 = 1) := by
  have fold_eq (m : Nat) : (List.range m).foldl (fun p k => p ^^ v.getLsbD k) false =
      decide (((Finset.range m).filter fun k => v.getLsbD k = true).card % 2 = 1) := by
    induction m with
    | zero => rfl
    | succ m ih =>
      rw [List.range_succ, List.foldl_append, ih, Finset.range_add_one, Finset.filter_insert]
      cases hm : v.getLsbD m with
      | false => simp [hm]
      | true =>
        rw [if_pos rfl, Finset.card_insert_of_notMem (by simp)]
        simp only [List.foldl_cons, List.foldl_nil, hm, Bool.xor_true]
        rw [← decide_not, decide_eq_decide]
        omega
  exact fold_eq n

/-- What the check finds of wrong bits, whatever was sent. -/
def FillFinds (ecc : Bool) (flip : BitVec 128) (check : BitVec 16) (found : FillCheck) : Prop :=
  ∀ sent, checkFill ecc (sent ^^^ flip) (checkBits ecc sent ^^^ check) = found

/-! ### ECC -/

/-- What wrong bits of a quadword change in its check byte. -/
def eccChange (flip : Quad) : BitVec 8 := eccByte flip ^^^ eccByte 0

theorem eccChange_zero : eccChange 0 = 0 := BitVec.xor_self

theorem eccBit_xor (d f : Quad) (n : Nat) : eccBit (d ^^^ f) n = (eccBit d n ^^ (eccBit f n ^^ eccBit 0 n)) := by
  have mask_xor : (d ^^^ f) &&& eccMask n = (d &&& eccMask n) ^^^ (f &&& eccMask n) := by
    ext k
    simp only [BitVec.getElem_and, BitVec.getElem_xor]
    exact Bool.and_xor_distrib_right ..
  have mask_zero : eparity (0 &&& eccMask n) = false := (congrArg eparity BitVec.zero_and).trans eparity_zero
  unfold eccBit
  rw [mask_xor, eparity_xor, mask_zero]
  cases eparity (d &&& eccMask n) <;> cases eparity (f &&& eccMask n) <;> cases (n == 2 || n == 3) <;> rfl

theorem eccByte_getLsbD (d : Quad) {k : Nat} (hk : k < 8) : (eccByte d).getLsbD k = eccBit d k := by
  rw [eccByte]
  generalize eccBit d = b
  interval_cases k <;> (repeat rw [BitVec.getLsbD_append]) <;> simp

theorem eccByte_xor (d f : Quad) : eccByte (d ^^^ f) = eccByte d ^^^ eccChange f := by
  apply BitVec.eq_of_getLsbD_eq
  intro k hk
  simp only [eccChange, BitVec.getLsbD_xor, eccByte_getLsbD _ hk, eccBit_xor d f]

theorem eccChange_xor (f g : Quad) : eccChange (f ^^^ g) = eccChange f ^^^ eccChange g := by
  rw [eccChange, eccByte_xor, eccChange.eq_1 f, BitVec.xor_assoc, BitVec.xor_comm (eccChange g), ← BitVec.xor_assoc]

/-- What is found of the syndromes of the two quadwords of an octaword. -/
def eccVerdict (high low : BitVec 8) : FillCheck :=
  bif low == 0 && high == 0 then .good
  else bif (low == 0 || singleBit low) && (high == 0 || singleBit high) then .correctable (high ++ low)
  else .uncorrectable (high ++ low)

/-- The syndromes are those of the wrong bits, whatever was sent. -/
theorem checkFill_ecc (sent flip : BitVec 128) (check : BitVec 16) :
    checkFill true (sent ^^^ flip) (checkBits true sent ^^^ check) =
      eccVerdict (check.extractLsb' 8 8 ^^^ eccChange (flip.extractLsb' 64 64))
        (check.extractLsb' 0 8 ^^^ eccChange (flip.extractLsb' 0 64)) := by
  have cancel (x c f : BitVec 8) : x ^^^ c ^^^ (x ^^^ f) = c ^^^ f := by
    rw [show x ^^^ c ^^^ (x ^^^ f) = x ^^^ x ^^^ (c ^^^ f) by ac_rfl, BitVec.xor_self, BitVec.zero_xor]
  have high : syndrome ((sent ^^^ flip).extractLsb' 64 64) ((checkBits true sent ^^^ check).extractLsb' 8 8) =
      check.extractLsb' 8 8 ^^^ eccChange (flip.extractLsb' 64 64) := by
    rw [syndrome, BitVec.extractLsb'_xor, BitVec.extractLsb'_xor, eccByte_xor, checkBits, cond_true,
      BitVec.extractLsb'_append_eq_left, cancel]
  have low : syndrome ((sent ^^^ flip).extractLsb' 0 64) ((checkBits true sent ^^^ check).extractLsb' 0 8) =
      check.extractLsb' 0 8 ^^^ eccChange (flip.extractLsb' 0 64) := by
    rw [syndrome, BitVec.extractLsb'_xor, BitVec.extractLsb'_xor, eccByte_xor, checkBits, cond_true,
      BitVec.extractLsb'_append_eq_right, cancel]
  rw [checkFill, cond_true, high, low]
  rfl

/-- Wrong bits of quadword h of an octaword. -/
def inQuad (h : Nat) (flip : Quad) : BitVec 128 := flip.setWidth 128 <<< (64 * h)

theorem inQuad_or (h : Nat) (x y : Quad) : inQuad h (x ||| y) = inQuad h x ||| inQuad h y := by
  rw [inQuad, BitVec.setWidth_or, BitVec.shiftLeft_or_distrib]
  rfl

theorem getLsbD_oneBit {n : Nat} (k i : Nat) : (1 <<< k : BitVec n).getLsbD i = (decide (i < n) && decide (k = i)) := by
  rw [BitVec.natCast_eq_ofNat, BitVec.getLsbD_ofNat, Nat.one_shiftLeft, Nat.testBit_two_pow]

theorem inQuad_bit (h : Nat) {j : Nat} (hj : j < 64) : inQuad h (1 <<< j) = 1 <<< (64 * h + j) := by
  apply BitVec.eq_of_getLsbD_eq
  intro i hi
  simp only [inQuad, BitVec.getLsbD_shiftLeft, BitVec.getLsbD_setWidth, getLsbD_oneBit]
  rw [Bool.eq_iff_iff]
  simp only [hi, Bool.and_eq_true, decide_eq_true_eq, Bool.not_eq_true', decide_eq_false_iff_not, true_and]
  omega

theorem extractLsb'_inQuad (h i : Nat) (flip : Quad) (hh : h < 2) (hi : i < 2) :
    (inQuad h flip).extractLsb' (64 * i) 64 = if h = i then flip else 0 := by
  apply BitVec.eq_of_getLsbD_eq
  intro k hk
  rw [BitVec.getLsbD_extractLsb', inQuad, BitVec.getLsbD_shiftLeft, BitVec.getLsbD_setWidth]
  split
  case isTrue eq =>
    subst eq
    have lt : 64 * h + k < 128 := by omega
    rw [Nat.add_sub_cancel_left]
    simp [hk, lt, show k < 128 by omega]
  case isFalse ne =>
    rcases Nat.lt_or_ge (64 * i + k) (64 * h) with lt | ge
    · simp [lt]
    · simp [BitVec.getLsbD_of_ge flip _ (show 64 ≤ 64 * i + k - 64 * h by omega)]

/-- The verdict on a syndrome z of quadword h, when the other quadword is right. -/
def quadVerdict (h : Nat) (z : BitVec 8) : FillCheck :=
  bif z == 0 then .good
  else bif singleBit z then .correctable (BitVec.ofNat 16 (z.toNat * 256 ^ h))
  else .uncorrectable (BitVec.ofNat 16 (z.toNat * 256 ^ h))

theorem eccVerdict_low (z : BitVec 8) : eccVerdict 0 z = quadVerdict 0 z := by
  have place : ∀ z : BitVec 8, 0#8 ++ z = BitVec.ofNat 16 (z.toNat * 256 ^ 0) := by decide +kernel
  rw [eccVerdict, quadVerdict, ← place]
  cases z == 0 <;> cases singleBit z <;> rfl

theorem eccVerdict_high (z : BitVec 8) : eccVerdict z 0 = quadVerdict 1 z := by
  have place : ∀ z : BitVec 8, z ++ 0#8 = BitVec.ofNat 16 (z.toNat * 256 ^ 1) := by decide +kernel
  rw [eccVerdict, quadVerdict, ← place]
  cases z == 0 <;> cases singleBit z <;> rfl

theorem fillFinds_inQuad {h : Nat} (hh : h < 2) (flip : Quad) :
    FillFinds true (inQuad h flip) 0 (quadVerdict h (eccChange flip)) := by
  intro sent
  have low := extractLsb'_inQuad h 0 flip hh (by decide)
  have high := extractLsb'_inQuad h 1 flip hh (by decide)
  have check_zero (i : Nat) (z : BitVec 8) : (0 : BitVec 16).extractLsb' i 8 ^^^ z = z := by
    rw [show (0 : BitVec 16).extractLsb' i 8 = 0#8 from BitVec.extractLsb'_zero .., BitVec.zero_xor]
  rw [Nat.mul_zero] at low
  rw [Nat.mul_one] at high
  rw [checkFill_ecc, low, high, check_zero, check_zero]
  interval_cases h
  · rw [if_neg (by decide), if_pos rfl, eccChange_zero]
    exact eccVerdict_low _
  · rw [if_pos rfl, if_neg (by decide), eccChange_zero]
    exact eccVerdict_high _

/-- One wrong check bit. -/
theorem fillFinds_checkBit {k : Nat} (hk : k < 16) : FillFinds true 0 (1 <<< k) (.correctable (1 <<< k)) := by
  intro sent
  have table : ∀ k : Fin 16,
      eccVerdict ((1 <<< k.val : BitVec 16).extractLsb' 8 8) ((1 <<< k.val : BitVec 16).extractLsb' 0 8) =
        .correctable (1 <<< k.val) := by decide +kernel
  have unchanged (i : Nat) (z : BitVec 8) : z ^^^ eccChange ((0 : BitVec 128).extractLsb' i 64) = z := by
    rw [show (0 : BitVec 128).extractLsb' i 64 = 0 from BitVec.extractLsb'_zero .., eccChange_zero]
    exact BitVec.xor_zero
  rw [checkFill_ecc, unchanged, unchanged]
  exact table ⟨k, hk⟩

/-- The changes of single data bits are those of Table 5-35. -/
theorem eccChange_dataBit {j : Nat} (hj : j < 64) : eccChange (1 <<< j) = BitVec.ofNat 8 (fillSyndromes.getD j 0) := by
  have table : ∀ j : Fin 64, eccChange (1 <<< j.val) = BitVec.ofNat 8 (fillSyndromes.getD j.val 0) := by decide +kernel
  exact table ⟨j, hj⟩

theorem fillSyndromes_lt (j : Nat) : fillSyndromes.getD j 0 < 256 := by
  have all_lt : ∀ x ∈ fillSyndromes, x < 256 := by decide
  rcases Nat.lt_or_ge j fillSyndromes.length with h | h
  · rw [List.getD_eq_getElem _ _ h]
    exact all_lt _ (List.getElem_mem h)
  · rw [List.getD_eq_default _ _ h]
    decide

theorem fillSyndromes_inj {j k : Nat} (hj : j < 64) (hk : k < 64) (h : fillSyndromes.getD j 0 = fillSyndromes.getD k 0) :
    j = k := by
  have nodup : fillSyndromes.Nodup := by decide
  rw [List.getD_eq_getElem _ _ hj, List.getD_eq_getElem _ _ hk] at h
  exact (nodup.getElem_inj_iff).mp h

theorem toNat_fillSyndrome (j : Nat) : (BitVec.ofNat 8 (fillSyndromes.getD j 0)).toNat = fillSyndromes.getD j 0 :=
  (BitVec.toNat_ofNat ..).trans (Nat.mod_eq_of_lt (fillSyndromes_lt j))

theorem singleBit_fillSyndrome {j : Nat} (hj : j < 64) : singleBit (BitVec.ofNat 8 (fillSyndromes.getD j 0)) = true := by
  have table : ∀ j : Fin 64, singleBit (BitVec.ofNat 8 (fillSyndromes.getD j.val 0)) = true := by decide +kernel
  exact table ⟨j, hj⟩

theorem eparity_of_singleBit {syn : BitVec 8} (h : singleBit syn = true) : eparity syn = true := by
  have odd : ∀ x ∈ dataSyndromes ++ checkSyndromes, eparity x = true := by decide +kernel
  rw [singleBit, Bool.or_eq_true, List.elem_iff, List.elem_iff] at h
  exact odd syn (List.mem_append.mpr h)

/-- One wrong data bit. -/
theorem fillFinds_dataBit {k : Nat} (hk : k < 128) : FillFinds true (1 <<< k) 0
    (.correctable (BitVec.ofNat 16 (fillSyndromes.getD (k % 64) 0 * 256 ^ (k / 64)))) := by
  have hj : k % 64 < 64 := Nat.mod_lt _ (by decide)
  have nonzero : (BitVec.ofNat 8 (fillSyndromes.getD (k % 64) 0) == 0) = false := by
    refine beq_eq_false_iff_ne.mpr fun zero => ?_
    have single := singleBit_fillSyndrome hj
    rw [zero] at single
    exact absurd single (by decide)
  have place := inQuad_bit (k / 64) hj
  rw [Nat.div_add_mod] at place
  have found := fillFinds_inQuad (show k / 64 < 2 by omega) (1 <<< (k % 64))
  rwa [place, eccChange_dataBit hj, quadVerdict, nonzero, singleBit_fillSyndrome hj, toNat_fillSyndrome] at found

/-- The wrong bits of two wrong data bits of a quadword. -/
def twoBits (j k : Nat) : Quad := 1 <<< j ||| 1 <<< k

theorem eccChange_twoBits {j k : Nat} (hj : j < 64) (hk : k < 64) (hjk : j ≠ k) :
    eccChange (twoBits j k) = BitVec.ofNat 8 (fillSyndromes.getD j 0) ^^^ BitVec.ofNat 8 (fillSyndromes.getD k 0) := by
  have or_eq_xor : twoBits j k = 1 <<< j ^^^ 1 <<< k := by
    apply BitVec.eq_of_getLsbD_eq
    intro i hi
    simp only [twoBits, BitVec.getLsbD_or, BitVec.getLsbD_xor, getLsbD_oneBit, hi]
    by_cases h : j = i
    · simp [h, show k ≠ i by omega]
    · simp [h]
  rw [or_eq_xor, eccChange_xor, eccChange_dataBit hj, eccChange_dataBit hk]

/-- Two wrong data bits of one quadword: their parity is even, so that they are taken for no single one. -/
theorem fillFinds_twoBits {j k h : Nat} (hj : j < 64) (hk : k < 64) (hjk : j ≠ k) (hh : h < 2) :
    FillFinds true (1 <<< (64 * h + j) ||| 1 <<< (64 * h + k)) 0
      (.uncorrectable (BitVec.ofNat 16 (Nat.xor (fillSyndromes.getD j 0) (fillSyndromes.getD k 0) * 256 ^ h))) := by
  have nonzero : (BitVec.ofNat 8 (fillSyndromes.getD j 0) ^^^ BitVec.ofNat 8 (fillSyndromes.getD k 0) == 0) = false := by
    refine beq_eq_false_iff_ne.mpr fun zero => hjk (fillSyndromes_inj hj hk ?_)
    rw [← toNat_fillSyndrome j, BitVec.xor_eq_zero_iff.mp zero, toNat_fillSyndrome]
  have notSingle : singleBit (BitVec.ofNat 8 (fillSyndromes.getD j 0) ^^^ BitVec.ofNat 8 (fillSyndromes.getD k 0)) = false := by
    refine Bool.eq_false_iff.mpr fun single => ?_
    have odd := eparity_of_singleBit single
    rw [eparity_xor, eparity_of_singleBit (singleBit_fillSyndrome hj), eparity_of_singleBit (singleBit_fillSyndrome hk)] at odd
    exact absurd odd (by decide)
  have place : inQuad h (twoBits j k) = 1 <<< (64 * h + j) ||| 1 <<< (64 * h + k) := by
    rw [twoBits, inQuad_or, inQuad_bit h hj, inQuad_bit h hk]
  have found := fillFinds_inQuad hh (twoBits j k)
  rwa [place, eccChange_twoBits hj hk hjk, quadVerdict, nonzero, notSingle, BitVec.toNat_xor, toNat_fillSyndrome,
    toNat_fillSyndrome] at found

/-! ### Byte parity -/

/-- The parity of byte k is bit k of the check bits. -/
theorem byteParity_getLsbD (data : BitVec 128) {k : Nat} (hk : k < 16) :
    (byteParity data).getLsbD k = eparity (data.extractLsb' (8 * k) 8) := by
  have bits : ∀ n, (List.range n).foldl (fun v k => v + (eparity (data.extractLsb' (8 * k) 8)).toNat * 2 ^ k) 0 < 2 ^ n ∧
      ∀ k < n, ((List.range n).foldl (fun v k => v + (eparity (data.extractLsb' (8 * k) 8)).toNat * 2 ^ k) 0).testBit k =
        eparity (data.extractLsb' (8 * k) 8) := by
    intro n
    induction n with
    | zero => simp
    | succ n ih =>
      obtain ⟨lt, testBit⟩ := ih
      rw [List.range_succ, List.foldl_append]
      generalize (List.range n).foldl _ 0 = v at lt testBit
      have hle := Bool.toNat_le (eparity (data.extractLsb' (8 * n) 8))
      simp only [List.foldl_cons, List.foldl_nil]
      rw [Nat.add_comm v, Nat.mul_comm]
      refine ⟨by rw [Nat.pow_succ]; nlinarith, fun k hk => ?_⟩
      rw [Nat.testBit_two_pow_mul_add _ lt]
      split
      case isTrue h => exact testBit k h
      case isFalse h =>
        obtain rfl : k = n := by omega
        rw [Nat.sub_self]
        cases eparity (data.extractLsb' (8 * k) 8) <;> rfl
  rw [byteParity, BitVec.getLsbD_ofNat, (bits 16).2 k hk]
  simp [hk]

theorem byteParity_xor (x y : BitVec 128) : byteParity (x ^^^ y) = byteParity x ^^^ byteParity y := by
  apply BitVec.eq_of_getLsbD_eq
  intro k hk
  simp only [BitVec.getLsbD_xor, byteParity_getLsbD _ hk, BitVec.extractLsb'_xor, eparity_xor]

theorem fillFinds_parity (flip : BitVec 128) (hflip : byteParity flip ≠ 0#16) :
    FillFinds false flip 0#16 (.uncorrectable (byteParity flip)) := by
  intro sent
  have wrong : (byteParity sent == byteParity sent ^^^ byteParity flip) = false := by
    refine beq_eq_false_iff_ne.mpr fun same => hflip ?_
    rw [← BitVec.xor_zero (x := byteParity sent), BitVec.xor_assoc, BitVec.zero_xor] at same
    exact ((BitVec.xor_right_inj _).mp same).symm
  rw [checkFill, checkBits, cond_false, cond_false, byteParity_xor, BitVec.xor_zero, wrong, cond_false, ← BitVec.xor_assoc,
    BitVec.xor_self, BitVec.zero_xor]

/-- One wrong data bit. -/
theorem fillFinds_parityBit {k : Nat} (hk : k < 128) : FillFinds false (1 <<< k) 0 (.uncorrectable (1 <<< (k / 8))) := by
  have table : ∀ k : Fin 128, byteParity (1 <<< k.val) = 1 <<< (k.val / 8) ∧ byteParity (1 <<< k.val) ≠ 0 := by decide +kernel
  obtain ⟨parity, nonzero⟩ := table ⟨k, hk⟩
  have found := fillFinds_parity _ nonzero
  rwa [parity] at found

/-- Nothing is found where nothing is wrong. -/
theorem fillFinds_nothing (ecc : Bool) : FillFinds ecc 0#128 0#16 .good := by
  intro sent
  rw [BitVec.xor_zero, BitVec.xor_zero]
  cases ecc with
  | false =>
    rw [checkFill, checkBits, cond_false, cond_false, beq_self_eq_true]
    rfl
  | true =>
    rw [checkFill, checkBits, cond_true, cond_true, BitVec.extractLsb'_append_eq_left, BitVec.extractLsb'_append_eq_right,
      syndrome, syndrome, BitVec.xor_self, BitVec.xor_self]
    rfl

end Sys2Proof.Machine

/-! # Errors are recorded -/

namespace Sys2Proof.Machine

/-! ### What the data of a fill change -/

/-- A state with the registers that loads write, the memory and the model's own fields of another one. -/
def State.withDataOf (t s : State) : State :=
  { t with regs := s.regs, shadow := s.shadow, fregs := s.fregs, mem := s.mem, memsys := s.memsys, model := s.model }

/-- Nothing else differs. -/
def OnlyData (s t : State) : Prop := t.withDataOf s = s

theorem OnlyData.refl (s : State) : OnlyData s s := rfl

theorem OnlyData.trans {s t u : State} (h : OnlyData s t) (k : OnlyData t u) : OnlyData s u :=
  calc u.withDataOf s = (u.withDataOf t).withDataOf s := rfl
    _ = t.withDataOf s := congrArg (State.withDataOf · s) k
    _ = s := h

theorem OnlyData.cond {s t u : State} {b : Bool} (ht : OnlyData s t) (hu : OnlyData s u) : OnlyData s (bif b then t else u) := by
  cases b with
  | true => exact ht
  | false => exact hu

section
variable (s : State)

theorem State.writeSlot_onlyData (v : Quad) (r : RegSlot) : OnlyData s (s.writeSlot v r) := by
  cases r with
  | shadow k => exact rfl
  | int r | fp r => exact .cond (.refl s) rfl

theorem State.deliver_onlyData (p : MafEntry → Bool) (data : MafEntry → Quad) : OnlyData s (s.deliver p data) := by
  have fold : ∀ (l : List MafEntry) (t : State), OnlyData t (l.foldl (fun t e => e.deliver t (data e)) t) := by
    intro l
    induction l with
    | nil => exact .refl
    | cons e l ih => exact fun t => (State.writeSlot_onlyData t _ e.slot).trans (ih _)
  exact (fold _ s).trans rfl

theorem State.discard_onlyData (l : Longs) : OnlyData s (s.discard l) := by
  obtain ⟨m, w, k, hd, -⟩ := State.discard_frame l s
  rw [hd]
  exact rfl

theorem State.memsys_onlyData (m : MemSys) : OnlyData s { s with memsys := m } := rfl

theorem State.fetchable_onlyData (l : Longs) : OnlyData s (s.fetchable l) := rfl

theorem State.cacheReceived_onlyData (system : Bool) (a : Nat) (receive : Nat → Long → Long) :
    OnlyData s (s.cacheReceived system a receive) := (State.discard_onlyData s _).trans (State.memsys_onlyData _ _)

theorem State.fillDelivered_onlyData (system istream : Bool) (a : PAddr) (receive : Nat → Long → Long)
    (load : MafEntry → Quad) : OnlyData s (s.fillDelivered system istream a receive load) := by
  have ht := (s.fetchable_onlyData (s.receivedLongs (clearLow a 4).toNat receive)).cond (b := istream)
    (s.deliver_onlyData (·.readsFrom (clearLow a 4).toNat 16) fun e => e.keepOwn s (load e))
  exact .cond (ht.trans (State.cacheReceived_onlyData _ _ _ _)) ht

end

/-! ### External errors -/

theorem eiSource_eq (system istream : Bool) :
    eiSource system istream = (if system = true then 4 else 0) ||| (if istream = true then 0x40 else 0) := by
  cases system <;> cases istream <;> rfl

theorem eiErrors_eq_false {e : BitVec 8} (h : e &&& 0x3B = 0) : e.getLsbD 3 = false ∧ (e &&& 0x33 != 0) = false := by
  have cases : ∀ e : BitVec 8, e &&& 0x3B = 0 → e.getLsbD 3 = false ∧ (e &&& 0x33 != 0) = false := by decide +kernel
  exact cases e h

theorem tagProbed_eq (c : Cbu) (probe : BitVec 27) : c.tagProbed probe =
    { c with bcTagAddr := bif c.bcOn then probe else c.bcTagAddr, bcTagLocked := c.bcTagLocked || c.bcOn } := by
  rw [Cbu.tagProbed]
  cases c.bcOn with
  | true => rw [Bool.or_true]; rfl
  | false => rw [Bool.or_false]; rfl

/-- The first hard error is loaded and locked. -/
theorem hardError_first {c : Cbu} (h : c.eiStat &&& 0x33 = 0) (bits : BitVec 8) (a : PAddr) (syn : BitVec 16) (probe : BitVec 27) :
    (c.hardError bits a syn probe).eiStat = (c.eiStat &&& 8) ||| bits ∧ (c.hardError bits a syn probe).eiLocked = true ∧
    (c.hardError bits a syn probe).eiAddr = a ∧ (c.hardError bits a syn probe).fillSyn = syn ∧
    (c.hardError bits a syn probe).bcTagLocked = (c.bcTagLocked || c.bcOn) := by
  have first : c.uncorrectable = false := bne_eq_false_iff_eq.mpr h
  rw [Cbu.hardError, first, cond_false, tagProbed_eq]
  exact ⟨rfl, rfl, rfl, rfl, rfl⟩

/-! ### Fills -/

section
variable {s : State} {system istream : Bool} {a : PAddr} {flip : BitVec 128} {check : BitVec 16}

/-- Octawords that are not as sent, which this processor takes and checks. -/
structure FillChecked (s : State) (system istream : Bool) (a : PAddr) : Prop where
  reported : s.cbu.bcControl.getLsbD 15 = false
  quiet : s.model.cbuQuiet = false
  notCbu : inCbu a = false
  taken : system = true ∨ s.cbu.bcOn = true ∧ a.toNat < 2 ^ 39

/-- The result of a fill, by what its check finds. -/
def State.fillResult (s : State) (system istream : Bool) (a : PAddr) (flip : BitVec 128) (check : BitVec 16) :
    FillCheck → State
  | .good => (s.fillInverted system istream a flip).keepFlip false system a flip check
  | .correctable syn => (s.correctableError system istream a syn).keepFlip true system a flip check
  | .uncorrectable syn =>
    (((s.fillFailed system istream a syn).fillInverted system istream a flip).keepFlip false system a flip check).oweCheck istream

theorem fill_next (h : FillChecked s system istream a) {found : FillCheck} (hbad : found ≠ .good)
    (hfound : FillFinds (s.cbu.bcControl.getLsbD 6) flip check found) :
    handleEvent (.fill system istream false a flip check) s = .next (s.fillResult system istream a flip check found) := by
  obtain ⟨reported, quiet, notCbu, taken⟩ := h
  have cacheable : (!system && a.getLsbD 39) = false := by
    rcases taken with rfl | ⟨-, lt⟩
    · rfl
    · rw [BitVec.getLsbD, Nat.testBit_lt_two_pow lt, Bool.and_false]
  have on : (!system && !s.cbu.bcOn) = false := by
    rcases taken with rfl | ⟨on, -⟩
    · rfl
    · rw [on, Bool.not_true, Bool.and_false]
  have wrong : (flip == 0 && check == 0) = false := by
    rw [← Bool.not_eq_true, Bool.and_eq_true, beq_iff_eq, beq_iff_eq]
    rintro ⟨rfl, rfl⟩
    exact hbad ((hfound 0).symm.trans (fillFinds_nothing _ 0))
  rw [handleEvent, notCbu, cacheable, quiet, State.fillArrives, on, wrong, State.eiErrorsOff, reported,
    hfound (s.belowOctaword (clearLow a 4).toNat), Bool.and_false]
  cases found <;> rfl

theorem corrected_fill (h : FillChecked s system istream a) {syn : BitVec 16}
    (hfound : FillFinds (s.cbu.bcControl.getLsbD 6) flip check (.correctable syn)) :
    ∃ t, handleEvent (.fill system istream false a flip check) s = .next t ∧ t.idu.crdRequest = true ∧
      { t with idu := { t.idu with crdRequest := s.idu.crdRequest }, cbu := s.cbu, memsys := s.memsys } = s ∧
      (s.cbu.eiStat &&& 0x3B = 0 → t.cbu.eiStat = eiSource system istream ||| 8 ∧ t.cbu.eiAddr = a ∧ t.cbu.fillSyn = syn) := by
  refine ⟨_, fill_next h FillCheck.noConfusion hfound, rfl, rfl, fun none => ?_⟩
  obtain ⟨correctable, uncorrectable⟩ := eiErrors_eq_false none
  have first : (s.cbu.correctable || s.cbu.uncorrectable) = false := by
    rw [Cbu.correctable, Cbu.uncorrectable, correctable, uncorrectable, Bool.or_false]
  rw [State.fillResult, State.keepFlip_cbu, State.correctableError, first, cond_false]
  exact ⟨BitVec.or_comm .., rfl, rfl⟩

theorem failed_fill (h : FillChecked s system istream a) {syn : BitVec 16}
    (hfound : FillFinds (s.cbu.bcControl.getLsbD 6) flip check (.uncorrectable syn)) (none : s.cbu.eiStat &&& 0x33 = 0) :
    ∃ t, handleEvent (.fill system istream false a flip check) s = .next t ∧
      t.cbu.eiStat = (s.cbu.eiStat &&& 8) ||| eiSource system istream ||| 0x10 ∧ t.cbu.eiLocked = true ∧ t.cbu.eiAddr = a ∧
      t.cbu.fillSyn = syn ∧ t.cbu.bcTagLocked = (s.cbu.bcTagLocked || s.cbu.bcOn) ∧
      { t with
        regs := s.regs, shadow := s.shadow, fregs := s.fregs, mem := s.mem, cbu := s.cbu, memsys := s.memsys,
        model := s.model } = { s with machineChecks := s.machineChecks ++ [istream] } := by
  let u := s.fillFailed system istream a syn
  let v := (u.fillInverted system istream a flip).keepFlip false system a flip check
  have data : v.withDataOf u = u := (State.fillDelivered_onlyData u ..).trans (State.memsys_onlyData _ _)
  have cbu : v.cbu = s.cbu.hardError (0x10 ||| eiSource system istream) a syn (s.fillProbe system a) := congrArg State.cbu data
  obtain ⟨stat, locked, addr, hsyn, tag⟩ := hardError_first none (0x10 ||| eiSource system istream) a syn (s.fillProbe system a)
  rw [← cbu] at stat locked addr hsyn tag
  rw [BitVec.or_comm 0x10, ← BitVec.or_assoc] at stat
  refine ⟨v.oweCheck istream, fill_next h FillCheck.noConfusion hfound, stat, locked, addr, hsyn, tag, ?_⟩
  exact congrArg (fun x : State => { x.withDataOf s with cbu := s.cbu, machineChecks := x.machineChecks ++ [istream] }) data

end

/-! ### System commands -/

/-- Parity is counted over addr_h<39:4>, cmd_h and addr_cmd_par_h. -/
theorem commandParityOk_iff (code : BitVec 4) (a : PAddr) (parity : Bool) :
    commandParityOk code a parity = true ↔ oddParity code a parity := by
  have above : ((Finset.range 40).filter fun k => (clearLow a 4).getLsbD k = true) =
      (Finset.range 40).filter fun k => 4 ≤ k ∧ a.getLsbD k = true := by
    refine Finset.filter_congr fun k hk => ?_
    have lt := Finset.mem_range.mp hk
    rw [clearLow, BitVec.getLsbD_shiftLeft, BitVec.getLsbD_ushiftRight]
    rcases Nat.lt_or_ge k 4 with low | high
    · simp [low]
    · simp [lt, high, Nat.not_lt.mpr high, Nat.add_sub_cancel' high]
  have odd (m n : Nat) : (decide (m % 2 = 1) ^^ (decide (n % 2 = 1) ^^ parity)) = true ↔ (m + n + parity.toNat) % 2 = 1 := by
    rcases Nat.mod_two_eq_zero_or_one m with hm | hm <;> rcases Nat.mod_two_eq_zero_or_one n with hn | hn <;> cases parity <;>
      simp [hm, hn, Nat.add_mod]
  rw [commandParityOk, eparity_eq_card, eparity_eq_card, above, oddParity]
  exact odd _ _

theorem answer_response (s : State) (present data : Bool) (r : Answer) (a : PAddr) :
    (s.answer present data r a).memsys.caches.bus.response = BitVec.ofBool present ++ r.code := rfl

/-- A command with bad parity: recorded, and not acknowledged. -/
def State.badCommand (s : State) (code : BitVec 4) (a : PAddr) : State :=
  (((s.commandError a).notAcknowledged a).oweCheck false).afterCommand true code

theorem badCommand_response (s : State) (code : BitVec 4) (a : PAddr) :
    (s.badCommand code a).memsys.caches.bus.response.toNat % 4 = 1 := by
  have noAck (present : Bool) : (BitVec.ofBool present ++ Answer.noAck.code).toNat % 4 = 1 := by cases present <;> rfl
  have response := answer_response (s.commandError a).drawn (s.commandError a).drawChoice false .noAck a
  exact (congrArg (fun r : BitVec 3 => r.toNat % 4) response).trans (noAck _)

theorem badCommand_cbu (s : State) (code : BitVec 4) (a : PAddr) : (s.badCommand code a).cbu =
    s.cbu.hardError (0x24 ||| (s.freeSource &&& 0x40)) a s.cbu.fillSyn (s.tagProbe a) := rfl

theorem commandError_frame (s : State) (a : PAddr) : ∃ c k, s.commandError a = { s with cbu := c, model := k } := ⟨_, _, rfl⟩

theorem notAcknowledged_frame (s : State) (a : PAddr) :
    ∃ m k, s.notAcknowledged a = { s with memsys := m, model := k } := ⟨_, _, rfl⟩

theorem badCommand_frame (s : State) (code : BitVec 4) (a : PAddr) :
    { s.badCommand code a with cbu := s.cbu, memsys := s.memsys, model := s.model } =
      { s with machineChecks := s.machineChecks ++ [false] } := by
  obtain ⟨c, k, recorded⟩ := commandError_frame s a
  obtain ⟨m, l, answered⟩ := notAcknowledged_frame (s.commandError a) a
  rw [State.badCommand, answered, recorded]
  rfl

/-- EI_ES and the parity error are recorded, whatever FIL_IRD. -/
theorem commandStat_known (e f : BitVec 8) : ((e &&& 8) ||| (0x24 ||| (f &&& 0x40))) &&& 0xBF = (e &&& 8) ||| 0x24 := by
  rw [BitVec.and_or_distrib_right, BitVec.and_or_distrib_right, BitVec.and_assoc, BitVec.and_assoc]
  have none : f &&& (0x40 &&& 0xBF) = 0#8 := BitVec.and_zero
  rw [none, BitVec.or_zero]
  rfl

theorem badCommand_next {s : State} {code : BitVec 4} {a : PAddr} {parity : Bool} (quiet : s.model.cbuQuiet = false)
    (bad : ¬oddParity code a parity) (checked : s.cbu.bcControl.getLsbD 28 = false)
    (reported : s.cbu.bcControl.getLsbD 15 = false) :
    handleEvent (.systemCommand code a parity) s =
      .next (s.badCommand code a) := by
  rw [← commandParityOk_iff, Bool.not_eq_true] at bad
  rw [handleEvent, quiet, bad, checked, State.eiErrorsOff, reported]
  rfl

/-! ### The obligation -/

theorem icacheParity_next (tag : Bool) (s : State) : handleEvent (.icacheParity tag) s = .next
    { s with
      idu := { s.idu with
        icperrStat := if s.idu.icperrStat &&& 3 = 0 then s.idu.icperrStat ||| (if tag = true then 2 else 1) else s.idu.icperrStat }
      machineChecks := s.machineChecks ++ [true] } := by
  rw [handleEvent, State.setIcperr, State.oweCheck, Bool.cond_eq_ite, Bool.cond_eq_ite]
  simp only [beq_iff_eq]

/-- Settles O56: the events by their results, and the codes by what they find of the wrong bits, whatever was sent. -/
theorem errorsAreRecorded : Obligations.ErrorsAreRecorded := by
  refine fun s => ⟨fun tag => icacheParity_next tag s, ?_, ?_⟩
  · intro reported quiet system istream a notCbu taken source fill corrected fails
    have checked : FillChecked s system istream a := ⟨reported, quiet, notCbu, taken⟩
    have hcorrected {flip : BitVec 128} {check syn : BitVec 16} (ecc : s.cbu.bcControl.getLsbD 6 = true)
        (hfound : FillFinds true flip check (.correctable syn)) :
        corrected (fill flip check) syn := by
      obtain ⟨t, hnext, request, frame, records⟩ := corrected_fill checked (by rwa [ecc])
      rw [eiSource_eq] at records
      exact ⟨t, hnext, request, frame, records⟩
    have hfails {ecc : Bool} {flip : BitVec 128} {syn : BitVec 16} (hecc : s.cbu.bcControl.getLsbD 6 = ecc)
        (hfound : FillFinds ecc flip 0 (.uncorrectable syn)) :
        fails (fill flip 0) syn := fun none => by
      obtain ⟨t, hnext, stat, records⟩ := failed_fill checked (by rwa [hecc]) none
      rw [eiSource_eq] at stat
      exact ⟨t, hnext, stat, records⟩
    exact ⟨fun ecc => ⟨fun k hk => hcorrected ecc (fillFinds_dataBit hk), fun k hk => hcorrected ecc (fillFinds_checkBit hk),
        fun j k h hj hk hjk hh => hfails ecc (fillFinds_twoBits hj hk hjk hh)⟩,
      fun parity k hk => hfails parity (fillFinds_parityBit hk)⟩
  · intro code a parity quiet bad checked reported none
    obtain ⟨stat, locked, addr, -, -⟩ :=
      hardError_first none (0x24 ||| (s.freeSource &&& 0x40)) a s.cbu.fillSyn (s.tagProbe a)
    rw [← badCommand_cbu s code a] at stat locked addr
    exact ⟨s.badCommand code a, badCommand_next quiet bad checked reported, badCommand_response s code a,
      (congrArg (· &&& 0xBF) stat).trans (commandStat_known ..), locked, addr, badCommand_frame s code a⟩

end Sys2Proof.Machine

/-! # The CBU registers -/

namespace Sys2Proof.Machine

/-! ### The region and its registers (13_state_cbu_iprs.md R240) -/

/-- Where the region has a register. -/
def CbuReg.offset : CbuReg → Nat
  | .scCtl => 0xA8
  | .scStat => 0xE8
  | .scAddr => 0x188
  | .bcControl => 0x128
  | .bcConfig => 0x1C8
  | .bcTagAddr => 0x108
  | .eiStat => 0x168
  | .eiAddr => 0x148
  | .fillSyn => 0x68

theorem inCbu_iff (pa : PAddr) : inCbu pa = true ↔ 0xFFFFF00000 ≤ pa.toNat := by
  have lt := pa.isLt
  rw [inCbu, beq_iff_eq, ← BitVec.toNat_inj, toNat_extractLsb']
  change pa.toNat / 2 ^ 20 % 2 ^ 20 = 0xFFFFF ↔ _
  omega

theorem PAddr.getLsbD_39 (pa : PAddr) : pa.getLsbD 39 = decide (2 ^ 39 ≤ pa.toNat) :=
  (BitVec.msb_eq_getLsbD_last pa).symm.trans (BitVec.msb_eq_decide pa)

theorem getLsbD_39_of_cbu {pa : PAddr} (h : 0xFFFFF00000 ≤ pa.toNat) : pa.getLsbD 39 = true := by
  rw [PAddr.getLsbD_39, decide_eq_true_iff]
  omega

theorem cbuReg_eq_some {pa : PAddr} {reg : CbuReg} : cbuReg pa = some reg ↔ pa.toNat % 2 ^ 20 = reg.offset := by
  have low : (pa.extractLsb' 0 20).toNat = pa.toNat % 2 ^ 20 := by rw [toNat_extractLsb', Nat.pow_zero, Nat.div_one]
  rw [cbuReg, low]
  constructor
  · intro h
    split at h
    case h_10 => cases h
    all_goals
      rename_i at_offset
      cases h
      exact at_offset
  · intro h
    rw [h]
    cases reg <;> rfl

theorem mem_cbuOffsets {k : Nat} : k ∈ cbuOffsets ↔ ∃ reg : CbuReg, k = reg.offset := by
  constructor
  · intro h
    simp only [cbuOffsets, List.mem_cons, List.not_mem_nil, or_false] at h
    rcases h with h | h | h | h | h | h | h | h | h
    exacts [⟨.scCtl, h⟩, ⟨.scStat, h⟩, ⟨.scAddr, h⟩, ⟨.bcControl, h⟩, ⟨.bcConfig, h⟩, ⟨.bcTagAddr, h⟩, ⟨.eiStat, h⟩,
      ⟨.eiAddr, h⟩, ⟨.fillSyn, h⟩]
  · rintro ⟨reg, rfl⟩
    cases reg <;> decide

theorem cbuReg_of_mem {pa : PAddr} (h : pa.toNat % 2 ^ 20 ∈ cbuOffsets) : ∃ reg, cbuReg pa = some reg :=
  (mem_cbuOffsets.mp h).imp fun _ => cbuReg_eq_some.mpr

theorem cbuReg_of_not_mem {pa : PAddr} (h : pa.toNat % 2 ^ 20 ∉ cbuOffsets) : cbuReg pa = none :=
  Option.eq_none_iff_forall_ne_some.mpr fun _ hreg => h (mem_cbuOffsets.mpr ⟨_, cbuReg_eq_some.mp hreg⟩)

theorem State.busAddress_cbu (s : State) {pa : PAddr} (h : 0xFFFFF00000 ≤ pa.toNat) : s.busAddress pa = pa := by
  rw [State.busAddress, (inCbu_iff pa).mpr h, Bool.not_true, Bool.and_false, cond_false]

/-! ### References to the region -/

theorem translated_ok {s : State} {r : DRef} {pa : PAddr} (h : s.translate r = .ok pa) (k : PAddr → State → Result State) :
    translated r k s = k pa s := by
  rw [translated, h]

section
variable {s : State} {r : DRef} {pa : PAddr}

/-- A load that goes to the region reaches the access rules of its registers: it is neither held nor answered by the Dcache. -/
theorem loadAt_cbu (hq : s.model.cbuStore = false) (hpa : 0xFFFFF00000 ≤ pa.toNat) (h : s.loadsCbu r pa)
    (k : Quad → State → Result State) : loadAt r pa k s = cbuLoad r pa (fun v t => k v (s.cbuLoaded r pa t)) s := by
  obtain ⟨-, held, unforced⟩ := h
  have misses : (s.dcacheCase r pa).misses = true := by
    rw [State.dcacheCase, getLsbD_39_of_cbu hpa, Bool.true_or, cond_true]
    cases hm : r.lock || s.model.missNext with
    | true => rfl
    | false =>
      rw [Bool.or_eq_false_iff] at hm
      rw [unforced.resolve_right (by rw [hm.2]; decide)]
      rfl
  rw [loadAt, hq, s.busAddress_cbu hpa, held, (inCbu_iff pa).mpr hpa, misses]
  rfl

theorem load_cbu (hq : s.model.cbuStore = false) (hpa : 0xFFFFF00000 ≤ pa.toNat) (h : s.loadsCbu r pa)
    (k : Quad → State → Result State) : load r k s = cbuLoad r pa (fun v t => k v (s.cbuLoaded r pa t)) s :=
  (translated_ok h.1 _).trans (loadAt_cbu hq hpa h k)

theorem loadLocked_cbu (hq : s.model.cbuStore = false) (hpa : 0xFFFFF00000 ≤ pa.toNat) (h : s.loadsCbu r pa)
    (k : Quad → State → Result State) :
    loadLocked r k s = cbuLoad r pa (fun v t => k v ((s.cbuLoaded r pa t).locks pa)) s :=
  (translated_ok h.1 _).trans (loadAt_cbu hq hpa h _)

theorem store_cbu (hq : s.model.cbuStore = false) (hpa : 0xFFFFF00000 ≤ pa.toNat) (h : s.storesCbu r pa) (v : Quad)
    (k : State → Result State) : store r v k s = cbuStore r pa v (fun t => k (s.dcacheStore r pa t)) s := by
  rw [store, translated_ok h.1, storeAt, hq, h.2, s.busAddress_cbu hpa, (inCbu_iff pa).mpr hpa]
  rfl

theorem storeConditional_cbu (hq : s.model.cbuStore = false) (hpa : 0xFFFFF00000 ≤ pa.toNat) (h : s.storesCbu r pa) (v : Quad)
    (k : Bool → State → Result State) :
    storeConditional r v k s = cbuStore { r with lock := true } pa v (fun t => .next t) s := by
  rw [storeConditional, translated_ok h.1, condAt, hq, h.2, (inCbu_iff pa).mpr hpa]
  rfl

/-! ### The access rules (R241, R242) -/

/-- A reference that is no unlocked quadword. -/
def DRef.NoCbuAccess (r : DRef) : Prop := r.size ≠ 8 ∨ r.lock = true

theorem DRef.noCbuAccess_iff (r : DRef) : (r.size != 8 || r.lock) = true ↔ r.NoCbuAccess := by
  rw [Bool.or_eq_true, bne_iff_ne, DRef.NoCbuAccess]

theorem DRef.not_noCbuAccess_iff (r : DRef) : (r.size != 8 || r.lock) = false ↔ ¬r.NoCbuAccess := by
  rw [← Bool.not_eq_true, r.noCbuAccess_iff]

theorem DRef.cbuAccess {r : DRef} (hsize : r.size = 8) (hlock : r.lock = false) : ¬r.NoCbuAccess := by
  rw [← r.not_noCbuAccess_iff, hsize, hlock]
  rfl

theorem DRef.narrow {r : DRef} (n : Nat) (hsize : r.size = n) (hn : n ≠ 8) : r.NoCbuAccess := .inl (hsize ▸ hn)

theorem cbuLoad_none (h : pa.toNat % 2 ^ 20 ∉ cbuOffsets) (k : Quad → State → Result State) :
    cbuLoad r pa k s = .fault .undefinedCbuAddress := by
  rw [cbuLoad, cbuReg_of_not_mem h]

theorem cbuStore_none (h : pa.toNat % 2 ^ 20 ∉ cbuOffsets) (v : Quad) (k : State → Result State) :
    cbuStore r pa v k s = .fault .undefinedCbuAddress := by
  rw [cbuStore, cbuReg_of_not_mem h]

theorem cbuLoad_noAccess (hr : r.NoCbuAccess) (h : pa.toNat % 2 ^ 20 ∈ cbuOffsets) (k : Quad → State → Result State) :
    cbuLoad r pa k s = .refused .cbuAccess := by
  obtain ⟨reg, hreg⟩ := cbuReg_of_mem h
  rw [cbuLoad, hreg, r.noCbuAccess_iff.mpr hr]
  rfl

theorem cbuStore_noAccess (hr : r.NoCbuAccess) (h : pa.toNat % 2 ^ 20 ∈ cbuOffsets) (v : Quad) (k : State → Result State) :
    cbuStore r pa v k s = .refused .cbuAccess := by
  obtain ⟨reg, hreg⟩ := cbuReg_of_mem h
  rw [cbuStore, hreg, r.noCbuAccess_iff.mpr hr]
  rfl

/-- With ALLOC_CYC set no register is read. -/
theorem cbuLoad_allocCyc (hr : ¬r.NoCbuAccess) (h : pa.toNat % 2 ^ 20 ∈ cbuOffsets) (ha : s.cbu.bcControl.getLsbD 1 = true)
    (k : Quad → State → Result State) : cbuLoad r pa k s = .refused .cbuOrder := by
  obtain ⟨reg, hreg⟩ := cbuReg_of_mem h
  rw [cbuLoad, hreg, r.not_noCbuAccess_iff.mpr hr, ha]
  rfl

theorem cbuLoad_reads {reg : CbuReg} {v : Quad} {t : State} (hr : ¬r.NoCbuAccess) (h : pa.toNat % 2 ^ 20 = reg.offset)
    (ha : s.cbu.bcControl.getLsbD 1 = false) (hread : s.cbuRead reg = some (v, t)) (k : Quad → State → Result State) :
    cbuLoad r pa k s = k v t := by
  simp only [cbuLoad, cbuReg_eq_some.mpr h, r.not_noCbuAccess_iff.mpr hr, ha, hread, cond_false]

theorem cbuLoad_writeOnly {reg : CbuReg} (hr : ¬r.NoCbuAccess) (h : pa.toNat % 2 ^ 20 = reg.offset)
    (ha : s.cbu.bcControl.getLsbD 1 = false) (hread : s.cbuRead reg = none) (k : Quad → State → Result State) :
    cbuLoad r pa k s = .refused .cbuAccess := by
  simp only [cbuLoad, cbuReg_eq_some.mpr h, r.not_noCbuAccess_iff.mpr hr, ha, hread, cond_false]

/-- A store that its register refuses. -/
theorem cbuStore_stops {reg : CbuReg} {v : Quad} {f : Refusal} (hr : ¬r.NoCbuAccess) (h : pa.toNat % 2 ^ 20 = reg.offset)
    (hw : s.cbuWrite v reg = .refused f) (k : State → Result State) : cbuStore r pa v k s = .refused f := by
  simp only [cbuStore, cbuReg_eq_some.mpr h, r.not_noCbuAccess_iff.mpr hr, hw, cond_false]

/-- The state after a store to a register, `t` being the one that its write leaves: with the arbiter stopped the write waits. -/
def State.cbuStored (s : State) (reg : CbuReg) (v : Quad) (t : State) : State :=
  bif s.stopped then
    { s with model := { s.model with
      cbuStore := true, afterMb := false, cbuQuiet := t.model.cbuQuiet, cbuWaits := some (reg, v) } }
  else { t with model := { t.model with cbuStore := true, afterMb := false } }

/-- A store that its register takes must come right after an MB, and find no request of the Istream if it changes anything. -/
theorem cbuStore_next {reg : CbuReg} {v : Quad} {t : State} (hr : ¬r.NoCbuAccess) (h : pa.toNat % 2 ^ 20 = reg.offset)
    (hw : s.cbuWrite v reg = .next t) (k : State → Result State) :
    cbuStore r pa v k s = bif !s.model.afterMb || (t.model.cbuQuiet && s.memsys.istreamAsked) then .refused .cbuOrder
      else k (s.cbuStored reg v t) := by
  simp only [cbuStore, cbuReg_eq_some.mpr h, r.not_noCbuAccess_iff.mpr hr, hw, cond_false, State.cbuStored]
  cases s.stopped <;> rfl

end

/-! ### References that reach no register -/

section
variable {s : State} {i : Instr} {r : DRef}

theorem reachesNoCbu_load {k : Quad → State → Result State} (hq : s.model.cbuStore = false) (hi : exec i s = load r k s)
    (hw : r.write = false) (hr : r.NoCbuAccess) : reachesNoCbu s i r := by
  intro pa hpa hgoes
  rw [hw, if_neg Bool.false_ne_true] at hgoes
  rw [hi, load_cbu hq hpa hgoes]
  exact ⟨fun h => cbuLoad_none h _, fun h => cbuLoad_noAccess hr h _⟩

theorem reachesNoCbu_loadLocked {k : Quad → State → Result State} (hq : s.model.cbuStore = false)
    (hi : exec i s = loadLocked r k s) (hw : r.write = false) (hr : r.NoCbuAccess) : reachesNoCbu s i r := by
  intro pa hpa hgoes
  rw [hw, if_neg Bool.false_ne_true] at hgoes
  rw [hi, loadLocked_cbu hq hpa hgoes]
  exact ⟨fun h => cbuLoad_none h _, fun h => cbuLoad_noAccess hr h _⟩

theorem reachesNoCbu_store {v : Quad} {k : State → Result State} (hq : s.model.cbuStore = false)
    (hi : exec i s = store r v k s) (hw : r.write = true) (hr : r.NoCbuAccess) : reachesNoCbu s i r := by
  intro pa hpa hgoes
  rw [hw, if_pos rfl] at hgoes
  rw [hi, store_cbu hq hpa hgoes]
  exact ⟨fun h => cbuStore_none h _ _, fun h => cbuStore_noAccess hr h _ _⟩

/-- A conditional store counts as locked. -/
theorem reachesNoCbu_storeConditional {v : Quad} {k : Bool → State → Result State} (hq : s.model.cbuStore = false)
    (hi : exec i s = storeConditional r v k s) (hw : r.write = true) : reachesNoCbu s i r := by
  intro pa hpa hgoes
  rw [hw, if_pos rfl] at hgoes
  rw [hi, storeConditional_cbu hq hpa hgoes]
  exact ⟨fun h => cbuStore_none h _ _, fun h => cbuStore_noAccess (.inr rfl) h _ _⟩

end

/-! ### What the registers read as (R246 to R248, R260 to R267) -/

theorem getLsbD_place {n : Nat} (f : BitVec n) (lo k : Nat) (hk : k < 64) :
    (place f lo).getLsbD k = (decide (lo ≤ k) && f.getLsbD (k - lo)) := by
  rcases Nat.lt_or_ge k lo with h | h
  · simp [place, h, Nat.not_le.mpr h]
  · simp [place, h, hk, Nat.not_lt.mpr h]

theorem getLsbD_maskOf (lo n k : Nat) : (maskOf lo n).getLsbD k = decide (k < 64 ∧ lo ≤ k ∧ k < lo + n) := by
  rw [maskOf, BitVec.getLsbD_shiftLeft, BitVec.getLsbD_setWidth, BitVec.getLsbD_allOnes, ← decide_not, ← Bool.decide_and,
    ← Bool.decide_and, ← Bool.decide_and, decide_eq_decide]
  omega

theorem place_zero {n : Nat} (f : BitVec n) : place f 0 = BitVec.ofNat 64 f.toNat :=
  (BitVec.shiftLeft_zero (f.setWidth 64)).trans (BitVec.ofNat_toNat 64 f).symm

/-- A known bit is no draw. -/
theorem State.getLsbD_withFree (s : State) {known v : Quad} {k : Nat} (h : known.getLsbD k = true) :
    (s.withFree known v).getLsbD k = v.getLsbD k := by
  rw [State.withFree, BitVec.getLsbD_or, BitVec.getLsbD_and, BitVec.getLsbD_and, BitVec.getLsbD_not, h, Bool.not_true,
    Bool.and_false, Bool.and_false, Bool.false_or, Bool.and_true]

/-- A field of known bits is the field of what is read there. -/
theorem State.field_withFree (s : State) {known v : Quad} {m : Nat} {f : BitVec m} (lo n at_ : Nat)
    (h : ∀ j < n, known.getLsbD (lo + j) = true ∧ v.getLsbD (lo + j) = f.getLsbD (at_ + j)) :
    (s.withFree known v).toNat / 2 ^ lo % 2 ^ n = f.toNat / 2 ^ at_ % 2 ^ n := by
  rw [← toNat_extractLsb', ← toNat_extractLsb']
  refine congrArg BitVec.toNat (BitVec.eq_of_getLsbD_eq fun j hj => ?_)
  obtain ⟨hknown, hv⟩ := h j hj
  rw [BitVec.getLsbD_extractLsb', BitVec.getLsbD_extractLsb', s.getLsbD_withFree hknown, hv]

theorem State.scAddrRead_locked {s : State} (h : s.cbu.scLocked = true) :
    s.scAddrRead.toNat / 2 ^ 4 % 2 ^ 35 = s.cbu.scAddr.toNat / 2 ^ 4 % 2 ^ 35 := by
  rw [State.scAddrRead, h, cond_true]
  refine s.field_withFree 4 35 4 fun j hj => ⟨?_, ?_⟩
  · rw [getLsbD_maskOf, decide_eq_true_iff]
    omega
  · have : 4 + j < 39 := by omega
    rw [getLsbD_place _ _ _ (by omega)]
    simp [this]

theorem State.eiAddrRead_field (s : State) :
    (s.withFree (maskOf 4 36) (place s.cbu.eiAddr 0)).toNat / 2 ^ 4 % 2 ^ 36 = s.cbu.eiAddr.toNat / 2 ^ 4 := by
  have lt := s.cbu.eiAddr.isLt
  rw [s.field_withFree (f := s.cbu.eiAddr) 4 36 4, Nat.mod_eq_of_lt (by omega)]
  intro j hj
  rw [getLsbD_maskOf, decide_eq_true_iff, getLsbD_place _ _ _ (by omega)]
  exact ⟨by omega, by simp⟩

theorem State.fillSynRead_field (s : State) :
    (s.withFree (maskOf 0 16) (place s.cbu.fillSyn 0)).toNat % 2 ^ 16 = s.cbu.fillSyn.toNat := by
  have field := s.field_withFree (known := maskOf 0 16) (v := place s.cbu.fillSyn 0) (f := s.cbu.fillSyn) 0 16 0 fun j hj => by
    rw [getLsbD_maskOf, decide_eq_true_iff, getLsbD_place _ _ _ (by omega)]
    exact ⟨by omega, by simp⟩
  rwa [Nat.pow_zero, Nat.div_one, Nat.div_one, Nat.mod_eq_of_lt s.cbu.fillSyn.isLt] at field

theorem State.eiStatRead_fields (s : State) :
    let x := s.withFree (maskOf 24 12) (place (4 : BitVec 4) 24 ||| place s.cbu.eiStat 28)
    x.toNat / 2 ^ 28 % 2 ^ 8 = s.cbu.eiStat.toNat ∧ x.toNat / 2 ^ 24 % 2 ^ 4 = 4 := by
  constructor
  · have lt := s.cbu.eiStat.isLt
    rw [s.field_withFree (f := s.cbu.eiStat) 28 8 0, Nat.pow_zero, Nat.div_one, Nat.mod_eq_of_lt lt]
    intro j hj
    have above : (4 : BitVec 4).getLsbD (28 + j - 24) = false := BitVec.getLsbD_of_ge _ _ (by omega)
    rw [getLsbD_maskOf, decide_eq_true_iff, BitVec.getLsbD_or, getLsbD_place _ _ _ (by omega), getLsbD_place _ _ _ (by omega),
      above]
    exact ⟨by omega, by simp⟩
  · rw [s.field_withFree (f := (4 : BitVec 4)) 24 4 0]
    · rfl
    intro j hj
    have below : ¬28 ≤ 24 + j := by omega
    rw [getLsbD_maskOf, decide_eq_true_iff, BitVec.getLsbD_or, getLsbD_place _ _ _ (by omega), getLsbD_place _ _ _ (by omega)]
    exact ⟨by omega, by simp [below]⟩

/-- The tag bits that a Bcache of the configured size uses. -/
theorem Cbu.getLsbD_tagMask (c : Cbu) {k : Nat} (low : 12 ≤ k) (high : k < 39) :
    c.tagMask.getLsbD k = decide (k < 20 ∨ 19 + c.bcConfig.toNat % 8 ≤ k) := by
  have size : (c.bcConfig.extractLsb' 0 3).toNat = c.bcConfig.toNat % 8 := by
    exact (toNat_extractLsb' ..).trans (by rw [Nat.pow_zero, Nat.div_one]; rfl)
  have k64 : k < 64 := by omega
  rw [Cbu.tagMask, BitVec.getLsbD_and, BitVec.getLsbD_not, getLsbD_maskOf, getLsbD_maskOf, size, decide_eq_true k64,
    Bool.true_and, ← decide_not, ← Bool.decide_and, decide_eq_decide]
  omega

theorem State.bcTagRead_locked {s : State} (h : s.cbu.bcTagLocked = true) {k : Nat} (low : 12 ≤ k) (high : k < 39) (h18 : k ≠ 18)
    (h19 : k ≠ 19) : s.bcTagRead.getLsbD k =
      (s.cbu.bcTagAddr.getLsbD (k - 12) && decide (k < 20 ∨ 19 + s.cbu.bcConfig.toNat % 8 ≤ k)) := by
  have known : (maskOf 12 6 ||| maskOf 20 19).getLsbD k = true := by
    rw [BitVec.getLsbD_or, getLsbD_maskOf, getLsbD_maskOf, ← Bool.decide_or, decide_eq_true_iff]
    omega
  rw [State.bcTagRead, h, cond_true, s.getLsbD_withFree known, BitVec.getLsbD_and, getLsbD_place _ _ _ (by omega),
    s.cbu.getLsbD_tagMask low high, decide_eq_true low, Bool.true_and]

theorem Cbu.readEiStat_eq (c : Cbu) : c.readEiStat =
    if c.eiStat.getLsbD 3 = true ∧ c.eiStat &&& 0x33 ≠ 0 then { c with eiStat := c.eiStat &&& 0xF7 }
    else { c with eiStat := 0, eiLocked := false, bcTagLocked := false } := by
  have both : (c.correctable && c.uncorrectable) = decide (c.eiStat.getLsbD 3 = true ∧ c.eiStat &&& 0x33 ≠ 0) :=
    Bool.eq_iff_iff.mpr (by simp [Cbu.correctable, Cbu.uncorrectable])
  rw [Cbu.readEiStat, both, Bool.cond_decide]

/-! ### Loads of the registers -/

/-- What `readsCbu` says of the register at an address: what is read of it, and the registers afterwards. -/
def readsCbuAt (s : State) (i : Instr) (r : DRef) (write : State → Quad → State) (pa : PAddr) (c : Cbu) (p : Quad → Prop) : Prop :=
  s.cbu.bcControl.getLsbD 1 = false → s.loadsCbu r pa → ∃ x t, p x ∧ keepsLock s t ∧
    { t with cbu := s.cbu, memsys := s.memsys, lockFlag := s.lockFlag, model := s.model } = s ∧
    t.cbu = (if s.mtu.mafMode.getLsbD 5 = true then s.cbu else c) ∧
    (s.mtu.mafMode.getLsbD 5 = true → ∃ e, t.memsys.maf.getLast? = some e ∧ e.waits = true) ∧
    exec i s = .next ((write t x).advance)

theorem State.noteCbuLoad_lockKept (s : State) (r : DRef) (pa : PAddr) (t : State) :
    lockKept t (s.noteCbuLoad r pa t).lockFlag := by
  obtain ⟨w, f, m, heq, kept, -⟩ := s.noteCbuLoad_frame r pa t
  rw [heq]
  exact kept

/-- The state after a load of a register, and the entry of the load in the miss address file. -/
theorem cbuLoaded_spec {s u : State} {reg : CbuReg} {x : Quad} (hread : s.cbuRead reg = some (x, u)) (r : DRef) (pa : PAddr) :
    let t := s.cbuLoaded r pa u
    keepsLock s t ∧ { t with cbu := s.cbu, memsys := s.memsys, lockFlag := s.lockFlag, model := s.model } = s ∧
      t.cbu = (if s.mtu.mafMode.getLsbD 5 = true then s.cbu else u.cbu) ∧
      ∃ e, t.memsys.maf.getLast? = some e ∧ e.waits = s.mtu.mafMode.getLsbD 5 := by
  obtain ⟨c, w, k, rfl, -⟩ := State.cbuRead_frame hread
  have last (v : State) : ∃ e, (s.noteCbuLoad r pa v).memsys.maf.getLast? = some e ∧ e.waits = s.mtu.mafMode.getLsbD 5 :=
    ⟨{ s.mafEntryOf r pa with waits := s.stopped }, List.getLast?_concat, rfl⟩
  rw [State.cbuLoaded]
  cases hs : s.mtu.mafMode.getLsbD 5 with
  | true =>
    rw [State.stopped, hs, cond_true, ← hs]
    exact ⟨s.noteCbuLoad_lockKept r pa s, rfl, by rw [hs]; rfl, last _⟩
  | false =>
    rw [State.stopped, hs, cond_false, ← hs]
    exact ⟨s.noteCbuLoad_lockKept r pa { s with cbu := c, memsys := w, model := k }, rfl, by rw [hs]; rfl, last _⟩

section
variable {s : State} {i : Instr} {r : DRef} {write : State → Quad → State}

theorem readsCbuAt_of_cbuRead (hq : s.model.cbuStore = false) (hi : exec i s = load r (fun x t => (write t x).done) s)
    (hr : ¬r.NoCbuAccess) {reg : CbuReg} {pa : PAddr} (hpa : 0xFFFFF00000 ≤ pa.toNat) (hreg : pa.toNat % 2 ^ 20 = reg.offset)
    {x : Quad} {u : State} {c : Cbu} {p : Quad → Prop} (hread : s.cbuRead reg = some (x, u)) (hc : u.cbu = c) (hx : p x) :
    readsCbuAt s i r write pa c p := by
  intro ha hgoes
  obtain ⟨lock, frame, cbu, e, last, waits⟩ := cbuLoaded_spec hread r pa
  refine ⟨x, s.cbuLoaded r pa u, hx, lock, frame, hc ▸ cbu, fun stopped => ⟨e, last, waits.trans stopped⟩, ?_⟩
  rw [hi, load_cbu hq hpa hgoes, cbuLoad_reads hr hreg ha hread]
  rfl

/-- A load of an unlocked quadword reads the registers. -/
theorem readsCbu_load (hq : s.model.cbuStore = false) (hi : exec i s = load r (fun x t => (write t x).done) s)
    (hr : ¬r.NoCbuAccess) : readsCbu s i r write := by
  have reads {reg : CbuReg} {pa : PAddr} (hpa : 0xFFFFF00000 ≤ pa.toNat) (hreg : pa.toNat % 2 ^ 20 = reg.offset) {x : Quad}
      {u : State} {c : Cbu} {p : Quad → Prop} :=
    readsCbuAt_of_cbuRead (write := write) hq hi hr hpa hreg (x := x) (u := u) (c := c) (p := p)
  refine ⟨?scCtl, ?scStat, ?scAddr, ?eiAddr, ?fillSyn, ?bcTagAddr, ?eiStat, ?stops⟩
  case scCtl => exact reads (reg := .scCtl) (by decide) (by decide) rfl rfl (place_zero _)
  case scStat => exact reads (reg := .scStat) (by decide) (by decide) rfl rfl (place_zero _)
  case scAddr => exact reads (reg := .scAddr) (by decide) (by decide) rfl rfl State.scAddrRead_locked
  case eiAddr => exact reads (reg := .eiAddr) (by decide) (by decide) rfl rfl s.eiAddrRead_field
  case fillSyn => exact reads (reg := .fillSyn) (by decide) (by decide) rfl rfl s.fillSynRead_field
  case bcTagAddr =>
    exact reads (reg := .bcTagAddr) (by decide) (by decide) rfl rfl fun h k low high => State.bcTagRead_locked h low high
  case eiStat => exact reads (reg := .eiStat) (by decide) (by decide) rfl s.cbu.readEiStat_eq s.eiStatRead_fields
  case stops =>
    intro pa hpa hgoes
    rw [hi, load_cbu hq hpa hgoes]
    refine ⟨fun h => cbuLoad_none h _, fun h ha => cbuLoad_allocCyc hr h ha _, fun h ha => ?_⟩
    rw [List.mem_pair] at h
    rcases h with h | h
    · exact cbuLoad_writeOnly (reg := .bcControl) hr h ha rfl _
    · exact cbuLoad_writeOnly (reg := .bcConfig) hr h ha rfl _

end

/-! ### What a store to a register changes (R243, R250, R256) -/

/-- A request of the Istream to cacheable space is outstanding, and the store changes a register, or another one has (R242). -/
def State.asked (s : State) (changes : Prop) : Prop :=
  (s.model.cbuQuiet = true ∨ changes) ∧ ∃ a ∈ s.memsys.imaf, a.toNat < 2 ^ 39

theorem MemSys.istreamAsked_iff (m : MemSys) : m.istreamAsked = true ↔ ∃ a ∈ m.imaf, a.toNat < 2 ^ 39 := by
  simp only [MemSys.istreamAsked, List.any_eq_true, PAddr.getLsbD_39, Bool.not_eq_true', decide_eq_false_iff_not, Nat.not_le]

/-- Memory and the write buffer are as they were. -/
def State.Kept (s t : State) : Prop := t.mem = s.mem ∧ t.memsys.wb = s.memsys.wb

/-- A write that leaves `t` sets the CBU registers to `c`, and counts as a change if it is one. -/
structure CbuWritten (s : State) (c : Cbu) (changes : Prop) (t : State) : Prop where
  frame : { t with mem := s.mem, memsys := s.memsys, model := s.model } = { s with cbu := c }
  wb : t.memsys.wb.length = s.memsys.wb.length
  maf : t.memsys.maf = s.memsys.maf
  quiet : t.model.cbuQuiet = true ↔ s.model.cbuQuiet = true ∨ changes

/-- A value has none of the bits of a mask. -/
theorem and_eq_zero_iff_bits {v m : Quad} (l : List Nat) (hm : ∀ k < 64, m.getLsbD k = l.elem k) (hl : ∀ k ∈ l, k < 64) :
    v &&& m = 0 ↔ ∀ k ∈ l, bit v k = false := by
  have masked (k : Nat) (hk : k < 64) : (v &&& m).getLsbD k = false ↔ (k ∈ l → bit v k = false) := by
    rw [BitVec.getLsbD_and, hm k hk, Bool.and_comm, Bool.and_eq_false_imp, List.elem_iff, bit]
  exact ⟨fun h k hk => (masked k (hl k hk)).mp (BitVec.zero_iff_eq_false.mp h k) hk,
    fun h => BitVec.eq_of_getLsbD_eq fun k hk => ((masked k hk).mpr (h k)).trans BitVec.getLsbD_zero.symm⟩

theorem bcConfig_reserved (v : Quad) : (bit v 3 || bit v 15 || bit v 19) = false ↔ v &&& 0x88008 = 0 := by
  rw [and_eq_zero_iff_bits [3, 15, 19] (by decide) (by decide)]
  simp [and_assoc]

theorem bcControl_reserved (v : Quad) : (bit v 25 || bit v 27) = false ↔ v &&& 0xA000000 = 0 := by
  rw [and_eq_zero_iff_bits [25, 27] (by decide) (by decide)]
  simp

theorem scCtl_reserved (v : Quad) : slice v 16 3 = 0 ↔ v &&& 0x70000 = 0 := by
  have field : place (slice v 16 3) 16 = v &&& 0x70000 := place_slice v 16 3 (by decide)
  have zero : ∀ f : BitVec 3, place f 16 = 0 ↔ f = 0 := by decide
  rw [← field, zero]

/-- SC_SET_EN of a value for SC_CTL names one set, or all three outside force hit mode (R243, R244). -/
def SetsOk (v : Quad) : Prop :=
  v.toNat / 2 ^ 13 % 8 ∈ [1, 2, 4] ∨ v.toNat / 2 ^ 13 % 8 = 7 ∧ v.getLsbD 0 = false

theorem setsAllowed_iff (v : Quad) : setsAllowed (slice v 13 3) (bit v 0) = true ↔ SetsOk v := by
  have sets : (slice v 13 3).toNat = v.toNat / 2 ^ 13 % 8 := toNat_extractLsb' v 13 3
  have all : ∀ (n : BitVec 3) (forced : Bool), setsAllowed n forced = true ↔
      n.toNat ∈ [1, 2, 4] ∨ n.toNat = 7 ∧ forced = false := by decide
  rw [all, sets]
  exact Iff.rfl

theorem slice_zero_eq (v : Quad) (n : Nat) : slice v 0 n = BitVec.ofNat n v.toNat := by
  rw [slice_eq_ofNat, Nat.pow_zero, Nat.div_one]

/-- Bits of BC_CONTROL differ other than ALLOC_CYC and PM_MUX_SEL. -/
theorem bcControl_changes (v : Quad) (c : BitVec 36) : ((slice v 0 36 ^^^ c) &&& ~~~quietBits != 0) = true ↔
    ∃ k < 36, k ≠ 1 ∧ ¬(19 ≤ k ∧ k ≤ 24) ∧ v.getLsbD k ≠ c.getLsbD k := by
  have quiet : ∀ k < 36, quietBits.getLsbD k = decide (k = 1 ∨ 19 ≤ k ∧ k ≤ 24) := by decide
  have same (k : Nat) (hk : k < 36) : ((slice v 0 36 ^^^ c) &&& ~~~quietBits).getLsbD k = false ↔
      ¬(k ≠ 1 ∧ ¬(19 ≤ k ∧ k ≤ 24) ∧ v.getLsbD k ≠ c.getLsbD k) := by
    rw [slice, BitVec.getLsbD_and, BitVec.getLsbD_xor, BitVec.getLsbD_not, BitVec.getLsbD_extractLsb', quiet k hk,
      decide_eq_true hk, Bool.true_and, Bool.true_and, Nat.zero_add, ← Bool.not_eq_true, Bool.and_eq_true, Bool.xor_iff_ne,
      Bool.not_eq_true', decide_eq_false_iff_not]
    tauto
  rw [bne_iff_ne]
  constructor
  · intro h
    by_contra none
    refine h (BitVec.eq_of_getLsbD_eq fun k hk => Eq.trans ?_ BitVec.getLsbD_zero.symm)
    exact (same k hk).mpr fun differs => none ⟨k, hk, differs⟩
  · rintro ⟨k, hk, differs⟩ h
    exact (same k hk).mp (BitVec.zero_iff_eq_false.mp h k) differs

section
variable {s : State} {v : Quad}

theorem cbuWrite_bcConfig_reserved (h : v &&& 0x88008 ≠ 0) : s.cbuWrite v .bcConfig = .refused .reservedBit := by
  rw [ne_eq, ← bcConfig_reserved, Bool.not_eq_false] at h
  rw [State.cbuWrite, State.writeBcConfig, h]
  rfl

theorem cbuWrite_bcConfig (h : v &&& 0x88008 = 0) : ∃ t, s.cbuWrite v .bcConfig = .next t ∧ s.Kept t ∧
    CbuWritten s { s.cbu with bcConfig := BitVec.ofNat 29 v.toNat } (BitVec.ofNat 29 v.toNat ≠ s.cbu.bcConfig) t := by
  rw [State.cbuWrite, State.writeBcConfig, (bcConfig_reserved v).mpr h, slice_zero_eq]
  refine ⟨_, rfl, ⟨rfl, rfl⟩, rfl, rfl, rfl, ?_⟩
  exact Bool.or_eq_true_iff.trans (or_congr_right bne_iff_ne)

theorem cbuWrite_bcControl_reserved (h : v &&& 0xA000000 ≠ 0) : s.cbuWrite v .bcControl = .refused .reservedBit := by
  rw [ne_eq, ← bcControl_reserved, Bool.not_eq_false] at h
  rw [State.cbuWrite, State.writeBcControl, h]
  rfl

theorem cbuWrite_bcControl (h : v &&& 0xA000000 = 0) : ∃ t, s.cbuWrite v .bcControl = .next t ∧ s.Kept t ∧
    CbuWritten s
      { s.cbu with
        bcControl := BitVec.ofNat 36 v.toNat
        bcTagLocked := s.cbu.bcTagLocked && !(v.getLsbD 7 && !s.cbu.bcControl.getLsbD 7) }
      (∃ k < 36, k ≠ 1 ∧ ¬(19 ≤ k ∧ k ≤ 24) ∧ v.getLsbD k ≠ s.cbu.bcControl.getLsbD k) t := by
  rw [State.cbuWrite, State.writeBcControl, (bcControl_reserved v).mpr h, ← slice_zero_eq]
  refine ⟨_, rfl, ⟨rfl, rfl⟩, rfl, rfl, rfl, ?_⟩
  exact Bool.or_eq_true_iff.trans (or_congr_right (bcControl_changes v s.cbu.bcControl))

theorem cbuWrite_scCtl_reserved (h : v &&& 0x70000 ≠ 0) : s.cbuWrite v .scCtl = .refused .reservedBit := by
  rw [ne_eq, ← scCtl_reserved, ← ne_eq, ← bne_iff_ne] at h
  rw [State.cbuWrite, State.writeScCtl, h]
  rfl

theorem cbuWrite_scCtl_sets (h : v &&& 0x70000 = 0) (hsets : ¬SetsOk v) :
    s.cbuWrite v .scCtl = .refused .scacheSets := by
  rw [← setsAllowed_iff, Bool.not_eq_true] at hsets
  rw [State.cbuWrite, State.writeScCtl, (scCtl_reserved v).mpr h, hsets]
  rfl

/-- Losing data leaves the loads that are outstanding alone, and a change of a CBU register stays one. -/
theorem State.discard_maf_cbuQuiet : ∀ (l : Longs) (s : State),
    (s.discard l).memsys.maf = s.memsys.maf ∧ (s.discard l).model.cbuQuiet = s.model.cbuQuiet
  | [], _ => ⟨rfl, rfl⟩
  | p :: l, s => by
    rw [State.discard_cons]
    exact State.discard_maf_cbuQuiet l (s.lowerLong p)

theorem CbuWritten.scacheFlush {c : Cbu} {changes : Prop} {t : State} (h : CbuWritten s c changes t) :
    CbuWritten s c changes t.scacheFlush := by
  obtain ⟨frame, wb, maf, quiet⟩ := h
  obtain ⟨hmaf, hquiet⟩ := State.discard_maf_cbuQuiet t.memsys.caches.underScache t
  obtain ⟨m, w, k, heq, -, hwb⟩ := t.scacheFlush_frame
  refine ⟨?_, ?_, hmaf.trans maf, (Bool.eq_iff_iff.mp hquiet).trans quiet⟩
  · rw [heq]
    exact frame
  · rw [heq]
    exact hwb.trans wb

theorem State.scacheFlush_invalid (s : State) :
    ∀ l ∈ s.scacheFlush.memsys.caches.scache, l.sub0.valid = false ∧ l.sub1.valid = false := by
  intro l hl
  obtain ⟨x, -, rfl⟩ := List.mem_map.mp hl
  exact ⟨rfl, rfl⟩

theorem cbuWrite_scCtl (h : v &&& 0x70000 = 0) (hsets : SetsOk v) :
    ∃ t, s.cbuWrite v .scCtl = .next t ∧ (v.getLsbD 1 = false → s.Kept t) ∧
      (v.getLsbD 1 = true → ∀ l ∈ t.memsys.caches.scache, l.sub0.valid = false ∧ l.sub1.valid = false) ∧
      CbuWritten s { s.cbu with scCtl := BitVec.ofNat 19 v.toNat } (BitVec.ofNat 19 v.toNat ≠ s.cbu.scCtl) t := by
  rw [State.cbuWrite, State.writeScCtl, (scCtl_reserved v).mpr h, (setsAllowed_iff v).mpr hsets, slice_zero_eq]
  refine ⟨_, rfl, ?_⟩
  have quiet := (Bool.or_eq_true_iff (x := s.model.cbuQuiet)).trans
    (or_congr_right (bne_iff_ne (a := BitVec.ofNat 19 v.toNat) (b := s.cbu.scCtl)))
  cases hv : bit v 1 with
  | false => exact ⟨fun _ => ⟨rfl, rfl⟩, fun set => absurd (hv.symm.trans set) Bool.false_ne_true, rfl, rfl, rfl, quiet⟩
  | true =>
    exact ⟨fun clear => absurd (clear.symm.trans hv) Bool.false_ne_true, fun _ => State.scacheFlush_invalid _,
      CbuWritten.scacheFlush ⟨rfl, rfl, rfl, quiet⟩⟩

end

/-! ### Stores to the registers -/

/-- What `writesCbu` says of the register at an address. -/
def writesCbuAt (s : State) (i : Instr) (w : DRef) (v : Quad) (pa : PAddr) (changes : Prop) (c : Cbu) (q : State → Prop) : Prop :=
  s.model.afterMb = true → ¬s.asked changes → s.storesCbu w pa → ∃ t,
    (s.mtu.mafMode.getLsbD 5 = true → t.model.cbuWaits.map (·.2) = some v) ∧ (¬s.mtu.mafMode.getLsbD 5 = true → q t) ∧
    { t with mem := s.mem, memsys := s.memsys, model := s.model } =
      { s with cbu := if s.mtu.mafMode.getLsbD 5 = true then s.cbu else c } ∧
    t.memsys.wb.length = s.memsys.wb.length ∧ t.memsys.maf = s.memsys.maf ∧ t.model.cbuStore = true ∧
    exec i s = .next t.advance

/-- The Dcache's part of a store does not reach the Scache. -/
theorem State.dcacheStore_scache (s : State) (r : DRef) (pa : PAddr) (t : State) :
    (s.dcacheStore r pa t).memsys.caches.scache = t.memsys.caches.scache := by
  simp only [State.dcacheStore, MemSys.onCaches, State.dcacheWritten]
  cases s.mtu.dcMode.getLsbD 1 || _ <;> rfl

/-- The order of the MBs and the Istream allows a store to a register. -/
theorem cbuOrder_iff {s t : State} {c : Cbu} {changes : Prop} (ht : CbuWritten s c changes t) :
    (!s.model.afterMb || (t.model.cbuQuiet && s.memsys.istreamAsked)) = true ↔ s.model.afterMb = false ∨ s.asked changes := by
  rw [Bool.or_eq_true, Bool.not_eq_true', Bool.and_eq_true, ht.quiet, MemSys.istreamAsked_iff, State.asked]

section
variable {s : State} {i : Instr} {w : DRef} {v : Quad} {pa : PAddr} {reg : CbuReg}

theorem store_cbuStops (hq : s.model.cbuStore = false) (hi : exec i s = store w v State.done s) (hr : ¬w.NoCbuAccess)
    (hpa : 0xFFFFF00000 ≤ pa.toNat) (hgoes : s.storesCbu w pa) (hreg : pa.toNat % 2 ^ 20 = reg.offset) {f : Refusal}
    (hw : s.cbuWrite v reg = .refused f) : exec i s = .refused f := by
  rw [hi, store_cbu hq hpa hgoes, cbuStore_stops hr hreg hw]

theorem store_cbuOrder (hq : s.model.cbuStore = false) (hi : exec i s = store w v State.done s) (hr : ¬w.NoCbuAccess)
    (hpa : 0xFFFFF00000 ≤ pa.toNat) (hgoes : s.storesCbu w pa) (hreg : pa.toNat % 2 ^ 20 = reg.offset) {t : State} {c : Cbu}
    {changes : Prop} (hw : s.cbuWrite v reg = .next t) (ht : CbuWritten s c changes t)
    (order : s.model.afterMb = false ∨ s.asked changes) : exec i s = .refused .cbuOrder := by
  rw [hi, store_cbu hq hpa hgoes, cbuStore_next hr hreg hw, (cbuOrder_iff ht).mpr order]
  rfl

theorem writesCbuAt_of_cbuWrite (hq : s.model.cbuStore = false) (hi : exec i s = store w v State.done s) (hr : ¬w.NoCbuAccess)
    (hpa : 0xFFFFF00000 ≤ pa.toNat) (hreg : pa.toNat % 2 ^ 20 = reg.offset) {t : State} {c : Cbu} {changes : Prop}
    {q : State → Prop} (hw : s.cbuWrite v reg = .next t) (ht : CbuWritten s c changes t)
    (hkept : ∀ k, q (s.dcacheStore w pa { t with model := k })) : writesCbuAt s i w v pa changes c q := by
  intro mb quiet hgoes
  have order : (!s.model.afterMb || (t.model.cbuQuiet && s.memsys.istreamAsked)) = false := by
    rw [← Bool.not_eq_true, cbuOrder_iff ht, mb]
    exact fun h => h.elim Bool.noConfusion quiet
  refine ⟨s.dcacheStore w pa (s.cbuStored reg v t), ?_⟩
  have next : exec i s = .next (s.dcacheStore w pa (s.cbuStored reg v t)).advance := by
    rw [hi, store_cbu hq hpa hgoes, cbuStore_next hr hreg hw, order]
    rfl
  rw [next]
  cases hs : s.mtu.mafMode.getLsbD 5 with
  | true =>
    rw [State.cbuStored, State.stopped, hs]
    exact ⟨fun _ => rfl, fun h => absurd rfl h, rfl, rfl, rfl, rfl, rfl⟩
  | false =>
    rw [State.cbuStored, State.stopped, hs]
    exact ⟨fun h => absurd h Bool.false_ne_true, fun _ => hkept _, ht.frame, ht.wb, ht.maf, rfl, rfl⟩

/-- A store of an unlocked quadword writes the registers. -/
theorem writesCbu_store (hq : s.model.cbuStore = false) (hi : exec i s = store w v State.done s) (hr : ¬w.NoCbuAccess) :
    writesCbu s i w v := by
  refine ⟨?bcConfig, ?bcControl, ?scCtl, ?stops⟩
  case bcConfig =>
    intro hv
    obtain ⟨t, hw, kept, ht⟩ := cbuWrite_bcConfig hv
    exact writesCbuAt_of_cbuWrite hq hi hr (by decide) (by decide) hw ht fun _ => kept
  case bcControl =>
    intro hv
    obtain ⟨t, hw, kept, ht⟩ := cbuWrite_bcControl hv
    exact writesCbuAt_of_cbuWrite hq hi hr (by decide) (by decide) hw ht fun _ => kept
  case scCtl =>
    intro hv hsets
    obtain ⟨t, hw, kept, flushed, ht⟩ := cbuWrite_scCtl hv hsets
    refine writesCbuAt_of_cbuWrite hq hi hr (by decide) (by decide) hw ht fun _ => ⟨kept, fun flush => ?_⟩
    rw [State.dcacheStore_scache]
    exact flushed flush
  case stops =>
    intro pa hpa hgoes
    have stops (reg : CbuReg) (hreg : pa.toNat % 2 ^ 20 = reg.offset) {f : Refusal} :=
      store_cbuStops hq hi hr hpa hgoes hreg (f := f)
    have order (reg : CbuReg) (hreg : pa.toNat % 2 ^ 20 = reg.offset) {t : State} {c : Cbu} {changes : Prop} :=
      store_cbuOrder hq hi hr hpa hgoes hreg (t := t) (c := c) (changes := changes)
    refine ⟨?noRegister, ?readOnly, fun h hv => stops .scCtl h (cbuWrite_scCtl_reserved hv),
      fun h hv hsets => stops .scCtl h (cbuWrite_scCtl_sets hv hsets),
      fun h hv => stops .bcControl h (cbuWrite_bcControl_reserved hv),
      fun h hv => stops .bcConfig h (cbuWrite_bcConfig_reserved hv), ?bcConfigOrder, ?bcControlOrder, ?scCtlOrder⟩
    case noRegister =>
      intro h
      rw [hi, store_cbu hq hpa hgoes, cbuStore_none h]
    case readOnly =>
      intro h
      simp only [List.mem_cons, List.not_mem_nil, or_false] at h
      rcases h with h | h | h | h | h | h
      exacts [stops .scStat h rfl, stops .scAddr h rfl, stops .bcTagAddr h rfl, stops .eiStat h rfl, stops .eiAddr h rfl,
        stops .fillSyn h rfl]
    case bcConfigOrder =>
      intro h hv
      obtain ⟨t, hw, -, ht⟩ := cbuWrite_bcConfig hv
      exact order .bcConfig h hw ht
    case bcControlOrder =>
      intro h hv
      obtain ⟨t, hw, -, ht⟩ := cbuWrite_bcControl hv
      exact order .bcControl h hw ht
    case scCtlOrder =>
      intro h hv hsets
      obtain ⟨t, hw, -, -, ht⟩ := cbuWrite_scCtl hv hsets
      exact order .scCtl h hw ht

end

/-! ### The instructions -/

theorem whenByteWord_enabled {k : State → Result State} {s : State} (h : s.byteWordEnabled = true) : whenByteWord k s = k s := by
  rw [whenByteWord, h, cond_true]

section
variable {ra rb : Reg} {disp : BitVec 16} {s : State}

theorem exec_ldl : exec (.ldl ra rb disp) s =
    load (loadRef 0x28 4 ra rb disp s) (fun m t => (t.writeReg ra (sextLong m)).done) s := rfl

theorem exec_ldq : exec (.ldq ra rb disp) s =
    load (loadRef 0x29 8 ra rb disp s) (fun m t => (t.writeReg ra m).done) s := rfl

theorem exec_ldq_u (hra : ra ≠ 31) : exec (.ldq_u ra rb disp) s =
    load (loadRef 0x0B 8 ra rb disp s).unaligned (fun m t => (t.writeReg ra m).done) s := by
  have h31 : (ra == 31) = false := beq_eq_false_iff_ne.mpr hra
  change execLdqU ra rb disp s = _
  rw [execLdqU, h31, cond_false]

theorem exec_ldl_l : exec (.ldl_l ra rb disp) s =
    loadLocked (lockedRef 0x2A 4 ra rb disp s) (fun m t => (t.writeReg ra (sextLong m)).done) s := rfl

theorem exec_ldq_l : exec (.ldq_l ra rb disp) s =
    loadLocked (lockedRef 0x2B 8 ra rb disp s) (fun m t => (t.writeReg ra m).done) s := rfl

theorem exec_stl : exec (.stl ra rb disp) s =
    store (storeRef 0x2C 4 ra rb disp s) (s.readReg ra) State.done s := rfl

theorem exec_stq : exec (.stq ra rb disp) s =
    store (storeRef 0x2D 8 ra rb disp s) (s.readReg ra) State.done s := rfl

theorem exec_stq_u : exec (.stq_u ra rb disp) s =
    store (storeRef 0x0F 8 ra rb disp s).unaligned (s.readReg ra) State.done s := rfl

theorem exec_stl_c : exec (.stl_c ra rb disp) s =
    storeConditional (storeRef 0x2E 4 ra rb disp s) (s.readReg ra) (fun ok t => (t.writeReg ra (quadOfBool ok)).done) s := rfl

theorem exec_stq_c : exec (.stq_c ra rb disp) s =
    storeConditional (storeRef 0x2F 8 ra rb disp s) (s.readReg ra) (fun ok t => (t.writeReg ra (quadOfBool ok)).done) s := rfl

theorem exec_ldbu (h : s.byteWordEnabled = true) : exec (.ldbu ra rb disp) s =
    load (loadRef 0x0A 1 ra rb disp s) (fun m t => (t.writeReg ra m).done) s := whenByteWord_enabled h

theorem exec_ldwu (h : s.byteWordEnabled = true) : exec (.ldwu ra rb disp) s =
    load (loadRef 0x0C 2 ra rb disp s) (fun m t => (t.writeReg ra m).done) s := whenByteWord_enabled h

theorem exec_stb (h : s.byteWordEnabled = true) : exec (.stb ra rb disp) s =
    store (storeRef 0x0E 1 ra rb disp s) (s.readReg ra) State.done s := whenByteWord_enabled h

theorem exec_stw (h : s.byteWordEnabled = true) : exec (.stw ra rb disp) s =
    store (storeRef 0x0D 2 ra rb disp s) (s.readReg ra) State.done s := whenByteWord_enabled h

theorem exec_ldf (h : s.fpEnabled = true) : exec (.ldf ra rb disp) s =
    load (loadRef 0x20 4 ra rb disp s) (fun m t => (t.writeFreg ra (loadF (m.setWidth 32))).done) s := whenFp_enabled h

theorem exec_ldg (h : s.fpEnabled = true) : exec (.ldg ra rb disp) s =
    load (loadRef 0x21 8 ra rb disp s) (fun m t => (t.writeFreg ra (swapG m)).done) s := whenFp_enabled h

theorem exec_lds (h : s.fpEnabled = true) : exec (.lds ra rb disp) s =
    load (loadRef 0x22 4 ra rb disp s) (fun m t => (t.writeFreg ra (loadS (m.setWidth 32))).done) s := whenFp_enabled h

theorem exec_ldt (h : s.fpEnabled = true) : exec (.ldt ra rb disp) s =
    load (loadRef 0x23 8 ra rb disp s) (fun m t => (t.writeFreg ra m).done) s := whenFp_enabled h

theorem exec_stf (h : s.fpEnabled = true) : exec (.stf ra rb disp) s =
    store (storeRef 0x24 4 ra rb disp s) ((storeF (s.readFreg ra)).setWidth 64) State.done s := whenFp_enabled h

theorem exec_stg (h : s.fpEnabled = true) : exec (.stg ra rb disp) s =
    store (storeRef 0x25 8 ra rb disp s) (swapG (s.readFreg ra)) State.done s := whenFp_enabled h

theorem exec_sts (h : s.fpEnabled = true) : exec (.sts ra rb disp) s =
    store (storeRef 0x26 4 ra rb disp s) ((storeS (s.readFreg ra)).setWidth 64) State.done s := whenFp_enabled h

theorem exec_stt (h : s.fpEnabled = true) : exec (.stt ra rb disp) s =
    store (storeRef 0x27 8 ra rb disp s) (s.readFreg ra) State.done s := whenFp_enabled h

end

section
variable {ra rb : Reg} {phys alt wrtck quad vpte : Bool} {disp : BitVec 10} {s : State}

theorem exec_hwLd (h : s.palOpcodeAllowed = true) : exec (.hw_ld ra rb phys alt wrtck quad vpte false disp) s =
    load (hwLoadRef ra rb phys alt wrtck quad vpte false disp s)
      (fun m t => (t.writeReg ra (bif quad then m else sextLong m)).done) s := by
  change execHwLd ra rb phys alt wrtck quad vpte false disp s = _
  rw [execHwLd, whenPal_allowed h]
  rfl

theorem exec_hwLd_lock (h : s.palOpcodeAllowed = true) : exec (.hw_ld ra rb phys alt wrtck quad vpte true disp) s =
    loadLocked (hwLoadRef ra rb phys alt wrtck quad vpte true disp s)
      (fun m t => (t.writeReg ra (bif quad then m else sextLong m)).done) s := by
  change execHwLd ra rb phys alt wrtck quad vpte true disp s = _
  rw [execHwLd, whenPal_allowed h]
  rfl

theorem exec_hwSt (h : s.palOpcodeAllowed = true) : exec (.hw_st ra rb phys alt false quad false false disp) s =
    store (hwStoreRef ra rb phys alt quad disp s) (s.readReg ra) State.done s := by
  change execHwSt ra rb phys alt false quad false false disp s = _
  rw [execHwSt, whenPal_allowed h]
  rfl

theorem exec_hwSt_cond (h : s.palOpcodeAllowed = true) : exec (.hw_st ra rb phys alt false quad false true disp) s =
    storeConditional (hwStoreRef ra rb phys alt quad disp s) (s.readReg ra)
      (fun ok t => (t.writeReg ra (quadOfBool ok)).done) s := by
  change execHwSt ra rb phys alt false quad false true disp s = _
  rw [execHwSt, whenPal_allowed h]
  rfl

/-- HW_LD of a longword or with LOCK, HW_ST of a longword or with COND. -/
theorem hwReferences_reachNoCbu (hq : s.model.cbuStore = false) (h : s.palOpcodeAllowed = true) :
    (∀ quad lock : Bool, quad = false ∨ lock = true →
      reachesNoCbu s (.hw_ld ra rb phys alt wrtck quad vpte lock disp) (hwLoadRef ra rb phys alt wrtck quad vpte lock disp s)) ∧
    (∀ quad cond : Bool, quad = false ∨ cond = true →
      reachesNoCbu s (.hw_st ra rb phys alt false quad false cond disp) (hwStoreRef ra rb phys alt quad disp s)) := by
  constructor
  · rintro quad (_ | _) form
    · obtain rfl : quad = false := form.resolve_right Bool.false_ne_true
      exact reachesNoCbu_load hq (exec_hwLd h) rfl (DRef.narrow 4 rfl (by decide))
    · exact reachesNoCbu_loadLocked hq (exec_hwLd_lock h) rfl (.inr rfl)
  · rintro quad (_ | _) form
    · obtain rfl : quad = false := form.resolve_right Bool.false_ne_true
      exact reachesNoCbu_store hq (exec_hwSt h) rfl (DRef.narrow 4 rfl (by decide))
    · exact reachesNoCbu_storeConditional hq (exec_hwSt_cond h) rfl

end

/-! ### The obligation -/

theorem hwSize_eq (quad : Bool) : hwSize quad = if quad = true then 8 else 4 := Bool.cond_eq_ite ..

/-- Settles O24: each load and store by its width and its kind, on the rules for what an unlocked quadword reads and writes and
for what reaches no register. -/
theorem cbuRegistersAreReached : Obligations.CbuRegistersAreReached := by
  intro ra rb disp phys alt wrtck vpte offset s hq hwLoad hwStore
  have load_eq (quad lock : Bool) : hwLoad quad lock = hwLoadRef ra rb phys alt wrtck quad vpte lock offset s := by
    rw [hwLoadRef, hwSize_eq]
    rfl
  have store_eq (quad : Bool) : hwStore quad = hwStoreRef ra rb phys alt quad offset s := by
    rw [hwStoreRef, hwSize_eq]
    rfl
  simp only [load_eq, store_eq]
  refine ⟨?ldq, ?ldq_u, ?stq, ?stq_u, ?ldl, ?ldl_l, ?ldq_l, ?stl, ?stl_c, ?stq_c, ?byteWord, ?floating, ?pal⟩
  case ldq => exact readsCbu_load hq exec_ldq (DRef.cbuAccess rfl rfl)
  case ldq_u => exact fun hra => readsCbu_load hq (exec_ldq_u hra) (DRef.cbuAccess rfl rfl)
  case stq => exact writesCbu_store hq exec_stq (DRef.cbuAccess rfl rfl)
  case stq_u => exact writesCbu_store hq exec_stq_u (DRef.cbuAccess rfl rfl)
  case ldl => exact reachesNoCbu_load hq exec_ldl rfl (DRef.narrow 4 rfl (by decide))
  case ldl_l => exact reachesNoCbu_loadLocked hq exec_ldl_l rfl (.inr rfl)
  case ldq_l => exact reachesNoCbu_loadLocked hq exec_ldq_l rfl (.inr rfl)
  case stl => exact reachesNoCbu_store hq exec_stl rfl (DRef.narrow 4 rfl (by decide))
  case stl_c => exact reachesNoCbu_storeConditional hq exec_stl_c rfl
  case stq_c => exact reachesNoCbu_storeConditional hq exec_stq_c rfl
  case byteWord =>
    exact fun h => ⟨reachesNoCbu_load hq (exec_ldbu h) rfl (DRef.narrow 1 rfl (by decide)),
      reachesNoCbu_load hq (exec_ldwu h) rfl (DRef.narrow 2 rfl (by decide)),
      reachesNoCbu_store hq (exec_stb h) rfl (DRef.narrow 1 rfl (by decide)),
      reachesNoCbu_store hq (exec_stw h) rfl (DRef.narrow 2 rfl (by decide))⟩
  case floating =>
    exact fun h => ⟨readsCbu_load hq (exec_ldg h) (DRef.cbuAccess rfl rfl), readsCbu_load hq (exec_ldt h) (DRef.cbuAccess rfl rfl),
      writesCbu_store hq (exec_stg h) (DRef.cbuAccess rfl rfl), writesCbu_store hq (exec_stt h) (DRef.cbuAccess rfl rfl),
      reachesNoCbu_load hq (exec_ldf h) rfl (DRef.narrow 4 rfl (by decide)),
      reachesNoCbu_load hq (exec_lds h) rfl (DRef.narrow 4 rfl (by decide)),
      reachesNoCbu_store hq (exec_stf h) rfl (DRef.narrow 4 rfl (by decide)),
      reachesNoCbu_store hq (exec_sts h) rfl (DRef.narrow 4 rfl (by decide))⟩
  case pal =>
    exact fun h => ⟨readsCbu_load hq (exec_hwLd h) (DRef.cbuAccess rfl rfl),
      writesCbu_store hq (exec_hwSt h) (DRef.cbuAccess rfl rfl), hwReferences_reachNoCbu hq h⟩

end Sys2Proof.Machine

/-! # Translation -/

namespace Sys2Proof.Machine

/-! ### Tests on the address (20_memory.md R304, R318, R320, R321) -/

theorem signCheck_iff (va : Quad) : signCheck va = true ↔ -2 ^ 42 ≤ va.toInt ∧ va.toInt < 2 ^ 42 := by
  have low : ((slice va 0 43).signExtend 64).toInt = va.toInt.bmod (2 ^ 43) := by
    rw [BitVec.toInt_signExtend_of_le (by decide), slice, BitVec.toInt_extractLsb', va.toInt_eq_toNat_bmod,
      Int.bmod_bmod_of_dvd (by decide), Nat.shiftRight_zero]
  rw [signCheck, beq_iff_eq, ← BitVec.toInt_inj, low]
  constructor
  · intro h
    rw [← h]
    exact ⟨Int.le_bmod (by decide), Int.bmod_lt (by decide)⟩
  · rintro ⟨above, below⟩
    exact Int.bmod_eq_of_le above below

theorem signCheck_false {va : Quad} (h : va.toInt < -2 ^ 42 ∨ 2 ^ 42 ≤ va.toInt) : signCheck va = false := by
  rw [Bool.eq_false_iff, Ne, signCheck_iff]
  omega

theorem inSuperpage1_iff (va : Quad) : inSuperpage1 va = true ↔ va.toNat / 2 ^ 41 % 4 = 2 := by
  rw [inSuperpage1, beq_iff_eq, ← BitVec.toNat_inj, slice, toNat_extractLsb']
  rfl

theorem inSuperpage0_iff (va : Quad) : inSuperpage0 va = true ↔ va.toNat / 2 ^ 30 % 2 ^ 13 = 0x1FFE := by
  rw [inSuperpage0, beq_iff_eq, ← BitVec.toNat_inj, slice, toNat_extractLsb']
  rfl

/-- The two superpages have no address in common. -/
theorem inSuperpage1_of_superpage0 {va : Quad} (h : va.toNat / 2 ^ 30 % 2 ^ 13 = 0x1FFE) : inSuperpage1 va = false := by
  rw [Bool.eq_false_iff, Ne, inSuperpage1_iff]
  omega

theorem toNat_clearLow {n : Nat} (v : BitVec n) (k : Nat) : (clearLow v k).toNat = v.toNat / 2 ^ k * 2 ^ k := by
  rw [clearLow, BitVec.toNat_shiftLeft, BitVec.toNat_ushiftRight, Nat.shiftRight_eq_div_pow, Nat.shiftLeft_eq,
    Nat.mod_eq_of_lt (Nat.lt_of_le_of_lt (Nat.div_mul_le_self _ _) v.isLt)]

/-- The lengths of a data reference. -/
theorem two_pow_alignBits {n : Nat} (h : n ∈ [1, 2, 4, 8]) : 2 ^ alignBits n = n := by
  simp only [List.mem_cons, List.not_mem_nil, or_false] at h
  rcases h with rfl | rfl | rfl | rfl <;> rfl

theorem dvd_eight {n : Nat} (h : n ∈ [1, 2, 4, 8]) : n ∣ 8 := by
  simp only [List.mem_cons, List.not_mem_nil, or_false] at h
  rcases h with rfl | rfl | rfl | rfl <;> decide

theorem aligned_iff (va : Quad) {n : Nat} (h : n ∈ [1, 2, 4, 8]) : aligned va n = true ↔ va.toNat % n = 0 := by
  rw [aligned, beq_iff_eq, ← BitVec.toNat_inj, toNat_clearLow, two_pow_alignBits h]
  have parts := Nat.div_add_mod' va.toNat n
  omega

/-! ### Physical addresses (R302, R305, R312, R320, R321) -/

theorem superpage1_eq (va : Quad) : superpage1 va = BitVec.ofNat 40 va.toNat :=
  (slice_eq_ofNat va 0 40).trans (by rw [Nat.pow_zero, Nat.div_one])

theorem superpage0_eq (va : Quad) : superpage0 va = BitVec.ofNat 40 (va.toNat % 2 ^ 30) := by
  rw [superpage0, slice_eq_ofNat, Nat.pow_zero, Nat.div_one]
  apply BitVec.eq_of_toNat_eq
  rw [BitVec.toNat_setWidth, BitVec.toNat_ofNat, BitVec.toNat_ofNat]

/-- The granularity hint makes a page of 8 KB, 64 KB, 512 KB or 4 MB: page frame number and offset, added. -/
theorem pagePa_eq (gh : BitVec 2) (pfn : BitVec 27) (va : Quad) : pagePa gh pfn va =
    BitVec.ofNat 40 (pfn.toNat / 8 ^ gh.toNat * (8192 * 8 ^ gh.toNat) + va.toNat % (8192 * 8 ^ gh.toNat)) := by
  let k := 13 + 3 * gh.toNat
  have page : 2 ^ k = 8192 * 8 ^ gh.toNat := by rw [Nat.pow_add, Nat.pow_mul]
  have small : k ≤ 40 := by
    have lt := gh.isLt
    omega
  have frame : (clearLow (pfn ++ (0 : BitVec 13)) k).toNat = 2 ^ k * (pfn.toNat / 8 ^ gh.toNat) := by
    have wide : (pfn ++ (0 : BitVec 13)).toNat = 8192 * pfn.toNat := by
      rw [BitVec.toNat_append, Nat.shiftLeft_eq, Nat.mul_comm]
      exact Nat.or_zero _
    rw [toNat_clearLow, wide, page, Nat.mul_div_mul_left _ _ (by decide), Nat.mul_comm]
  have offset : (slice va 0 40 - clearLow (slice va 0 40) k).toNat = va.toNat % 2 ^ k := by
    have le : (clearLow (slice va 0 40) k) ≤ slice va 0 40 := by
      rw [BitVec.le_def, toNat_clearLow]
      exact Nat.div_mul_le_self _ _
    rw [BitVec.toNat_sub_of_le le, toNat_clearLow, slice, toNat_extractLsb', Nat.pow_zero, Nat.div_one,
      ← Nat.mod_eq_sub_div_mul, Nat.mod_mod_of_dvd _ (Nat.pow_dvd_pow 2 small)]
  apply BitVec.eq_of_toNat_eq
  have sum : (pagePa gh pfn va).toNat = 2 ^ k * (pfn.toNat / 8 ^ gh.toNat) + va.toNat % 2 ^ k := by
    rw [Nat.two_pow_add_eq_or_of_lt (Nat.mod_lt _ (Nat.two_pow_pos k)), ← frame, ← offset]
    rfl
  rw [BitVec.toNat_ofNat, ← page, Nat.mul_comm _ (2 ^ k), ← sum, Nat.mod_eq_of_lt (BitVec.isLt _)]

/-- The low bits of an address that its reference ignores, or does not have. -/
theorem DRef.paOf_ofNat {r : DRef} (hsize : r.size ∈ [1, 2, 4, 8]) {n : Nat}
    (h : r.hw = true ∨ r.masked = true ∨ n % r.size = 0) :
    r.paOf (BitVec.ofNat 40 n) = BitVec.ofNat 40 (n / r.size * r.size) := by
  unfold DRef.paOf
  cases hm : r.hw || r.masked with
  | true =>
    apply BitVec.eq_of_toNat_eq
    rw [cond_true, toNat_clearLow, two_pow_alignBits hsize, BitVec.toNat_ofNat, BitVec.toNat_ofNat]
    simp only [List.mem_cons, List.not_mem_nil, or_false] at hsize
    rcases hsize with hn | hn | hn | hn <;> rw [hn] <;> omega
  | false =>
    obtain ⟨hw, masked⟩ := Bool.or_eq_false_iff.mp hm
    have whole : n % r.size = 0 := by simpa [hw, masked] using h
    rw [cond_false, Nat.div_mul_cancel (Nat.dvd_of_mod_eq_zero whole)]

/-- What a big-endian longword access changes in its address. -/
theorem State.bigEndianPa_eq (s : State) (n : Nat) (pa : PAddr) :
    s.bigEndianPa n pa = pa ^^^ (if s.mtu.mcsr.getLsbD 0 = true ∧ n = 4 then 4 else 0) := by
  simp only [State.bigEndianPa, Bool.cond_eq_ite, Bool.and_eq_true, beq_iff_eq]
  split
  · rfl
  · exact BitVec.xor_zero.symm

/-! ### The data translation buffer -/

theorem State.mem_dtbHits {s : State} {va : Quad} {p : DtbPte} :
    p ∈ s.dtbHits va ↔ ∃ e ∈ s.mtu.dtb, s.dtbMaps va e ∧ e.pte = p := by
  simp only [State.dtbHits, List.mem_map, List.mem_filter, DtbEntry.hits_iff, and_assoc]

theorem State.dtbHits_nil {s : State} {va : Quad} (h : ∀ e ∈ s.mtu.dtb, ¬s.dtbMaps va e) : s.dtbHits va = [] := by
  refine List.eq_nil_iff_forall_not_mem.mpr fun p hp => ?_
  obtain ⟨e, he, maps, -⟩ := State.mem_dtbHits.mp hp
  exact h e he maps

/-- The reference lies in superpage 1, or in superpage 0, as `State.translateVirtual` asks it. -/
def State.dataSuperpage1 (s : State) (r : DRef) : Bool :=
  signCheck r.va && s.dataMode r == 0 && s.mtu.mcsr.getLsbD 2 && inSuperpage1 r.va

def State.dataSuperpage0 (s : State) (r : DRef) : Bool :=
  signCheck r.va && s.dataMode r == 0 && s.mtu.mcsr.getLsbD 1 && inSuperpage0 r.va

section
variable {s : State} {r : DRef}

theorem State.dataSuperpage_iff (hc : signCheck r.va = true) :
    (s.dataSuperpage1 r || s.dataSuperpage0 r) = true ↔ s.inDataSuperpage r := by
  simp only [State.dataSuperpage1, State.dataSuperpage0, hc, Bool.true_and, Bool.or_eq_true, Bool.and_eq_true, beq_iff_eq,
    inSuperpage1_iff, inSuperpage0_iff, State.inDataSuperpage, and_assoc, and_or_left]

theorem State.dataSuperpage_false (hc : signCheck r.va = true) (h : ¬s.inDataSuperpage r) :
    s.dataSuperpage1 r = false ∧ s.dataSuperpage0 r = false := by
  rwa [← State.dataSuperpage_iff hc, Bool.not_eq_true, Bool.or_eq_false_iff] at h

/-! ### The order of the checks (R327) -/

theorem State.translateVirtual_nil (h : s.dtbHits r.va = []) : s.translateVirtual r =
    bif signCheck r.va && !s.dataSuperpage1 r && !s.dataSuperpage0 r then
      .trap (bif r.vpte then .dtbmissDouble else .dtbmissSingle) { dtbMiss := true, wr := r.write }
    else afterMiss r (.ok (bif s.dataSuperpage1 r then superpage1 r.va else superpage0 r.va)) := by
  rw [State.translateVirtual, h]
  rfl

theorem State.translateVirtual_cons {p : DtbPte} {rest : List DtbPte} (h : s.dtbHits r.va = p :: rest) :
    s.translateVirtual r = afterMiss r
      (bif s.dataSuperpage1 r || s.dataSuperpage0 r || rest.any (· != p) then .multiple
       else checkDtb r (s.dataMode r) p) := by
  rw [State.translateVirtual, h]
  rfl

/-- A reference misses the DTB, or goes on to the other checks. -/
theorem State.translateVirtual_cases (s : State) (r : DRef) :
    (∃ e c, s.translateVirtual r = .trap e c ∧ (e = .dtbmissSingle ∨ e = .dtbmissDouble)) ∨
      ∃ k, s.translateVirtual r = afterMiss r k := by
  cases hits : s.dtbHits r.va with
  | cons p rest => exact .inr ⟨_, State.translateVirtual_cons hits⟩
  | nil =>
    rw [State.translateVirtual_nil hits]
    cases signCheck r.va && !s.dataSuperpage1 r && !s.dataSuperpage0 r with
    | false => exact .inr ⟨_, rfl⟩
    | true =>
      refine .inl ⟨_, _, rfl, ?_⟩
      cases r.vpte
      · exact .inl rfl
      · exact .inr rfl

/-- The reference has low address bits that are ignored, or none. -/
theorem alignmentCheck_passes (hsize : r.size ∈ [1, 2, 4, 8]) (h : r.hw = true ∨ r.masked = true ∨ r.va.toNat % r.size = 0) :
    (!r.hw && !r.masked && !aligned r.va r.size) = false := by
  rw [← aligned_iff r.va hsize] at h
  rcases h with h | h | h <;> simp [h]

theorem afterMiss_unalign (hsize : r.size ∈ [1, 2, 4, 8]) (hw : r.hw = false) (masked : r.masked = false)
    (h : r.va.toNat % r.size ≠ 0) (k : Translation) : afterMiss r k = .trap .unalign { wr := r.write } := by
  rw [Ne, ← aligned_iff r.va hsize, Bool.not_eq_true] at h
  rw [afterMiss, hw, masked, h]
  rfl

theorem afterMiss_badVa (hsize : r.size ∈ [1, 2, 4, 8]) (h : r.hw = true ∨ r.masked = true ∨ r.va.toNat % r.size = 0)
    (hc : signCheck r.va = false) (k : Translation) :
    afterMiss r k = .trap .dfault { badVa := true, acv := true, wr := r.write } := by
  rw [afterMiss, alignmentCheck_passes hsize h, hc]
  rfl

theorem afterMiss_good (hsize : r.size ∈ [1, 2, 4, 8]) (h : r.hw = true ∨ r.masked = true ∨ r.va.toNat % r.size = 0)
    (hc : signCheck r.va = true) (k : Translation) : afterMiss r k = k := by
  rw [afterMiss, alignmentCheck_passes hsize h, hc]
  rfl

theorem State.translate_trap (hp : r.phys = false) {e : Entry} {c : MmCause} (h : s.translateVirtual r = .trap e c) :
    s.translate r = .trap e c := by
  rw [State.translate, hp, h]
  rfl

theorem State.translate_multiple (hp : r.phys = false) (h : s.translateVirtual r = .multiple) : s.translate r = .multiple := by
  rw [State.translate, hp, h]
  rfl

/-- The physical address of a virtual reference, from the one that its page gives. -/
theorem State.translate_ok (hp : r.phys = false) (hsize : r.size ∈ [1, 2, 4, 8]) {n : Nat}
    (whole : r.hw = true ∨ r.masked = true ∨ n % r.size = 0) (h : s.translateVirtual r = .ok (BitVec.ofNat 40 n)) :
    s.translate r = .ok (BitVec.ofNat 40 (n / r.size * r.size) ^^^
      (if s.mtu.mcsr.getLsbD 0 = true ∧ r.size = 4 then 4 else 0)) := by
  rw [State.translate, hp, h, cond_false]
  dsimp only
  rw [r.paOf_ofNat hsize whole, State.bigEndianPa_eq]

/-! ### Pages that are mapped -/

theorem State.dtbHits_of_all {p : DtbPte} (some : ∃ e ∈ s.mtu.dtb, s.dtbMaps r.va e)
    (all : ∀ e ∈ s.mtu.dtb, s.dtbMaps r.va e → e.pte = p) :
    ∃ rest, s.dtbHits r.va = p :: rest ∧ rest.any (· != p) = false := by
  have same : ∀ q ∈ s.dtbHits r.va, q = p := fun q hq => by
    obtain ⟨e, he, maps, rfl⟩ := State.mem_dtbHits.mp hq
    exact all e he maps
  obtain ⟨e, he, maps⟩ := some
  have found := State.mem_dtbHits.mpr ⟨e, he, maps, rfl⟩
  cases hits : s.dtbHits r.va with
  | nil => rw [hits] at found; cases found
  | cons q rest =>
    rw [hits, List.forall_mem_cons] at same
    obtain ⟨rfl, others⟩ := same
    refine ⟨rest, rfl, ?_⟩
    rw [List.any_eq_false]
    intro x hx
    simp [others x hx]

/-- Entries that differ, or an entry beside a superpage. -/
theorem State.translateVirtual_multiple (hc : signCheck r.va = true) (hsize : r.size ∈ [1, 2, 4, 8])
    (whole : r.hw = true ∨ r.masked = true ∨ r.va.toNat % r.size = 0) {d e : DtbEntry} (hd : d ∈ s.mtu.dtb)
    (he : e ∈ s.mtu.dtb) (dmaps : s.dtbMaps r.va d) (emaps : s.dtbMaps r.va e)
    (twice : d.pte ≠ e.pte ∨ s.inDataSuperpage r) : s.translateVirtual r = .multiple := by
  have dhits := State.mem_dtbHits.mpr ⟨d, hd, dmaps, rfl⟩
  have ehits := State.mem_dtbHits.mpr ⟨e, he, emaps, rfl⟩
  cases hits : s.dtbHits r.va with
  | nil => rw [hits] at dhits; cases dhits
  | cons p rest =>
    have any : (s.dataSuperpage1 r || s.dataSuperpage0 r || rest.any (· != p)) = true := by
      rw [Bool.or_eq_true, State.dataSuperpage_iff hc]
      refine twice.symm.imp_right fun differ => ?_
      by_contra agree
      have same : ∀ q ∈ p :: rest, q = p := by simpa using agree
      rw [hits] at dhits ehits
      exact differ ((same _ dhits).trans (same _ ehits).symm)
    rw [State.translateVirtual_cons hits, afterMiss_good hsize whole hc, any, cond_true]

end

/-! ### Data references: the obligations -/

/-- Settles O25: nothing hits, and no superpage has the address. -/
theorem unmappedReferencesMiss : Obligations.UnmappedReferencesMiss := by
  intro s r hp above below none outside
  have hc := (signCheck_iff r.va).mpr ⟨above, below⟩
  obtain ⟨not1, not0⟩ := State.dataSuperpage_false hc outside
  apply State.translate_trap hp
  rw [State.translateVirtual_nil (State.dtbHits_nil none), hc, not1, not0, Bool.cond_eq_ite r.vpte]
  rfl

/-- Settles O26: a reference that does not miss meets the alignment check and then the sign check. -/
theorem misalignedAndBadAddressesTrap : Obligations.MisalignedAndBadAddressesTrap := by
  intro s r hp hsize noMiss
  have checked : ∃ k, s.translateVirtual r = afterMiss r k := by
    refine (s.translateVirtual_cases r).resolve_left ?_
    rintro ⟨e, c, trap, miss⟩
    obtain ⟨notSingle, notDouble⟩ := noMiss e c (State.translate_trap hp trap)
    exact miss.elim notSingle notDouble
  obtain ⟨k, hk⟩ := checked
  refine ⟨fun hw masked odd => ?_, fun whole bad => ?_⟩
  · exact State.translate_trap hp (hk.trans (afterMiss_unalign hsize hw masked odd k))
  · exact State.translate_trap hp (hk.trans (afterMiss_badVa hsize whole (signCheck_false bad) k))

/-- Settles O27: the superpages and PHYS by the addresses they give. -/
theorem superpageAndPhysicalReferences : Obligations.SuperpageAndPhysicalReferences := by
  intro s r hsize swap
  refine ⟨fun phys ignored => ?_, fun hp whole above below kernel none => ?_⟩
  · have low : r.hw = true ∨ r.masked = true ∨ r.va.toNat % r.size = 0 := ignored.imp_right .inl
    rw [State.translate, phys, superpage1_eq, r.paOf_ofNat hsize low, State.bigEndianPa_eq]
    rfl
  · have hc := (signCheck_iff r.va).mpr ⟨above, below⟩
    have virtual (sp : (s.dataSuperpage1 r || s.dataSuperpage0 r) = true) : s.translateVirtual r =
        .ok (bif s.dataSuperpage1 r then superpage1 r.va else superpage0 r.va) := by
      rw [State.translateVirtual_nil (State.dtbHits_nil none), Bool.and_assoc, ← Bool.not_or, sp, Bool.not_true, Bool.and_false,
        cond_false, afterMiss_good hsize whole hc]
    refine ⟨fun on pattern => ?_, fun on pattern => ?_⟩
    · have sp1 : s.dataSuperpage1 r = true := by
        rw [State.dataSuperpage1, hc, kernel, on, (inSuperpage1_iff _).mpr pattern]
        rfl
      refine State.translate_ok hp hsize whole ((virtual ?_).trans ?_)
      · rw [sp1, Bool.true_or]
      · rw [sp1, cond_true, superpage1_eq]
    · have sp1 : s.dataSuperpage1 r = false := by
        rw [State.dataSuperpage1, inSuperpage1_of_superpage0 pattern, Bool.and_false]
      have sp0 : s.dataSuperpage0 r = true := by
        rw [State.dataSuperpage0, hc, kernel, on, (inSuperpage0_iff _).mpr pattern]
        rfl
      have low : r.hw = true ∨ r.masked = true ∨ r.va.toNat % 2 ^ 30 % r.size = 0 := by
        rwa [Nat.mod_mod_of_dvd _ ((dvd_eight hsize).trans (by decide))]
      refine State.translate_ok hp hsize low ((virtual ?_).trans ?_)
      · rw [sp0, Bool.or_true]
      · rw [sp1, cond_false, superpage0_eq]

/-- Settles O28: the entries that hit agree, and their page is checked; or they do not, and the reference stops. -/
theorem mappedReferencesAreChecked : Obligations.MappedReferencesAreChecked := by
  intro s r hp hsize whole above below
  have hc := (signCheck_iff r.va).mpr ⟨above, below⟩
  refine ⟨?_, fun d hd e he dmaps emaps twice => ?_⟩
  · intro p some all outside mode denied onRead onWrite page pa swap
    obtain ⟨rest, hits, same⟩ := State.dtbHits_of_all some all
    obtain ⟨not1, not0⟩ := State.dataSuperpage_false hc outside
    have virtual : s.translateVirtual r = bif denied || onRead || onWrite then
        .trap .dfault { acv := denied, for_ := onRead, fow := onWrite, wr := r.write } else .ok (pagePa p.gh p.pfn r.va) := by
      rw [State.translateVirtual_cons hits, afterMiss_good hsize whole hc, not1, not0, same]
      show checkDtb r (s.dataMode r) p = _
      rw [checkDtb, Bool.cond_eq_ite r.write]
      rfl
    refine ⟨fun allowed read written => ?_, fun stopped => ?_⟩
    · have low : r.hw = true ∨ r.masked = true ∨
          (p.pfn.toNat / 8 ^ p.gh.toNat * page + r.va.toNat % page) % r.size = 0 := by
        obtain ⟨k, hk⟩ : r.size ∣ page := ((dvd_eight hsize).trans (by decide)).mul_right _
        rwa [hk, Nat.mul_left_comm, Nat.mul_add_mod, Nat.mod_mul_right_mod]
      rw [allowed, read, written, pagePa_eq] at virtual
      exact State.translate_ok hp hsize low virtual
    · have stops : (denied || onRead || onWrite) = true := by simpa [or_assoc] using stopped
      rw [stops] at virtual
      exact State.translate_trap hp virtual
  · have twiceMapped := State.translate_multiple hp (State.translateVirtual_multiple hc hsize whole hd he dmaps emaps twice)
    refine ⟨twiceMapped, fun k => ?_⟩
    rw [translated, twiceMapped]

/-! ### Instruction fetch (R326) -/

/-- The fetch address lies in superpage 1, or in superpage 0, as `State.translateFetch` asks it. -/
def State.fetchSuperpage1 (s : State) (va : Quad) : Bool := s.kernel && s.icsrBit 29 && inSuperpage1 va

def State.fetchSuperpage0 (s : State) (va : Quad) : Bool := s.kernel && s.icsrBit 28 && inSuperpage0 va

section
variable {s : State} {va : Quad}

theorem State.fetchSuperpage_iff : (s.fetchSuperpage1 va || s.fetchSuperpage0 va) = true ↔ s.inFetchSuperpage va := by
  simp only [State.fetchSuperpage1, State.fetchSuperpage0, State.kernel, State.icsrBit, bit, Bool.or_eq_true, Bool.and_eq_true,
    beq_iff_eq, inSuperpage1_iff, inSuperpage0_iff, State.inFetchSuperpage, and_assoc, and_or_left]

theorem State.fetchSuperpage_false (h : ¬s.inFetchSuperpage va) :
    s.fetchSuperpage1 va = false ∧ s.fetchSuperpage0 va = false := by
  rwa [← State.fetchSuperpage_iff, Bool.not_eq_true, Bool.or_eq_false_iff] at h

theorem ItbEntry.filter_hits_nil {l : List ItbEntry} :
    l.filter (ItbEntry.hits s.idu.itbAsn (vpnOf va)) = [] ↔ ∀ e ∈ l, ¬s.itbMaps va e := by
  simp only [List.filter_eq_nil_iff, ItbEntry.hits_iff]

theorem State.itbHits_nil (h : ∀ e ∈ s.idu.itb, ¬s.itbMaps va e) : s.itbHits va = [] :=
  congrArg (List.map _) (ItbEntry.filter_hits_nil.mpr h)

/-- The entries that hit, on both sides of one of them. -/
theorem State.itbHits_split {before rest : List ItbEntry} {e : ItbEntry} (h : s.idu.itb = before ++ e :: rest)
    (maps : s.itbMaps va e) : s.itbHits va =
      (before.filter (ItbEntry.hits s.idu.itbAsn (vpnOf va))).map (·.pte) ++
        e.pte :: (rest.filter (ItbEntry.hits s.idu.itbAsn (vpnOf va))).map (·.pte) := by
  rw [State.itbHits, h, List.filter_append, List.filter_cons_of_pos ((e.hits_iff s va).mpr maps), List.map_append, List.map_cons]

theorem State.translateFetch_nil (hc : signCheck va = true) (h : s.itbHits va = []) : s.translateFetch va =
    bif s.fetchSuperpage1 va then .ok (superpage1 va) else bif s.fetchSuperpage0 va then .ok (superpage0 va) else .itbmiss := by
  rw [State.translateFetch, hc, h]
  rfl

theorem State.translateFetch_cons (hc : signCheck va = true) {p : ItbPte} {rest : List ItbPte} (h : s.itbHits va = p :: rest) :
    s.translateFetch va =
      bif s.fetchSuperpage1 va || s.fetchSuperpage0 va || !rest.isEmpty then .multiple
      else bif !modeBit p.re s.idu.icm then .iaccvio true
      else .ok (pagePa p.gh p.pfn va) := by
  rw [State.translateFetch, hc, h]
  rfl

theorem State.translateFetch_one (hc : signCheck va = true) {before rest : List ItbEntry} {e : ItbEntry}
    (h : s.idu.itb = before ++ e :: rest) (maps : s.itbMaps va e) (others : ∀ x ∈ before ++ rest, ¬s.itbMaps va x)
    (outside : ¬s.inFetchSuperpage va) : s.translateFetch va =
      bif !modeBit e.pte.re s.idu.icm then .iaccvio true else .ok (pagePa e.pte.gh e.pte.pfn va) := by
  obtain ⟨noneBefore, noneAfter⟩ := List.forall_mem_append.mp others
  have one : s.itbHits va = [e.pte] := by
    rw [State.itbHits_split h maps, ItbEntry.filter_hits_nil.mpr noneBefore, ItbEntry.filter_hits_nil.mpr noneAfter]
    rfl
  obtain ⟨not1, not0⟩ := State.fetchSuperpage_false outside
  rw [State.translateFetch_cons hc one, not1, not0]
  rfl

/-- Another entry that hits, or a superpage. -/
theorem State.translateFetch_multiple (hc : signCheck va = true) {before rest : List ItbEntry} {e : ItbEntry}
    (h : s.idu.itb = before ++ e :: rest) (maps : s.itbMaps va e)
    (twice : (∃ x ∈ before ++ rest, s.itbMaps va x) ∨ s.inFetchSuperpage va) : s.translateFetch va = .multiple := by
  have split := State.itbHits_split h maps
  cases hits : s.itbHits va with
  | nil => simp [hits] at split
  | cons p tail =>
    have any : (s.fetchSuperpage1 va || s.fetchSuperpage0 va || !tail.isEmpty) = true := by
      rw [Bool.or_eq_true, State.fetchSuperpage_iff]
      refine twice.symm.imp_right fun another => ?_
      rw [Bool.not_eq_true', List.isEmpty_eq_false_iff]
      rintro rfl
      have count := congrArg List.length (hits.symm.trans split)
      simp only [List.length_append, List.length_cons, List.length_map, List.length_nil] at count
      have none : before.filter (ItbEntry.hits s.idu.itbAsn (vpnOf va)) = [] ∧
          rest.filter (ItbEntry.hits s.idu.itbAsn (vpnOf va)) = [] := by
        rw [← List.length_eq_zero_iff, ← List.length_eq_zero_iff]
        omega
      rw [ItbEntry.filter_hits_nil, ItbEntry.filter_hits_nil] at none
      obtain ⟨x, hx, hits⟩ := another
      exact List.forall_mem_append.mpr none x hx hits
    rw [State.translateFetch_cons hc hits, any, cond_true]

end

/-- Settles O29: the sign check, then no entry, one entry, or more. -/
theorem fetchTranslation : Obligations.FetchTranslation := by
  refine fun s va => ⟨fun bad => ?_, fun above below => ?_⟩
  · rw [State.translateFetch, signCheck_false bad]
    rfl
  · have hc := (signCheck_iff va).mpr ⟨above, below⟩
    refine ⟨fun none => ?_, fun before e rest h maps => ⟨fun others outside => ?_, State.translateFetch_multiple hc h maps⟩⟩
    · rw [State.translateFetch_nil hc (State.itbHits_nil none)]
      have kernel (icm : s.idu.icm = 0) : s.kernel = true := beq_iff_eq.mpr icm
      refine ⟨fun icm on pattern => ?_, fun icm on pattern => ?_, fun outside => ?_⟩
      · have sp1 : s.fetchSuperpage1 va = true := by
          rw [State.fetchSuperpage1, kernel icm, State.icsrBit, bit, on, (inSuperpage1_iff va).mpr pattern]
          rfl
        rw [sp1, cond_true, superpage1_eq]
      · have sp1 : s.fetchSuperpage1 va = false := by
          rw [State.fetchSuperpage1, inSuperpage1_of_superpage0 pattern, Bool.and_false]
        have sp0 : s.fetchSuperpage0 va = true := by
          rw [State.fetchSuperpage0, kernel icm, State.icsrBit, bit, on, (inSuperpage0_iff va).mpr pattern]
          rfl
        rw [sp1, sp0, cond_false, cond_true, superpage0_eq]
      · obtain ⟨not1, not0⟩ := State.fetchSuperpage_false outside
        rw [not1, not0]
        rfl
    · rw [State.translateFetch_one hc h maps others outside, modeBit]
      refine ⟨fun denied => ?_, fun allowed => ?_⟩
      · rw [denied]
        rfl
      · rw [allowed, pagePa_eq]
        rfl

end Sys2Proof.Machine

/-! # Other agents -/

namespace Sys2Proof.Machine

/-! ### Blocks in the Scache -/

theorem ScLine.sub_onBlock (c : CacheCfg) (a : Nat) (f : SubBlock → SubBlock) (l : ScLine) :
    (l.onBlock c a f).sub a = f (l.sub a) := by
  unfold ScLine.onBlock ScLine.sub
  cases c.blockSize == 64 <;> cases a / 32 % 2 == 1 <;> rfl

theorem ScLine.covers_onBlock (c : CacheCfg) (a : Nat) (f : SubBlock → SubBlock) (l : ScLine) :
    (l.onBlock c a f).covers c a = l.covers c a := by
  unfold ScLine.onBlock
  cases c.blockSize == 64 <;> cases a / 32 % 2 == 1 <;> rfl

/-- Of a configuration only the enabled sets decide which lines hold an address. -/
theorem ScLine.holds_congr {c d : CacheCfg} (h : c.sets = d.sets) (a : Nat) (l : ScLine) : l.holds c a = l.holds d a := by
  rw [ScLine.holds, ScLine.holds, ScLine.covers, ScLine.covers, h]

theorem Caches.scFind_congr {c d : CacheCfg} (sets : c.sets = d.sets) {m n : Caches} (scache : m.scache = n.scache) (a : Nat) :
    m.scFind c a = n.scFind d a := by
  rw [Caches.scFind, Caches.scFind, scache, funext (ScLine.holds_congr sets a)]

/-- A line after a change of the block of an address. -/
theorem Caches.mem_onBlock {c : CacheCfg} {a : Nat} {f : SubBlock → SubBlock} {m : Caches} {l : ScLine}
    (hl : l ∈ (m.onBlock c a f).scache) (holds : l.holds c a = true) :
    ∃ k ∈ m.scache, k.holds c a = true ∧ l.sub a = f (k.sub a) := by
  obtain ⟨k, hk, rfl⟩ := List.mem_map.mp hl
  cases hold : k.holds c a with
  | true =>
    rw [cond_true, ScLine.sub_onBlock]
    exact ⟨k, hk, hold, rfl⟩
  | false =>
    rw [hold, cond_false, hold] at holds
    cases holds

theorem Caches.scFind_remove (c : CacheCfg) (a : Nat) (m : Caches) : (m.remove c a).scFind c a = none := by
  refine List.find?_eq_none.mpr fun l hl holds => ?_
  obtain ⟨k, -, -, invalid⟩ := Caches.mem_onBlock hl holds
  rw [ScLine.holds, invalid] at holds
  exact Bool.false_ne_true ((Bool.and_false _).symm.trans holds)

theorem Caches.markBcache_scache (c : CacheCfg) (a : Nat) (valid shared dirty written : Bool) (m : Caches) :
    (m.markBcache c a valid shared dirty written).scache = m.scache := by
  have kept (off same : Bool) (lost : Longs) (entry : BcLine) :
      (bif off then m
       else
        let m' := bif same then m else m.poisonLongs lost
        { m' with bcache := putBcLine entry m'.bcache }).scache = m.scache := by
    cases off <;> cases same <;> rfl
  exact kept _ _ _ _

theorem Caches.answered_scache (c : CacheCfg) (dirtyOnly : Bool) (a : Nat) (m : Caches) :
    (m.answered c dirtyOnly a).scache = m.scache := by
  obtain ⟨l, h⟩ := m.answered_eq c dirtyOnly a
  rw [h]

theorem Caches.giveUp_scache (c : CacheCfg) (a : Nat) (m : Caches) : (m.giveUp c a).scache = (m.remove c a).scache := by
  unfold Caches.giveUp
  cases m.dirtyAnywhere c a <;> rfl

theorem Caches.scFind_giveUp (c : CacheCfg) (a : Nat) (m : Caches) : (m.giveUp c a).scFind c a = none :=
  (Caches.scFind_congr rfl (m.giveUp_scache c a) a).trans (m.scFind_remove c a)

theorem Caches.scFind_dropBlock (c : CacheCfg) (a : Nat) (m : Caches) : (m.dropBlock c a).scFind c a = none :=
  (Caches.scFind_congr rfl (Caches.markBcache_scache ..) a).trans (m.scFind_giveUp c a)

theorem Caches.scFind_takeBlock (c : CacheCfg) (a : Nat) (m : Caches) : (m.takeBlock c a).scFind c a = none :=
  Caches.scFind_dropBlock c a _

theorem Caches.scFind_flushBlock (c : CacheCfg) (a : Nat) (m : Caches) : (m.flushBlock c a).scFind c a = none := by
  unfold Caches.flushBlock
  dsimp only
  cases c.bcSize == 0 || (m.bcLine c a).hit c a with
  | true => rw [cond_true, Caches.scFind_dropBlock]
  | false => rw [cond_false, Caches.scFind_giveUp]

/-! ### Blocks that become shared (21_external_interface.md R415) -/

/-- `n` holds the block of an address if `m` does, and holds it shared. -/
def Caches.SharedIn (c : CacheCfg) (a : Nat) (m n : Caches) : Prop :=
  (n.scFind c a).isSome = (m.scFind c a).isSome ∧ ∀ l ∈ n.scache, l.holds c a = true → (l.sub a).shared = true

theorem Caches.sharedIn_onBlock {c : CacheCfg} {a : Nat} {f : SubBlock → SubBlock} {m m' n : Caches}
    (valid : ∀ b, (f b).valid = b.valid) (shared : ∀ b, (f b).shared = true) (before : m'.scache = m.scache)
    (after : n.scache = (m'.onBlock c a f).scache) : m.SharedIn c a n := by
  have holds (l : ScLine) : (bif l.holds c a then l.onBlock c a f else l).holds c a = l.holds c a := by
    cases hold : l.holds c a with
    | false => exact hold
    | true => rwa [cond_true, ScLine.holds, ScLine.covers_onBlock, ScLine.sub_onBlock, valid]
  refine ⟨?_, fun l hl hold => ?_⟩
  · rw [Caches.scFind, after, Caches.onBlock, List.find?_map, Option.isSome_map, before, Caches.scFind]
    exact congrArg (fun p => (m.scache.find? p).isSome) (funext holds)
  · rw [after] at hl
    obtain ⟨k, -, -, sub⟩ := Caches.mem_onBlock hl hold
    rw [sub, shared]

theorem Caches.setShared_sharedIn (c : CacheCfg) (a : Nat) (m : Caches) : m.SharedIn c a (m.setShared c a) := by
  refine Caches.sharedIn_onBlock (f := fun b => { b with shared := true }) (fun _ => rfl) (fun _ => rfl) ?_
    (Caches.markBcache_scache ..)
  cases c.bcSize == 0 <;> rfl

theorem Caches.readDirty_sharedIn (c : CacheCfg) (a : Nat) (m : Caches) : m.SharedIn c a (m.readDirty c a) := by
  refine Caches.sharedIn_onBlock (f := fun b => { b with shared := true, dirty := b.dirty && !c.keepClean }) (fun _ => rfl)
    (fun _ => rfl) ?_ (Caches.markBcache_scache ..)
  cases c.keepClean with
  | true => exact m.answered_scache c false a
  | false => cases c.bcSize == 0 <;> rfl

/-! ### The locked block (20_memory.md R352 b; 13_state_cbu_iprs.md R243) -/

/-- Bytes in a block, by SC_CTL<SC_BLK_SIZE>. -/
def State.blockBytes (s : State) : Nat := if s.cbu.scCtl.getLsbD 12 = true then 64 else 32

theorem State.sameBlock_eq (s : State) (a b : PAddr) :
    s.sameBlock a b = decide (a.toNat / s.blockBytes = b.toNat / s.blockBytes) := by
  have size : s.cacheCfg.blockSize = s.blockBytes := Bool.cond_eq_ite ..
  have pos : s.blockBytes ≠ 0 := by
    unfold State.blockBytes
    split <;> decide
  rw [State.sameBlock, State.block, State.block, CacheCfg.block, CacheCfg.block, size, ← Bool.beq_eq_decide_eq, Bool.eq_iff_iff,
    beq_iff_eq, beq_iff_eq, Nat.mul_left_inj pos]

theorem State.probed_eq (s : State) (a : PAddr) :
    s.probed a = { s with lockFlag := s.lockFlag && !s.sameBlock a s.lockPa } := by
  unfold State.probed
  cases s.sameBlock a s.lockPa with
  | true => rw [Bool.not_true, Bool.and_false]; rfl
  | false => rw [Bool.not_false, Bool.and_true]; rfl

/-! ### Commands (R416, R418, R421) -/

theorem State.inScache_eq {s t : State} (h : t.cbu = s.cbu) (a : PAddr) :
    t.inScache a = (t.memsys.caches.scFind s.cacheCfg a.toNat).isSome := by
  have sets : t.cacheCfg.sets = s.cacheCfg.sets := congrArg (fun c : Cbu => c.scCtl.extractLsb' 13 3) h
  rw [State.inScache, Caches.scFind_congr sets rfl]

section
variable {s : State} {code : BitVec 4} {a : PAddr}

/-- A command with good parity is carried out. -/
theorem command_next {parity : Bool} (quiet : s.model.cbuQuiet = false) (hears : s.model.deaf = false)
    (good : oddParity code a parity) : handleEvent (.systemCommand code a parity) s =
      andThen (s.command code a) fun t => .next (t.afterCommand false code) := by
  rw [handleEvent, quiet, (commandParityOk_iff code a parity).mpr good, State.commandHeard, hears]
  rfl

theorem afterCommand_good {t : State} (h : t.model.deaf = false) : t.afterCommand false code = t := by
  have same : { t.model with deaf := false } = t.model := by rw [← h]
  exact congrArg (fun k => { t with model := k }) same

/-- A probe of the system, of the Bcache too or not: what it shows, and what it posts. -/
theorem Caches.probe_seeBcache (c : CacheCfg) (op : ScacheOp) (reads bcache : Bool) (a : Nat) (m : Caches) :
    ∃ p sc bc, (bif bcache then (m.probe c op reads a).seeBcache c false true a else m.probe c op reads a) =
      { m with posted := p, scSeen := sc, bcSeen := bc } := by
  obtain ⟨l, found, -⟩ := (m.see c a).found_eq c op ((m.see c a).tagErrors c a) reads a
  have probed : m.probe c op reads a = (m.see c a).post l := found
  rw [probed]
  cases bcache
  · exact ⟨_, _, _, rfl⟩
  · exact ⟨_, _, _, rfl⟩

/-- An answer and the probe that comes with it: what is driven, what the probe has shown, and what it has posted. -/
theorem State.answer_probeSeen (s : State) (present data reads bcache : Bool) (r : Answer) (op : ScacheOp) (a : PAddr) :
    ∃ m : Caches, (s.answer present data r a).probeSeen op reads bcache a = s.onCaches (fun _ => m) ∧
      m.bus.response = BitVec.ofBool present ++ r.code ∧
      { m with
        bus := s.memsys.caches.bus
        driven := s.memsys.caches.driven
        posted := s.memsys.caches.posted
        scSeen := s.memsys.caches.scSeen
        bcSeen := s.memsys.caches.bcSeen } = s.memsys.caches := by
  obtain ⟨p, sc, bc, probed⟩ := Caches.probe_seeBcache s.cacheCfg op reads (bcache && s.cbu.bcOn) a.toNat
    (s.answer present data r a).memsys.caches
  exact ⟨_, congrArg (fun m => s.onCaches fun _ => m) probed, rfl, rfl⟩

/-- The block of an address is not in the Scache, the lock flag is clear if it is the locked block, and otherwise only memory,
what lies behind it and the model's own fields differ. -/
def BlockRemoved (s : State) (a : PAddr) (t : State) : Prop :=
  t.inScache a = false ∧
    t.lockFlag = (s.lockFlag && !decide (a.toNat / s.blockBytes = s.lockPa.toNat / s.blockBytes)) ∧
    { t with lockFlag := s.lockFlag, mem := s.mem, memsys := s.memsys, model := s.model } = s

/-- Once the block has left the Scache, the command clears its lock. -/
theorem blockRemoved_probed {u : State} (frame : { u with mem := s.mem, memsys := s.memsys, model := s.model } = s)
    (gone : u.memsys.caches.scFind s.cacheCfg a.toNat = none) : BlockRemoved s a ((u.probed a).afterCommand false code) := by
  have flag : u.lockFlag = s.lockFlag := (congrArg State.lockFlag frame :)
  have pa : u.lockPa = s.lockPa := (congrArg State.lockPa frame :)
  have cbu : u.cbu = s.cbu := (congrArg State.cbu frame :)
  have lock : (u.lockFlag && !u.sameBlock a u.lockPa) =
      (s.lockFlag && !decide (a.toNat / s.blockBytes = s.lockPa.toNat / s.blockBytes)) := by
    rw [State.sameBlock_eq, flag, pa, State.blockBytes, cbu, ← State.blockBytes]
  rw [State.probed_eq, lock]
  refine ⟨?_, rfl, (congrArg (fun x : State => { x with lockFlag := s.lockFlag }) frame :)⟩
  have out := State.inScache_eq cbu a
  rw [gone] at out
  exact out

/-- FLUSH and READ DIRTY/INVALIDATE: the block leaves the caches after the answer. -/
theorem removed_answered {present data reads bcache : Bool} {r : Answer} {op : ScacheOp} {f : Caches → Caches}
    (hears : s.model.deaf = false) (gone : ∀ m, (f m).scFind s.cacheCfg a.toNat = none) :
    let t := ((((s.answer present data r a).probeSeen op reads bcache a).onCaches f).probed a).afterCommand false code
    BlockRemoved s a t ∧ t.mem = s.mem ∧ t.model = s.model := by
  obtain ⟨m, answered, -, -⟩ := s.answer_probeSeen present data reads bcache r op a
  rw [answered]
  refine ⟨blockRemoved_probed rfl (gone m), ?_⟩
  rw [afterCommand_good (by rw [State.probed_model]; exact hears), State.probed_mem, State.probed_model]
  exact ⟨rfl, rfl⟩

theorem State.invalidateBlock_frame (s : State) (a : PAddr) :
    { s.invalidateBlock a with mem := s.mem, memsys := s.memsys, model := s.model } = s := by
  obtain ⟨m, w, k, lost, -⟩ := State.discard_frame (s.memsys.caches.memoryLongs (s.block a) s.cacheCfg.blockSize) s
  rw [State.invalidateBlock, lost]
  rfl

theorem State.scFind_invalidateBlock (s : State) (a : PAddr) :
    (s.invalidateBlock a).memsys.caches.scFind s.cacheCfg a.toNat = none :=
  (Caches.scFind_congr rfl (Caches.markBcache_scache ..) _).trans (Caches.scFind_remove _ _ _)

/-- INVALIDATE: addr_res_h<2> is free, and modified data are lost. -/
theorem removed_invalidated (s : State) (a : PAddr) (present : Bool) (r : Answer) : BlockRemoved s a
    (((((s.drawn.answer present false r a).probeSeen .invalidate false false a).invalidateBlock a).probed a).afterCommand
      false 2) := by
  obtain ⟨m, answered, -, -⟩ := s.drawn.answer_probeSeen present false false false r .invalidate a
  rw [answered]
  let u := s.drawn.onCaches fun _ => m
  have frame : { u.invalidateBlock a with mem := s.mem, memsys := s.memsys, model := s.model } = s :=
    (congrArg (fun x : State => { x with mem := s.mem, memsys := s.memsys, model := s.model }) (u.invalidateBlock_frame a) :)
  exact blockRemoved_probed frame (u.scFind_invalidateBlock a)

/-- SET SHARED and READ DIRTY: the block becomes shared after the answer. -/
theorem shared_answered {present data reads bcache : Bool} {r : Answer} {op : ScacheOp} {f : Caches → Caches}
    (hears : s.model.deaf = false) (shares : ∀ m, Caches.SharedIn s.cacheCfg a.toNat m (f m)) :
    let t := (((s.answer present data r a).probeSeen op reads bcache a).onCaches f).afterCommand false code
    { t with memsys := s.memsys } = s ∧ t.inScache a = s.inScache a ∧
      ∀ l ∈ t.memsys.caches.scache, l.holds s.cacheCfg a.toNat = true → (l.sub a.toNat).shared = true := by
  obtain ⟨m, answered, -, frame⟩ := s.answer_probeSeen present data reads bcache r op a
  obtain ⟨held, shared⟩ := shares m
  have same : m.scFind s.cacheCfg a.toNat = s.memsys.caches.scFind s.cacheCfg a.toNat :=
    Caches.scFind_congr (m := m) rfl (congrArg Caches.scache frame :) _
  rw [answered, afterCommand_good (t := (s.onCaches fun _ => m).onCaches f) hears]
  refine ⟨rfl, ?_, shared⟩
  rw [State.inScache_eq (s := s) (t := (s.onCaches fun _ => m).onCaches f) rfl, State.inScache, ← same, ← held]
  rfl

/-- addr_res_h<2:0>. -/
theorem response_toNat (present : Bool) (r : Answer) :
    (BitVec.ofBool present ++ r.code).toNat = (if present = true then 4 else 0) + r.code.toNat := by
  cases present <;> cases r <;> rfl

/-- The block of an address is in the Scache, or locked. -/
theorem present_iff (s : State) (a : PAddr) : s.present a = true ↔
    s.inScache a = true ∨ a.toNat / s.blockBytes = s.lockPa.toNat / s.blockBytes := by
  rw [State.present, Bool.or_eq_true, State.sameBlock_eq, decide_eq_true_iff]

theorem flushAnswer_code (s : State) (a : PAddr) : (s.flushAnswer a).code.toNat =
    if s.dirtyInScache a = true then 2 else if s.dirtyInBcache a = true then 3 else 1 := by
  rw [State.flushAnswer]
  cases s.dirtyInScache a with
  | true => rfl
  | false => cases s.dirtyInBcache a <;> rfl

/-- Codes 6 and from 8 on have no meaning. -/
theorem command_reserved (s : State) (a : PAddr) (h : code = 6 ∨ 8 ≤ code.toNat) :
    s.command code a = .refused .systemCommand := by
  have reserved : code.toNat = 6 ∨ 8 ≤ code.toNat := h.imp_left (congrArg BitVec.toNat ·)
  unfold State.command
  split
  case h_8 => rfl
  all_goals omega

end

/-! ### Writes of other agents (20_memory.md R292, R352 b) -/

/-- One byte of such a write takes its block out of the caches and clears the lock of its block. -/
theorem State.busFlush_frame (s : State) (a : PAddr) :
    ∃ w, s.busFlush a = { s with memsys := w, lockFlag := s.lockFlag && !s.sameBlock a s.lockPa } ∧ w.wb = s.memsys.wb := by
  rw [State.busFlush, State.probed_eq]
  cases a.getLsbD 39 with
  | true => exact ⟨s.memsys, rfl, rfl⟩
  | false => exact ⟨_, rfl, rfl⟩

theorem State.busFlush_all : ∀ (l : List PAddr) (s : State), ∃ w, l.foldl State.busFlush s =
    { s with memsys := w, lockFlag := s.lockFlag && l.all fun a => !s.sameBlock a s.lockPa } ∧ w.wb = s.memsys.wb
  | [], s => ⟨s.memsys, by rw [List.all_nil, Bool.and_true]; rfl, rfl⟩
  | a :: l, s => by
    obtain ⟨v, first, hv⟩ := s.busFlush_frame a
    obtain ⟨w, others, hw⟩ := State.busFlush_all l (s.busFlush a)
    rw [first] at others hw
    refine ⟨w, ?_, hw.trans hv⟩
    rw [List.foldl_cons, first, others, List.all_cons, ← Bool.and_assoc]
    rfl

/-- While no store waits, a byte of the level below is one of memory. -/
theorem State.lowerByte_direct {s : State} (h : s.memsys.wb = []) (a : Nat) (v : Byte) :
    s.lowerByte a v = { s with mem := Memory.write s.mem a v } := by
  have covers : s.memsys.covers a = false := by rw [MemSys.covers, h]; rfl
  have wb : { s.memsys with wb := underWb a v s.memsys.wb } = s.memsys := by
    rw [h, underWb, ← h]
  rw [State.lowerByte, covers, wb, cond_false]

/-- Bytes that are written to memory at rising addresses. -/
theorem State.busBytes_direct : ∀ (bytes : List Byte) (a : PAddr) (s : State), a.toNat + bytes.length ≤ 0xFFFFF00000 →
    s.memsys.wb = [] → Memory.wf s.mem = true → ∃ m, State.busBytes bytes a s = { s with mem := m } ∧
      ∀ x, Memory.byte m x =
        if a.toNat ≤ x ∧ x < a.toNat + bytes.length then bytes.getD (x - a.toNat) 0 else Memory.byte s.mem x
  | [], a, s, _, _, _ => ⟨s.mem, rfl, fun x => (if_neg (by rw [List.length_nil]; omega)).symm⟩
  | b :: rest, a, s, below, idle, wf => by
    rw [List.length_cons] at below
    have succ : (a + 1).toNat = a.toNat + 1 := by
      rw [BitVec.toNat_add]
      exact Nat.mod_eq_of_lt (by simp; omega)
    have outside : inCbu a = false := by
      rw [Bool.eq_false_iff, Ne, inCbu_iff]
      omega
    obtain ⟨m, written, bytes⟩ := State.busBytes_direct rest (a + 1) { s with mem := Memory.write s.mem a.toNat b }
      (by rw [succ]; omega) idle (Memory.write_wf (Nat.zero_le _) wf)
    refine ⟨m, ?_, fun x => ?_⟩
    · rw [State.busBytes, outside, cond_false, State.lowerByte_direct idle, written]
    · rw [bytes, succ, Memory.byte_write wf, List.length_cons]
      rcases Nat.lt_trichotomy x a.toNat with lt | rfl | gt
      · rw [if_neg (by omega), if_neg (by omega), if_neg (by omega)]
      · rw [if_neg (by omega), if_pos rfl, if_pos (by omega), Nat.sub_self, List.getD_cons_zero]
      · have next : x - a.toNat = x - (a.toNat + 1) + 1 := by omega
        rw [next, List.getD_cons_succ, if_neg (Nat.ne_of_gt gt)]
        exact if_congr (by omega) rfl rfl

/-- The same while the longwords that they change are noted for the Icache. -/
theorem State.lowered_direct (l : List Nat) {bytes : List Byte} {a : PAddr} {s : State}
    (below : a.toNat + bytes.length ≤ 0xFFFFF00000) (idle : s.memsys.wb = []) (wf : Memory.wf s.mem = true) :
    ∃ m k, s.lowered l (State.busBytes bytes a) = { s with mem := m, model := k } ∧ ∀ x, Memory.byte m x =
      if a.toNat ≤ x ∧ x < a.toNat + bytes.length then bytes.getD (x - a.toNat) 0 else Memory.byte s.mem x := by
  obtain ⟨m, written, hbytes⟩ := State.busBytes_direct bytes a { s with model := s.model.noteStale s.mem l } below idle wf
  refine ⟨m, (s.lowered l (State.busBytes bytes a)).model, ?_, hbytes⟩
  rw [State.lowered, written]

/-- Below the CBU region every byte of a write is on the bus. -/
theorem all_busAddresses {a : PAddr} {n : Nat} (below : a.toNat + n ≤ 0xFFFFF00000) (p : Nat → Prop) :
    (∀ x ∈ busAddresses a n, p x.toNat) ↔ ∀ k < n, p (a.toNat + k) := by
  have address {k : Nat} (hk : k < n) : (a + BitVec.ofNat 40 k).toNat = a.toNat + k := by
    rw [BitVec.toNat_add, BitVec.toNat_ofNat, Nat.add_mod_mod]
    exact Nat.mod_eq_of_lt (by omega)
  have outside {k : Nat} (hk : k < n) : (!inCbu (a + BitVec.ofNat 40 k)) = true := by
    rw [Bool.not_eq_true', Bool.eq_false_iff, Ne, inCbu_iff, address hk]
    omega
  constructor
  · intro h k hk
    rw [← address hk]
    exact h _ (List.mem_filter.mpr ⟨List.mem_map_of_mem (List.mem_range.mpr hk), outside hk⟩)
  · intro h x hx
    obtain ⟨k, hk, rfl⟩ := List.mem_map.mp (List.mem_filter.mp hx).1
    rw [address (List.mem_range.mp hk)]
    exact h k (List.mem_range.mp hk)

/-- A write of another agent: the blocks of its bytes leave the caches, one by one, and then the bytes are written. -/
theorem busWrite_next {a : PAddr} {bytes : List Byte} {s : State} (below : a.toNat + bytes.length ≤ 0xFFFFF00000)
    (idle : s.memsys.wb = []) (quiet : s.model.cbuQuiet = false) (wf : Memory.wf s.mem = true) :
    ∃ t, handleEvent (.busWrite a bytes) s = .next t ∧
      { t with mem := s.mem, lockFlag := s.lockFlag, memsys := s.memsys, model := s.model } = s ∧
      (t.lockFlag = true ↔ s.lockFlag = true ∧
        ∀ k < bytes.length, (a.toNat + k) / s.blockBytes ≠ s.lockPa.toNat / s.blockBytes) ∧
      ∀ x, Memory.byte t.mem x =
        if a.toNat ≤ x ∧ x < a.toNat + bytes.length then bytes.getD (x - a.toNat) 0 else Memory.byte s.mem x := by
  let at_ := busAddresses a bytes.length
  let longs := at_.map fun x => x.toNat / 4 * 4
  obtain ⟨w, flushed, hw⟩ := State.busFlush_all at_ s
  let u : State := { s with memsys := w, lockFlag := s.lockFlag && at_.all fun a => !s.sameBlock a s.lockPa }
  obtain ⟨m, k, lowered, hbytes⟩ := State.lowered_direct (s := u.noteUnknown longs) longs below (hw.trans idle) wf
  have written : s.busWrite bytes a = { u.noteUnknown longs with mem := m, model := k } := by
    rw [State.busWrite, flushed]
    exact lowered
  have next : handleEvent (.busWrite a bytes) s =
      .next ((s.busWrite bytes a).onCaches (·.clean (within a.toNat bytes.length))) := by
    rw [handleEvent, quiet]
    rfl
  rw [written] at next
  refine ⟨_, next, rfl, ?_, hbytes⟩
  show (s.lockFlag && at_.all fun a => !s.sameBlock a s.lockPa) = true ↔ _
  simp only [Bool.and_eq_true, List.all_eq_true, State.sameBlock_eq, Bool.not_eq_true', decide_eq_false_iff_not]
  rw [← all_busAddresses below fun x => x / s.blockBytes ≠ s.lockPa.toNat / s.blockBytes]

/-! ### The obligation -/

/-- Settles O54: each command by its answer, its probe and what becomes of the block; a write byte by byte. -/
theorem otherAgentsClearTheLock : Obligations.OtherAgentsClearTheLock := by
  refine ⟨?commands, ?writes⟩
  case writes =>
    intro a bytes s below idle quiet wf
    exact busWrite_next below idle quiet wf
  intro code a parity s quiet hears good block locked command status
  have carried : command = andThen (s.command code a) fun t => .next (t.afterCommand false code) :=
    command_next quiet hears good
  rw [carried]
  refine ⟨?nop, ?remove, ?read, ?share, ?reserved⟩
  case nop =>
    rintro rfl
    exact congrArg Host.Outcome.next (afterCommand_good hears)
  case remove =>
    rintro (rfl | rfl | rfl)
    · obtain ⟨⟨out, lock, frame⟩, same⟩ := removed_answered hears fun m => m.scFind_flushBlock s.cacheCfg a.toNat
      exact ⟨_, rfl, out, lock, frame, fun _ => same⟩
    · obtain ⟨out, lock, frame⟩ := removed_invalidated s a s.drawChoice (s.drawn.invalidateAnswer a)
      exact ⟨_, rfl, out, lock, frame, fun other => absurd rfl other⟩
    · obtain ⟨⟨out, lock, frame⟩, same⟩ := removed_answered hears fun m => m.scFind_takeBlock s.cacheCfg a.toNat
      exact ⟨_, rfl, out, lock, frame, fun _ => same⟩
  case read =>
    rintro rfl
    obtain ⟨m, answered, response, frame⟩ := s.answer_probeSeen (s.present a) true true true (s.flushAnswer a) .readDirty a
    refine ⟨s.onCaches fun _ => m, ?_, ?_, (congrArg (fun x => { s with memsys := { s.memsys with caches := x } }) frame :)⟩
    · exact congrArg Host.Outcome.next ((congrArg (State.afterCommand · false 4) answered).trans (afterCommand_good hears))
    · show m.bus.response.toNat = _
      rw [response, response_toNat, flushAnswer_code]
      exact congrArg (· + status) (if_congr (present_iff s a) rfl rfl)
  case share =>
    rintro (rfl | rfl)
    · exact ⟨_, rfl, shared_answered hears fun m => m.setShared_sharedIn s.cacheCfg a.toNat⟩
    · exact ⟨_, rfl, shared_answered hears fun m => m.readDirty_sharedIn s.cacheCfg a.toNat⟩
  case reserved =>
    intro h
    rw [command_reserved s a h]
    rfl

end Sys2Proof.Machine

/-! # Decode and encode -/

namespace Sys2Proof

/-! ### What the decoder does with each format -/

section

variable {w : Long} {i : Instr} {op : BitVec 6} {ra rb rc : Reg}

/-- The function codes of an Operate opcode (R463 to R466, R470). -/
def operateTable (op : BitVec 6) : List (Nat × (Reg → Operand → Reg → Instr)) :=
  bif op == 0x10 then intaTable
  else bif op == 0x11 then intlTable
  else bif op == 0x12 then intsTable
  else bif op == 0x13 then intmTable
  else sextTable

/-- The function codes of a floating-point opcode (R467, R472, R473). -/
noncomputable def floatTable (op : BitVec 6) : List (Nat × (Reg → Reg → Reg → Instr)) :=
  bif op == 0x15 then fltvTable else bif op == 0x16 then fltiTable else fltlTable

theorem decode_operate (hw : opcodeOf w = op) (hop : op ∈ ([0x10, 0x11, 0x12, 0x13, 0x1C] : List (BitVec 6))) :
    decode w = decodeOperate w (operateTable op) := by
  unfold decode
  rw [hw]
  simp only [List.mem_cons, List.not_mem_nil, or_false] at hop
  rcases hop with rfl | rfl | rfl | rfl | rfl <;> rfl

theorem decode_float (hw : opcodeOf w = op) (hop : op ∈ ([0x15, 0x16, 0x17] : List (BitVec 6))) :
    decode w = decodeFloat w (floatTable op) := by
  unfold decode
  rw [hw]
  simp only [List.mem_cons, List.not_mem_nil, or_false] at hop
  rcases hop with rfl | rfl | rfl <;> rfl

theorem decode_misc (hw : opcodeOf w = 0x18) : decode w = decodeMisc w := by
  unfold decode
  rw [hw]
  rfl

theorem decode_jump (hw : opcodeOf w = 0x1A) : decode w = decodeJump w := by
  unfold decode
  rw [hw]
  rfl

theorem decode_hwRei (hw : opcodeOf w = 0x1E) : decode w = decodeHwRei w := by
  unfold decode
  rw [hw]
  rfl

theorem decode_callPal (hw : opcodeOf w = 0x00) : decode w = .instr (.call_pal (field w 0 26)) := by
  unfold decode
  rw [hw]
  rfl

/-! ### The decoder on what the encoder writes -/

theorem decode_encMem {c : Reg → Reg → BitVec 16 → Instr} {d : BitVec 16}
    (h : ∀ w, opcodeOf w = op → decode w = decodeMem w c) : decode (encMem op ra rb d) = .instr (c ra rb d) := by
  rw [h _ (opcodeOf_encMem op ra rb d), decodeMem, raOf_encMem, rbOf_encMem, field_0_16_encMem]

theorem decode_encBranch {c : Reg → BitVec 21 → Instr} {d : BitVec 21}
    (h : ∀ w, opcodeOf w = op → decode w = decodeBranch w c) : decode (encBranch op ra d) = .instr (c ra d) := by
  rw [h _ (opcodeOf_encBranch op ra d), decodeBranch, raOf_encBranch, field_0_21_encBranch]

theorem decode_encOperate {fn : BitVec 7} {b : Operand} (hop : op ∈ ([0x10, 0x11, 0x12, 0x13, 0x1C] : List (BitVec 6)))
    (h : (lookupCode fn.toNat (operateTable op)).map (fun c => c ra b rc) = some i) :
    decode (encOperate op fn ra b rc) = .instr i := by
  rw [decode_operate (opcodeOf_encOperate op fn ra b rc) hop, decodeOperate, field_5_7_encOperate, raOf_encOperate,
    operandOf_encOperate, rcOf_encOperate, h, ofTable]

theorem decode_encFloat {fn : BitVec 11} (hop : op ∈ ([0x15, 0x16, 0x17] : List (BitVec 6)))
    (h : (lookupCode fn.toNat (floatTable op)).map (fun c => c ra rb rc) = some i) :
    decode (encFloat op fn ra rb rc) = .instr i := by
  rw [decode_float (opcodeOf_encFloat op fn ra rb rc) hop, decodeFloat, field_5_11_encFloat, raOf_encFloat, rbOf_encFloat,
    rcOf_encFloat, h, ofTable]

theorem decode_encMisc {d : BitVec 16} (h : (lookupCode d.toNat miscTable).map (fun c => c ra rb) = some i) :
    decode (encMem 0x18 ra rb d) = .instr i := by
  rw [decode_misc (opcodeOf_encMem 0x18 ra rb d), decodeMisc, field_0_16_encMem, raOf_encMem, rbOf_encMem, h, ofTable]

/-- HW_LD and HW_ST. -/
theorem decode_encHwMem {c : Reg → Reg → Bool → Bool → Bool → Bool → Bool → Bool → BitVec 10 → Instr}
    {b15 b14 b13 b12 b11 b10 : Bool} {d : BitVec 10}
    (h : ∀ w, opcodeOf w = op → decode w = .instr (c (raOf w) (rbOf w) (w.getLsbD 15) (w.getLsbD 14) (w.getLsbD 13)
      (w.getLsbD 12) (w.getLsbD 11) (w.getLsbD 10) (field w 0 10))) :
    decode (encHwMem op ra rb b15 b14 b13 b12 b11 b10 d) = .instr (c ra rb b15 b14 b13 b12 b11 b10 d) := by
  rw [h _ (opcodeOf_encHwMem op ra rb b15 b14 b13 b12 b11 b10 d), raOf_encHwMem, rbOf_encHwMem, getLsbD_15_encHwMem,
    getLsbD_14_encHwMem, getLsbD_13_encHwMem, getLsbD_12_encHwMem, getLsbD_11_encHwMem, getLsbD_10_encHwMem,
    field_0_10_encHwMem]

end

/-- Each instruction by the format of its word; the last case stands for the floating-point operates. -/
theorem decode_encode (i : Instr) : decode (encode i) = .instr i := by
  cases i with
  | lda | ldah | ldbu | ldq_u | ldwu | stw | stb | stq_u | ldl | ldq | ldl_l | ldq_l | stl | stq | stl_c | stq_c | ldf | ldg
  | lds | ldt | stf | stg | sts | stt | hw_mfpr | hw_mtpr =>
    refine decode_encMem fun w hw => ?_
    unfold decode
    rw [hw]
    rfl
  | br | bsr | blbc | beq | blt | ble | blbs | bne | bge | bgt | fbeq | fblt | fble | fbne | fbge | fbgt =>
    refine decode_encBranch fun w hw => ?_
    unfold decode
    rw [hw]
    rfl
  | addl | addl_v | addq | addq_v | subl | subl_v | subq | subq_v | s4addl | s8addl | s4addq | s8addq | s4subl | s8subl
  | s4subq | s8subq | cmpeq | cmplt | cmple | cmpult | cmpule | cmpbge | and | bic | bis | ornot | xor | eqv | cmoveq
  | cmovne
  | cmovlt | cmovle | cmovgt | cmovge | cmovlbs | cmovlbc | amask | implver | sll | srl | sra | zap | zapnot | extbl | extwl
  | extll | extql | extwh | extlh | extqh | insbl | inswl | insll | insql | inswh | inslh | insqh | mskbl | mskwl | mskll
  | mskql | mskwh | msklh | mskqh | mull | mull_v | mulq | mulq_v | umulh | sextb | sextw =>
    exact decode_encOperate (by decide) rfl
  | trapb | excb | mb | wmb | fetch | fetch_m | rpcc | rc | rs => exact decode_encMisc rfl
  | jmp | jsr | ret | jsr_coroutine =>
    change decode (encJump _ _ _ _) = _
    rw [decode_jump (opcodeOf_encJump ..), decodeJump, field_14_2_encJump, raOf_encJump, rbOf_encJump,
      field_0_14_encJump]
    rfl
  | hw_rei | hw_rei_stall =>
    change decode (encMem _ _ _ (_ ++ _)) = _
    rw [decode_hwRei (opcodeOf_encMem ..), decodeHwRei, field_14_2_encMem, field_0_14_encMem]
    rfl
  | hw_ld | hw_st =>
    refine decode_encHwMem fun w hw => ?_
    unfold decode
    rw [hw]
    rfl
  | call_pal =>
    exact (decode_callPal (opcodeOf_callPal ..)).trans (congrArg (Decoded.instr ∘ .call_pal) (field_0_26_callPal ..))
  | _ => exact decode_encFloat (by decide) rfl

/-! ### The opcode of what a word decodes to -/

/-- Every instruction that a word decodes to has the opcode. -/
def Decoded.HasOpcode (d : Decoded) (n : Nat) : Prop := ∀ i, d = .instr i → opcodeOf (encode i) = BitVec.ofNat 6 n

namespace Decoded

variable {w : Long} {n : Nat}

theorem hasOpcode_instr {i : Instr} (h : opcodeOf (encode i) = BitVec.ofNat 6 n) : (Decoded.instr i).HasOpcode n := by
  rintro _ ⟨⟩
  exact h

theorem hasOpcode_rejected {why : Reject} : (Decoded.rejected why).HasOpcode n := nofun

theorem hasOpcode_mem {c : Reg → Reg → BitVec 16 → Instr}
    (h : ∀ ra rb d, encode (c ra rb d) = encMem (BitVec.ofNat 6 n) ra rb d) : (decodeMem w c).HasOpcode n :=
  hasOpcode_instr (h _ _ _ ▸ opcodeOf_encMem ..)

theorem hasOpcode_branch {c : Reg → BitVec 21 → Instr}
    (h : ∀ ra d, encode (c ra d) = encBranch (BitVec.ofNat 6 n) ra d) : (decodeBranch w c).HasOpcode n :=
  hasOpcode_instr (h _ _ ▸ opcodeOf_encBranch ..)

theorem hasOpcode_ofTable {α : Type} {t : List (Nat × α)} {f : α → Instr} (code : Nat)
    (h : ∀ p ∈ t, opcodeOf (encode (f p.2)) = BitVec.ofNat 6 n) :
    (ofTable w ((lookupCode code t).map f)).HasOpcode n := by
  induction t with
  | nil => exact hasOpcode_rejected
  | cons p rest ih =>
    rw [List.forall_mem_cons] at h
    rw [lookupCode]
    cases p.1 == code with
    | true => exact hasOpcode_instr h.1
    | false => exact ih h.2

theorem hasOpcode_operate {t : List (Nat × (Reg → Operand → Reg → Instr))}
    (h : ∀ p ∈ t, ∀ ra b rc, opcodeOf (encode (p.2 ra b rc)) = BitVec.ofNat 6 n) : (decodeOperate w t).HasOpcode n :=
  hasOpcode_ofTable _ fun p hp => h p hp _ _ _

theorem hasOpcode_float {t : List (Nat × (Reg → Reg → Reg → Instr))}
    (h : ∀ p ∈ t, ∀ fa fb fc, opcodeOf (encode (p.2 fa fb fc)) = BitVec.ofNat 6 n) : (decodeFloat w t).HasOpcode n :=
  hasOpcode_ofTable _ fun p hp => h p hp _ _ _

end Decoded

theorem operateTable_opcode {op : BitVec 6} (hop : op ∈ ([0x10, 0x11, 0x12, 0x13, 0x1C] : List (BitVec 6))) :
    ∀ p ∈ operateTable op, ∀ ra b rc, opcodeOf (encode (p.2 ra b rc)) = op := by
  simp only [List.mem_cons, List.not_mem_nil, or_false] at hop
  rcases hop with rfl | rfl | rfl | rfl | rfl <;>
  · repeat refine List.forall_mem_cons.2 ⟨fun _ _ _ => opcodeOf_encOperate .., ?_⟩
    exact List.forall_mem_nil _

theorem floatTable_opcode {op : BitVec 6} (hop : op ∈ ([0x15, 0x16, 0x17] : List (BitVec 6))) :
    ∀ p ∈ floatTable op, ∀ fa fb fc, opcodeOf (encode (p.2 fa fb fc)) = op := by
  simp only [List.mem_cons, List.not_mem_nil, or_false] at hop
  rcases hop with rfl | rfl | rfl <;>
  · repeat refine List.forall_mem_cons.2 ⟨fun _ _ _ => opcodeOf_encFloat .., ?_⟩
    exact List.forall_mem_nil _

theorem miscTable_opcode : ∀ p ∈ miscTable, ∀ ra rb, opcodeOf (encode (p.2 ra rb)) = 0x18 := by
  repeat refine List.forall_mem_cons.2 ⟨fun _ _ => opcodeOf_encMem .., ?_⟩
  exact List.forall_mem_nil _

theorem jump_opcode (w : Long) : (decodeJump w).HasOpcode 0x1A := by
  unfold decodeJump
  refine Decoded.hasOpcode_instr ?_
  split <;> exact opcodeOf_encJump ..

theorem hwRei_opcode (w : Long) : (decodeHwRei w).HasOpcode 0x1E := by
  unfold decodeHwRei
  split
  · exact Decoded.hasOpcode_instr (opcodeOf_encMem ..)
  · exact Decoded.hasOpcode_instr (opcodeOf_encMem ..)
  · exact Decoded.hasOpcode_rejected

open Decoded in
/-- The instruction that a word decodes to has the word's opcode: the arms of `decode` by their formats. -/
theorem decode_hasOpcode (w : Long) : (decode w).HasOpcode (opcodeOf w).toNat := by
  unfold decode
  generalize (opcodeOf w).toNat = n
  split
  case h_1 => exact hasOpcode_instr (opcodeOf_callPal ..)
  case h_2 | h_3 | h_4 | h_5 | h_6 | h_7 | h_8 | h_9 | h_25 | h_26 | h_27 | h_28 | h_29 | h_30 | h_31
  | h_32 | h_33 | h_34 | h_35 | h_36 | h_37 | h_38 | h_39 | h_40 =>
    exact hasOpcode_mem fun _ _ _ => rfl
  case h_10 => exact hasOpcode_operate (operateTable_opcode (op := 0x10) (by decide))
  case h_11 => exact hasOpcode_operate (operateTable_opcode (op := 0x11) (by decide))
  case h_12 => exact hasOpcode_operate (operateTable_opcode (op := 0x12) (by decide))
  case h_13 => exact hasOpcode_operate (operateTable_opcode (op := 0x13) (by decide))
  case h_14 => exact hasOpcode_float (floatTable_opcode (op := 0x15) (by decide))
  case h_15 => exact hasOpcode_float (floatTable_opcode (op := 0x16) (by decide))
  case h_16 => exact hasOpcode_float (floatTable_opcode (op := 0x17) (by decide))
  case h_17 => exact hasOpcode_ofTable _ fun p hp => miscTable_opcode p hp _ _
  case h_18 | h_22 => exact hasOpcode_instr (opcodeOf_encMem ..)
  case h_19 => exact jump_opcode w
  case h_20 | h_24 => exact hasOpcode_instr (opcodeOf_encHwMem ..)
  case h_21 => exact hasOpcode_operate (operateTable_opcode (op := 0x1C) (by decide))
  case h_23 => exact hwRei_opcode w
  case h_41 | h_42 | h_43 | h_44 | h_45 | h_46 | h_47 | h_48 | h_49 | h_50 | h_51 | h_52 | h_53 | h_54 | h_55 | h_56 =>
    exact hasOpcode_branch fun _ _ => rfl
  case h_57 => exact hasOpcode_rejected

/-! ### The obligation -/

/-- Settles O1: `decode_encode` format by format, and the opcode of what each arm of `decode` gives. -/
theorem decodeOfEncodeIsIdentity : Obligations.DecodeOfEncodeIsIdentity := by
  refine ⟨decode_encode, fun w i h => ?_⟩
  have hop : opcodeOf (encode i) = opcodeOf w :=
    (decode_hasOpcode w i h).trans (by rw [BitVec.ofNat_toNat, BitVec.setWidth_eq])
  rw [Instr.opcode, toNat_opcode, toNat_opcode, hop]

end Sys2Proof

/-! # Entries and refused forms -/

namespace Sys2Proof.Machine

/-! ### An entry as the statements have it (60_exceptions.md R951) -/

/-- What EXC_ADDR receives at an entry: the pc without bit 1. -/
theorem savedPc_self (pc : Quad) : savedPc pc pc = pc &&& ~~~2 := by
  apply BitVec.eq_of_getLsbD_eq
  intro i hi
  have hmask : (~~~2 : Quad).getLsbD i = !decide (i = 1) := by
    revert i
    decide
  simp only [savedPc, slice, BitVec.getLsbD_and, hmask, BitVec.getLsbD_append, BitVec.getLsbD_extractLsb']
  match i, hi with
  | 0, _ => simp
  | 1, _ => simp
  | k + 2, hk => simp [Nat.add_comm 2 k]; omega

theorem palAddress_eq (base : BitVec 50) {off : BitVec 14} (h : off.getLsbD 0 = false) :
    palAddress base off = BitVec.ofNat 64 (base.toNat * 2 ^ 14 + off.toNat + 1) := by
  have heven : off.toNat % 2 = 0 := by
    rw [← BitVec.testBit_toNat, Nat.testBit_zero] at h
    simpa using h
  have hoff : off.toNat < 2 ^ 14 := off.isLt
  have hbase : base.toNat < 2 ^ 50 := base.isLt
  have hone : (1 : BitVec 1).toNat = 1 := rfl
  apply BitVec.eq_of_toNat_eq
  unfold palAddress
  rw [BitVec.toNat_append, BitVec.toNat_append, toNat_extractLsb', ← Nat.shiftLeft_add_eq_or_of_lt (BitVec.isLt 1),
    ← Nat.shiftLeft_add_eq_or_of_lt (Nat.mod_lt _ (Nat.two_pow_pos 13)), Nat.shiftLeft_eq, Nat.shiftLeft_eq,
    BitVec.toNat_ofNat, hone]
  omega

theorem Entry.drains_eq_false_iff (e : Entry) : e.drains = false ↔ e = .mchk ∨ e = .callPal ∨ e = .reset := by
  cases e <;> decide

theorem enterPal_eq_enteredAt (e : Entry) {off : BitVec 14} (h : off.getLsbD 0 = false) (s : State) :
    enterPal e s.pc off s = enteredAt e off.toNat s := by
  unfold enterPal enteredAt
  rw [savedPc_self, palAddress_eq _ h]
  simp only [← Entry.drains_eq_false_iff]
  cases e.drains <;> rfl

/-- An exception: its entry, or an owed ARITH entry in its place (R971 c). -/
theorem raise_spec (e : Entry) (s : State) :
    (s.arithPending = false → raise e s = .next (enteredAt e e.offset.toNat s)) ∧
      (s.arithPending = true → raise e s = .next (enteredAt .arith 0x500 { s with arithPending := false })) := by
  have heven : e.offset.getLsbD 0 = false := by cases e <;> rfl
  unfold raise takeEntry takeArith
  refine ⟨fun h => ?_, fun h => ?_⟩
  · rw [h, cond_false, id, enterPal_eq_enteredAt e heven]
  · rw [h, cond_true]
    exact congrArg Host.Outcome.next (enterPal_eq_enteredAt .arith rfl { s with arithPending := false })

/-! ### Reserved opcodes (30_encoding.md R476) -/

theorem decode_reserved {w : Long} (h : (opcodeOf w).toNat ∈ [1, 2, 3, 4, 5, 6, 7, 0x14]) :
    decode w = .rejected (.reservedOpcode (opcodeOf w)) := by
  unfold decode
  generalize (opcodeOf w).toNat = n at h ⊢
  simp only [List.mem_cons, List.not_mem_nil, or_false] at h
  rcases h with rfl | rfl | rfl | rfl | rfl | rfl | rfl | rfl <;> rfl

/-- Settles O2: such a word decodes to nothing, and a word that names no instruction raises
OPCDEC if its opcode is reserved. -/
theorem reservedEncodingsAreRefused : Obligations.ReservedEncodingsAreRefused := by
  intro w s h
  rw [toNat_opcode] at h
  have hdecode := decode_reserved h
  have hop : opIn w [0x01, 0x02, 0x03, 0x04, 0x05, 0x06, 0x07, 0x14] = true := List.elem_eq_true_of_mem h
  have hraise : execDecoded w (decode w) s = raise .opcdec s := by
    rw [hdecode]
    simp only [execDecoded, undecoded, State.raisesOpcdec, hop, Bool.true_or, cond_true]
  refine ⟨hdecode, ?_⟩
  unfold wordRaises
  rw [hraise]
  exact raise_spec .opcdec s

/-! ### Registers that HW_MFPR and HW_MTPR do not reach (10_state.md R68) -/

/-- The registers that HW_MTPR alone reaches. -/
def writeOnlyIprs : List Ipr :=
  [.itbTag, .itbIa, .itbIap, .itbIs, .hwintClr, .slXmit, .icFlushCtl, .dtbAsn, .dtbCm, .dtbTag, .mvptbr, .dtbIap, .dtbIa,
    .dtbIs, .altMode, .cc, .ccCtl, .dcFlush]

/-- The registers that HW_MFPR alone reaches. -/
def readOnlyIprs : List Ipr :=
  [.isr, .itbPteTemp, .excMask, .intid, .ifaultVaForm, .slRcv, .dtbPteTemp, .mmStat, .va, .vaForm, .dcTestTagTemp]

theorem readIpr_writeOnly (s : State) : ∀ i ∈ writeOnlyIprs, readIpr s i = none := by
  simp [writeOnlyIprs, readIpr]

theorem writeIpr_readOnly (s : State) (v : Quad) : ∀ i ∈ readOnlyIprs, writeIpr s v i = .refused .undefinedIpr := by
  simp [readOnlyIprs, writeIpr]

/-- An index outside PALtemp0 to PALtemp23. -/
theorem palTemp_range_false {n : Nat} {l : List Nat} (h : n ∉ l ++ (List.range 24).map (0x140 + ·)) :
    (Nat.ble 0x140 n && Nat.blt n 0x158) = false := by
  rw [Bool.eq_false_iff, Ne, Bool.and_eq_true, Nat.ble_eq, Nat.blt_eq]
  rintro ⟨hlow, hhigh⟩
  refine h (List.mem_append_right _ (List.mem_map.2 ⟨n - 0x140, List.mem_range.2 ?_, ?_⟩)) <;> omega

theorem iprAt_of_not_readable {index : BitVec 16} (h : index.toNat ∉ readableIprs) :
    ∀ i, iprAt index = some i → i ∈ writeOnlyIprs := by
  unfold iprAt
  generalize index.toNat = n at h ⊢
  split
  case h_51 =>
    rw [palTemp_range_false h]
    exact nofun
  all_goals
    rintro _ ⟨⟩
    revert h
    decide

theorem iprAt_of_not_writable {index : BitVec 16} (h : index.toNat ∉ writableIprs)
    (hicsr : index.toNat ∉ [0x118, 0x20F]) :
    ∀ i, iprAt index = some i → i ∈ readOnlyIprs := by
  unfold iprAt
  generalize index.toNat = n at h hicsr ⊢
  split
  case h_51 =>
    rw [palTemp_range_false h]
    exact nofun
  all_goals
    rintro _ ⟨⟩
    revert h hicsr
    decide

/-! ### The forms without a meaning (30_encoding.md R482 to R484; log entries 6, 31, 32) -/

section

variable {s : State} {r ra rb : Reg} {index : BitVec 16}

theorem leavePal_mustBeZero (hpal : s.palOpcodeAllowed = true) {mbz : BitVec 14} (h : mbz ≠ 0) :
    leavePal mbz s = .refused .mustBeZeroField := by
  rw [leavePal, whenPal_allowed hpal, bne_iff_ne.2 h, cond_true]

theorem execHwSt_mustBeZero (hpal : s.palOpcodeAllowed = true) {phys alt mbz13 quad mbz11 cond : Bool} {disp : BitVec 10}
    (h : mbz13 = true ∨ mbz11 = true) :
    execHwSt ra rb phys alt mbz13 quad mbz11 cond disp s = .refused .mustBeZeroField := by
  rw [execHwSt, whenPal_allowed hpal, Bool.or_eq_true_iff.2 h, cond_true]

theorem execHwMfpr_unequal (hpal : s.palOpcodeAllowed = true) (h : ra ≠ rb) :
    execHwMfpr ra rb index s = .refused .unequalRegisterFields := by
  rw [execHwMfpr, whenPal_allowed hpal, bne_iff_ne.2 h, cond_true]

theorem execHwMtpr_unequal (hpal : s.palOpcodeAllowed = true) (h : ra ≠ rb) :
    execHwMtpr ra rb index s = .refused .unequalRegisterFields := by
  rw [execHwMtpr, whenPal_allowed hpal, bne_iff_ne.2 h, cond_true]

theorem execHwMfpr_none (hpal : s.palOpcodeAllowed = true) (h : (iprAt index).bind (readIpr s) = none) :
    execHwMfpr r r index s = .refused .undefinedIpr := by
  rw [execHwMfpr, whenPal_allowed hpal, bne_self_eq_false, cond_false, h]

theorem execHwMtpr_none (hpal : s.palOpcodeAllowed = true) (h : iprAt index = none) :
    execHwMtpr r r index s = .refused .undefinedIpr := by
  rw [execHwMtpr, whenPal_allowed hpal, bne_self_eq_false, cond_false, h]

theorem execHwMtpr_refused (hpal : s.palOpcodeAllowed = true) {i : Ipr} {why : Refusal} (hi : iprAt index = some i)
    (h : writeIpr s (s.readReg r) i = .refused why) : execHwMtpr r r index s = .refused why := by
  rw [execHwMtpr, whenPal_allowed hpal, bne_self_eq_false, cond_false, hi]
  dsimp only
  rw [h]

end

theorem writeIcsr_reserved {s : State} {v : Quad} (h : v.getLsbD 18 = true ∨ v.getLsbD 37 = false) :
    writeIpr s v .icsr = .refused .reservedBit := by
  have hbits : (bit v 18 || !bit v 37) = true := by simpa [bit] using h
  rw [writeIpr, State.writeIcsr, hbits, cond_true]

theorem mcsr_reserved (v : Quad) : (bit v 3 || bit v 5) = false ↔ v &&& 0x28 = 0 := by
  rw [and_eq_zero_iff_bits [3, 5] (by decide) (by decide)]
  simp

theorem writeMcsr_reserved {s : State} {v : Quad} (h : v &&& 0x28 ≠ 0) : writeIpr s v .mcsr = .refused .reservedBit := by
  rw [writeIpr, Bool.eq_true_of_not_eq_false (mt (mcsr_reserved v).mp h), cond_true]

/-- Settles O40: each form by the check of its instruction or of its register that it fails. -/
theorem undefinedPalFormsStop : Obligations.UndefinedPalFormsStop := by
  intro s hpal
  refine ⟨fun mbz h => ⟨leavePal_mustBeZero hpal h, leavePal_mustBeZero hpal h⟩,
    fun ra rb phys alt b13 quad b11 cond disp h => execHwSt_mustBeZero hpal h,
    fun ra rb index h => ⟨execHwMfpr_unequal hpal h, execHwMtpr_unequal hpal h⟩, ?read, ?write,
    fun r h => execHwMtpr_refused (index := 0x118) hpal rfl (writeIcsr_reserved h),
    fun r h => execHwMtpr_refused (index := 0x20F) hpal rfl (writeMcsr_reserved h)⟩
  case read =>
    intro r index h
    refine execHwMfpr_none hpal ?_
    rw [Option.bind_eq_none_iff]
    exact fun i hi => readIpr_writeOnly s i (iprAt_of_not_readable h i hi)
  case write =>
    intro r index h hmore
    cases hi : iprAt index with
    | none => exact execHwMtpr_none hpal hi
    | some i => exact execHwMtpr_refused hpal hi (writeIpr_readOnly s _ i (iprAt_of_not_writable h hmore i hi))

end Sys2Proof.Machine

/-! # A fetch -/

namespace Sys2Proof.Machine

/-! ### Outside force hit mode a read posts nothing that SC_STAT records (13_state_cbu_iprs.md R246) -/

/-- No read in Scache force hit mode has been posted. -/
def Caches.NoForced (m : Caches) : Prop := m.posted.filterMap Event.forced = []

namespace Caches

variable {c : CacheCfg} {m : Caches}

theorem noForced_foldl {α : Type} {f : Caches → α → Caches} (hf : ∀ m a, m.NoForced → (f m a).NoForced) :
    ∀ (l : List α) {m : Caches}, m.NoForced → (l.foldl f m).NoForced
  | [], _, h => h
  | a :: l, m, h => noForced_foldl hf l (hf m a h)

theorem noForced_post {l : List Event} (h : m.NoForced) (hl : l.filterMap Event.forced = []) :
    (m.post l).NoForced := by
  unfold NoForced post
  rw [List.filterMap_append, h, hl]
  rfl

theorem noForced_cond {b : Bool} {n : Caches} (h : m.NoForced) (hn : n.NoForced) :
    (bif b then m else n).NoForced := by
  cases b with
  | true => exact h
  | false => exact hn

theorem noForced_found (hc : c.scForced = false) (op : ScacheOp) (tags : BitVec 3) (reads : Bool) (a : Nat)
    (h : m.NoForced) : (m.found c op tags reads a).NoForced := by
  refine noForced_post h ?_
  rw [hc, cond_false]
  cases tags == 0 && (bif reads then m.dataErrors c (bif reads then m.errorAddress c op a else a) else 0) == 0 <;> rfl

theorem noForced_probe (hc : c.scForced = false) (op : ScacheOp) (reads : Bool) (a : Nat) (h : m.NoForced) :
    (m.probe c op reads a).NoForced :=
  noForced_found (m := m.see c a) hc op _ reads a h

theorem noForced_show (l : Longs) (h : m.NoForced) : (m.show l).NoForced := by
  refine noForced_post h ?_
  cases l.isEmpty <;> rfl

theorem noForced_leaveScache (a n : Nat) (h : m.NoForced) : (m.leaveScache a n).NoForced :=
  noForced_show (m.underScache.inside a n) h

theorem noForced_leave (a n : Nat) (h : m.NoForced) : (m.leave a n).NoForced :=
  noForced_show (Longs.add (m.underScache.inside a n) (m.underBcache.inside a n)) h

theorem noForced_seeBcache (istream system : Bool) (a : Nat) (h : m.NoForced) :
    (m.seeBcache c istream system a).NoForced := by
  refine noForced_post (m := m) h ?_
  cases c.bcForced || ((m.bcLine c a).tagOk c && (m.bcLine c a).controlOk) <;> rfl

theorem noForced_readBad (istream : Bool) (a : Nat) (b : BcLine) (h : m.NoForced) :
    (m.readBad c istream a b).NoForced := by
  refine noForced_post h ?_
  rw [List.filterMap_map]
  exact List.filterMap_eq_nil_iff.mpr fun _ _ => rfl

theorem noForced_toBcache (a : Nat) (h : m.NoForced) : (m.toBcache c a).NoForced := by
  unfold toBcache
  dsimp only
  generalize ((m.bcLine c a).base c == a) = same
  cases same <;> exact h

theorem noForced_evict (hc : c.scForced = false) (l : ScLine) (h : m.NoForced) : (m.evict c l).NoForced := by
  unfold evict
  dsimp only
  generalize l.dirtyBlocks c = dirty
  have hseen : (dirty.foldl (fun m a => m.probe c .victim true a) m).NoForced :=
    noForced_foldl (fun m a h => noForced_probe hc .victim true a h) dirty h
  have hleft {m : Caches} (clean : List Nat) (h : m.NoForced) :
      (clean.foldl (fun m a => m.leaveScache a c.blockSize) m).NoForced :=
    noForced_foldl (fun m a h => noForced_leaveScache a c.blockSize h) clean h
  refine noForced_foldl (fun m a h => ?_) dirty (hleft _ hseen)
  cases c.bcSize == 0 with
  | true => exact h
  | false => exact noForced_toBcache a h

theorem noForced_fillScache (hc : c.scForced = false) (a : Nat) (shared dirty : Bool) (h : m.NoForced) :
    (m.fillScache c a shared dirty).NoForced := by
  unfold fillScache
  dsimp only
  split
  · exact h
  · split
    · exact noForced_evict hc _ h
    · exact h

theorem noForced_refill (hc : c.scForced = false) (k : ReadKind) (a : Nat) (lanes : Lanes) (h : m.NoForced) :
    (m.refill c k a lanes).NoForced := by
  have hseen : (m.seeBcache c (k == .istream) false a).NoForced := noForced_seeBcache _ _ _ h
  unfold refill
  refine noForced_cond (noForced_fillScache hc _ _ _ h) (noForced_cond ?hit ?miss)
  case hit => exact noForced_fillScache hc _ _ _ (noForced_readBad _ _ _ hseen)
  case miss =>
    -- Each way the Bcache is left changes lines, not what is posted since it was seen.
    refine noForced_fillScache hc _ _ _ (noForced_cond ?_ (noForced_cond ?_ (noForced_leave _ _ ?_)))
    all_goals
      refine noForced_cond ?_ (noForced_cond ?_ ?_)
      all_goals exact noForced_cond (noForced_probe hc _ _ _ hseen) hseen

theorem noForced_access (hc : c.scForced = false) (k : ReadKind) (a : Nat) (lanes : Lanes) (h : m.NoForced) :
    (m.access c k a lanes).NoForced := by
  have hp := noForced_probe hc k.op k.reads a h
  unfold access reference
  dsimp only
  split
  · exact hp
  · exact noForced_refill hc k a lanes hp

end Caches

theorem State.istreamRead_cbu_unforced {s : State} (hc : s.cbu.scCtl.getLsbD 0 = false)
    (h : s.memsys.caches.posted = []) (pa : PAddr) : (s.istreamRead pa).cbu = s.cbu := by
  have hs : s.memsys.caches.NoForced := by rw [Caches.NoForced, h]; rfl
  refine State.takeForced_nil _ ?_
  show Caches.NoForced (bif pa.getLsbD 39 then _ else _)
  cases pa.getLsbD 39 with
  | true => exact hs
  | false => exact Caches.noForced_access (c := s.cacheCfg) hc .istream pa.toNat (.mask 0) hs

end Sys2Proof.Machine

/-! # Outstanding loads -/

namespace Sys2Proof.Machine

/-- The register and the address of an outstanding load. -/
def MafEntry.target (e : MafEntry) : RegSlot × PAddr := (e.slot, e.addr)

theorem MafEntry.block_of_target {e x : MafEntry} (h : x.target = e.target) : x.block = e.block := by
  have haddr : x.addr = e.addr := congrArg Prod.snd h
  rw [block, haddr, block]

namespace MemSys

variable {c : CacheCfg} {m : MemSys}

/-- The registers and addresses of the outstanding loads. -/
def targets (m : MemSys) : List (RegSlot × PAddr) := m.maf.map MafEntry.target

theorem acceptFirst_targets : ∀ l : List MafEntry, (acceptFirst l).map MafEntry.target = l.map MafEntry.target
  | [] => rfl
  | e :: rest => by
    unfold acceptFirst
    cases e.waits with
    | true => rfl
    | false => exact congrArg (e.target :: ·) (acceptFirst_targets rest)

theorem readFirst_targets (c : CacheCfg) (m : MemSys) : (m.readFirst c).targets = m.targets := by
  unfold readFirst
  split
  · rfl
  · exact acceptFirst_targets m.maf

theorem readThrough_targets (c : CacheCfg) : ∀ (n : Nat) (m : MemSys), (m.readThrough c n).targets = m.targets
  | 0, _ => rfl
  | n + 1, m => (readThrough_targets c n (m.readFirst c)).trans (readFirst_targets c m)

theorem send_targets (c : CacheCfg) (m : MemSys) (e : WbEntry) : (m.send c e).targets = m.targets :=
  readThrough_targets c _ m

theorem sendOldest_targets (c : CacheCfg) : ∀ (n : Nat) (m : MemSys), (m.sendOldest c n).targets = m.targets
  | 0, _ => rfl
  | n + 1, m => by
    unfold sendOldest
    split
    · rfl
    · exact (sendOldest_targets c n _).trans (send_targets c _ _)

theorem issueFirst_targets (c : CacheCfg) (m : MemSys) : (m.issueFirst c).targets = m.targets := by
  unfold issueFirst
  split
  · rfl
  · refine (readFirst_targets c _).trans ?_
    generalize MafEntry.conflict _ = conflict
    cases conflict with
    | true => exact sendOldest_targets c _ m
    | false => rfl

theorem issueThrough_targets (c : CacheCfg) : ∀ (n : Nat) (m : MemSys), (m.issueThrough c n).targets = m.targets
  | 0, _ => rfl
  | n + 1, m => (issueThrough_targets c n (m.issueFirst c)).trans (issueFirst_targets c m)

/-- A load stays outstanding if no load of its block is asked to return. -/
theorem finish_stays {stopped : Bool} {p : MafEntry → Bool} {e : MafEntry} (he : e ∈ m.maf)
    (hp : ∀ x ∈ m.maf, x.block = e.block → p x = false) :
    ∃ x ∈ (m.finish stopped c p).maf, x.slot = e.slot ∧ x.addr = e.addr := by
  have htargets : (bif stopped then m else m.issueThrough c
      (waitingThrough (fun e => m.maf.any fun x => p x && x.block == e.block) m.maf)).targets = m.targets := by
    cases stopped with
    | true => rfl
    | false => exact issueThrough_targets c _ m
  have hmem : e.target ∈ m.targets := List.mem_map_of_mem he
  rw [← htargets] at hmem
  obtain ⟨x, hx, htarget⟩ := List.mem_map.mp hmem
  refine ⟨x, List.mem_filter.mpr ⟨hx, ?_⟩, congrArg Prod.fst htarget, congrArg Prod.snd htarget⟩
  have hstays : (m.maf.any fun y => p y && y.block == x.block) = false := by
    rw [List.any_eq_false, MafEntry.block_of_target htarget]
    intro y hy hpy
    rw [Bool.and_eq_true, beq_iff_eq] at hpy
    exact Bool.false_ne_true ((hp y hy hpy.2).symm.trans hpy.1)
  dsimp only
  rw [hstays]
  rfl

end MemSys

/-! ### The loads that a word needs (70_reset_and_hazards.md R1137) -/

theorem keepsLock_cond_withMemSys (s : State) (b : Bool) (f : CacheCfg → MemSys → MemSys) :
    keepsLock s (bif b then s.withMemSys f else s) := by
  cases b with
  | true => exact s.withMemSys_lockKept f
  | false => exact ⟨fun _ => rfl, id⟩

theorem State.useRegisters_loadsReturned (f : State) (w : Long) : loadsReturned f w (f.useRegisters w) := by
  refine ⟨?frame, keepsLock_cond_withMemSys f _ _, fun e he hunused => ?stays⟩
  all_goals unfold State.useRegisters; generalize f.memsys.maf.any (f.uses w) = used
  case frame => cases used <;> rfl
  case stays =>
    cases used with
    | true => exact MemSys.finish_stays he hunused
    | false => exact ⟨e, he, rfl, rfl⟩

/-! ### After the instruction -/

theorem State.noteEntry_frame (s : State) :
    { s.noteEntry with memsys := s.memsys, lockFlag := s.lockFlag, model := s.model } = s ∧
      keepsLock s s.noteEntry := by
  unfold State.noteEntry
  split
  · exact ⟨rfl, fun _ => rfl, id⟩
  · next e _ =>
    refine ⟨?_, keepsLock_cond_withMemSys s _ _⟩
    unfold State.drainFor
    cases e.drains && s.memsys.maf.any (·.waits) <;> rfl

theorem State.noteEntry_none {s : State} (h : s.model.lastEntry = none) : s.noteEntry = s := by
  rw [State.noteEntry, h]

/-- `settle` changes the model's own fields, and then notes the entry. -/
theorem settle_next {s u v : State} {pa : Nat} {w : Long} (h : settle s pa w u = .next v) :
    ∃ k : Model, k.lastEntry = u.model.lastEntry ∧ v = { u with model := k }.noteEntry := by
  unfold settle at h
  cases hleft : s.leftOwing pa w u with
  | true =>
    rw [hleft] at h
    cases h
  | false =>
    rw [hleft] at h
    cases h
    refine ⟨_, ?_, rfl⟩
    cases Entry.completes u.model.lastEntry <;> rfl

theorem settle_frame {s u v : State} {pa : Nat} {w : Long} (h : settle s pa w u = .next v) :
    { v with memsys := u.memsys, lockFlag := u.lockFlag, model := u.model } = u ∧ keepsLock u v ∧
      (u.model.lastEntry = none → v.memsys = u.memsys ∧ v.lockFlag = u.lockFlag) := by
  obtain ⟨k, hlast, rfl⟩ := settle_next h
  obtain ⟨hframe, hlock⟩ := State.noteEntry_frame { u with model := k }
  refine ⟨congrArg (fun t : State => { t with model := u.model }) hframe, hlock, fun hnone => ?_⟩
  rw [State.noteEntry_none (hlast.trans hnone)]
  exact ⟨rfl, rfl⟩

end Sys2Proof.Machine

/-! # A step -/

namespace Sys2Proof.Machine

/-! ### The state that fetches -/

/-- `g` is `s` at the start of a step, but for what the boundary counts in the model's own fields. -/
inductive Begun (s : State) : State → Prop where
  | intro (k : Model) (hazards : k.hazards = s.model.hazards) (owed : k.owed = s.model.owed)
      (stale : k.stale = s.model.stale) (quiet : k.cbuQuiet = s.model.cbuQuiet) (entry : k.lastEntry = none) : Begun s { s.begin with model := k }

variable {s g : State} {pa : PAddr} {a : Nat} {w : Long}

theorem Begun.drawn (h : Begun s g) : Begun s g.drawn := by
  obtain ⟨k, hazards, owed, stale, quiet, entry⟩ := h
  exact .intro { k with draws := k.draws + 1 } hazards owed stale quiet entry

theorem Begun.fetched_self (h : Begun s g) : fetched s g := by
  obtain ⟨k, hazards, owed, stale, quiet, entry⟩ := h
  exact ⟨rfl, ⟨fun _ => rfl, id⟩, rfl, fun _ => rfl, rfl, hazards, owed, entry⟩

theorem State.istreamRead_lockKept (s : State) (pa : PAddr) : keepsLock s (s.istreamRead pa) := by
  have read (f : CacheCfg → MemSys → MemSys) : keepsLock s ((s.withMemSys f).takeForced.holdBlock pa.toNat) :=
    s.withMemSys_lockKept f
  exact read _

theorem Begun.istreamRead_fetched (h : Begun s g) (posted : s.memsys.caches.posted = []) (pa : PAddr) :
    fetched s (g.istreamRead pa) := by
  obtain ⟨k, hazards, owed, stale, quiet, entry⟩ := h
  exact ⟨rfl, State.istreamRead_lockKept { s.begin with model := k } pa, State.istreamRead_cbu _ _,
    fun hc => State.istreamRead_cbu_unforced (s := { s.begin with model := k }) hc posted pa, rfl, hazards, owed, entry⟩

/-- What the caches do with the read of a block does not depend on the model's own fields. -/
theorem Begun.istreamRead_memsys (h : Begun s g) (pa : PAddr) :
    (g.istreamRead pa).memsys = (s.begin.istreamRead pa).memsys := by
  obtain ⟨k, -, -, -, -, -⟩ := h
  rfl

/-! ### The word fetched -/

/-- Memory alone answers a fetch: no store waits over the word, and its bytes are known, before its
block is read and after. -/
def State.PlainWord (s : State) (a : Nat) : Prop :=
  ∀ k < 4, s.memsys.covers (a + k) = false ∧ a + k ∉ s.memsys.caches.poisoned ∧
    a + k ∉ (s.begin.istreamRead (BitVec.ofNat 40 a)).memsys.caches.poisoned

theorem bytesIn_any_false {p : Nat → Bool} {n : Nat} (h : ∀ k < n, p (a + k) = false) :
    (bytesIn a n).any p = false := by
  simpa [bytesIn] using h

theorem Begun.fetchMiss (h : Begun s g) (plain : s.PlainWord a) :
    g.fetchMiss a = ⟨Memory.long s.mem a, 0, true, g.istreamRead (BitVec.ofNat 40 a)⟩ := by
  have hcovers : (bytesIn a 4).any (g.istreamRead (BitVec.ofNat 40 a)).memsys.covers = false := by
    refine bytesIn_any_false fun k hk => ?_
    rw [h.istreamRead_memsys]
    exact (plain k hk).1
  have hknown : (g.istreamRead (BitVec.ofNat 40 a)).unknownAt a = false := by
    refine bytesIn_any_false fun k hk => ?_
    rw [h.istreamRead_memsys, Bool.eq_false_iff, Ne, List.elem_iff]
    exact (plain k hk).2.2
  have hmem : g.mem = s.mem := by
    obtain ⟨k, -, -, -, -, -⟩ := h
    rfl
  unfold State.fetchMiss
  dsimp only
  rw [hcovers, State.memoryWord, hknown, State.istreamRead_mem, hmem]
  rfl

/-- What a fetch gives when everything that the Icache may hold agrees with memory. -/
structure Fetches (s : State) (a : Nat) (r : Fetched) : Prop where
  word : r.word = Memory.long s.mem a
  bad : r.bad = 0
  state : fetched s r.state
  posted : r.missed = false ∨ (s.begin.istreamRead (BitVec.ofNat 40 a)).memsys.caches.posted = [] →
    r.state.memsys.caches.posted = []

theorem Begun.fetches_hit (h : Begun s g) (posted : s.memsys.caches.posted = []) :
    Fetches s a ⟨Memory.long s.mem a, 0, false, g⟩ := by
  refine ⟨rfl, rfl, h.fetched_self, fun _ => ?_⟩
  obtain ⟨k, -, -, -, -, -⟩ := h
  exact posted

theorem Begun.fetches_miss (h : Begun s g) (posted : s.memsys.caches.posted = []) (plain : s.PlainWord a) :
    Fetches s a (g.fetchMiss a) := by
  rw [h.fetchMiss plain]
  refine ⟨rfl, rfl, h.istreamRead_fetched posted _, fun hread => ?_⟩
  rw [h.istreamRead_memsys]
  exact hread.resolve_left Bool.noConfusion

theorem Begun.fetches_choose (posted : s.memsys.caches.posted = []) (plain : s.PlainWord a) :
    ∀ {l : List (Long × BitVec 2)} {g : State}, Begun s g → (∀ v ∈ l, v = (Memory.long s.mem a, 0)) →
      Fetches s a (State.fetchChoose a l g)
  | [], _, h, _ => h.fetches_miss posted plain
  | v :: rest, g, h, hl => by
    rw [List.forall_mem_cons] at hl
    obtain ⟨hv, hrest⟩ := hl
    unfold State.fetchChoose
    cases g.drawChoice with
    | true =>
      rw [hv]
      exact h.drawn.fetches_hit posted
    | false => exact fetches_choose posted plain h.drawn hrest

/-- A fetch of a word that memory alone answers. -/
theorem Begun.fetches (h : Begun s g) (posted : s.memsys.caches.posted = []) (plain : s.PlainWord a)
    (srom : g.sromHits = []) (cached : ∀ v ∈ g.cached a, v = (Memory.long s.mem a, 0)) : Fetches s a (g.fetchWord a) := by
  rw [State.fetchWord, srom]
  exact fetches_choose posted plain h cached

theorem Begun.fetches_missed (h : Begun s g) (plain : s.PlainWord a) (srom : g.sromHits = [])
    (cached : g.cached a = []) :
    (g.fetchWord a).missed = true := by
  rw [State.fetchWord, srom, State.fetchSrom, cached, State.fetchChoose, h.fetchMiss plain]

/-! ### From the step to the fetch -/

theorem State.onBus_eq (s : State) (cbu : inCbu pa = false) : s.busAddress pa = s.onBus pa := by
  have hlow : pa.toNat < 0xFFFFF00000 := by
    rw [← Bool.not_eq_true, inCbu_iff] at cbu
    omega
  rw [State.busAddress, State.onBus, cbu, Bool.not_false, Bool.and_true, PAddr.getLsbD_39]
  have hmask : (0x9FFFFFFFFF : PAddr) = ~~~0x6000000000 := by decide
  simp only [State.byteWordEnabled, State.icsrBit, bit, Bool.cond_eq_ite, Bool.and_eq_true, decide_eq_true_iff, hlow,
    and_true, hmask]

/-- An entry that waits for loads that do not return leaves the state as it is. -/
def heldAt (s v : State) : Result State := if s.entryHeld v = true then .next s.begin else .next v

theorem orMachineCheck_none {k : State → Result State} (h : s.machineChecks = []) :
    orMachineCheck k s = k { s with model := { s.model with checkWaited := 0 } } := by
  have hempty : s.machineChecks.isEmpty = true := List.isEmpty_iff.mpr h
  rw [orMachineCheck, hempty, cond_true]

theorem orMachineCheck_orArith_none {k : State → Result State} (checks : s.machineChecks = [])
    (arith : s.arithPending = false) :
    orMachineCheck (orArith k) s = k { s with model := { s.model with checkWaited := 0 } } := by
  rw [orMachineCheck_none checks]
  show (bif s.arithPending then _ else k _) = _
  rw [arith, cond_false]

theorem orInterrupt_none {k : State → Result State} (h : s.interruptDeliverable = false) :
    orInterrupt k s = k { s with model := { s.model with postponed := 0 } } := by
  rw [orInterrupt, h, cond_false]

theorem step_eq_boundary (posted : s.memsys.caches.posted = []) (inbox : s.model.inbox = [])
    (checks : s.machineChecks = []) (arith : s.arithPending = false) :
    step s = andThen (boundary { s.begin with model := { s.begin.model with checkWaited := 0 } }) (heldAt s) := by
  have hcycle : step s = atBoundary s.begin := by
    unfold step cycle
    dsimp only
    rw [posted]
    dsimp only
    rw [inbox]
  rw [hcycle, atBoundary, orMachineCheck_orArith_none (s := s.begin) checks arith]
  refine congrArg _ (funext fun v => ?_)
  rw [heldAt, Bool.cond_eq_ite]
  rfl

/-- The fetch at a boundary where nothing else comes first: physical in PALmode, translated by the present
state in native mode. -/
def State.FetchesFrom (s : State) (pa : PAddr) : Prop :=
  s.palmode = true ∧ pa = palFetchPa s.pc ∨
    s.palmode = false ∧ s.model.former = [] ∧ s.translateFetch (s.pc &&& ~~~3) = .ok pa ∧
      s.interruptDeliverable = false

theorem clearLow_two (v : Quad) : clearLow v 2 = v &&& ~~~3 := by
  apply BitVec.eq_of_getLsbD_eq
  intro i hi
  have hmask : (~~~3 : Quad).getLsbD i = decide (2 ≤ i) := by
    revert i
    decide
  rw [clearLow, BitVec.getLsbD_shiftLeft, BitVec.getLsbD_ushiftRight, BitVec.getLsbD_and, hmask]
  by_cases hlow : 2 ≤ i
  · have hone : 1 < i := hlow
    simp [hi, hlow, hone]
  · simp [hlow, Nat.lt_of_not_le hlow]

theorem boundary_runAt (h : s.FetchesFrom pa) : ∃ p,
    boundary s = runAt pa { s with model := { s.model with postponed := p } } := by
  rcases h with ⟨hpal, rfl⟩ | ⟨hpal, former, translation, noInterrupt⟩
  · refine ⟨s.model.postponed, ?_⟩
    rw [boundary, hpal, cond_true]
  · refine ⟨0, ?_⟩
    have hchosen : chooseTranslation (clearLow s.pc 2) s.model.former s = (.ok pa, s) := by
      rw [former, chooseTranslation, clearLow_two, translation]
    unfold boundary
    rw [hpal, cond_false, hchosen]
    exact orInterrupt_none noInterrupt

/-- A step at which nothing comes before the instruction fetches it. -/
theorem step_eq_runAt (posted : s.memsys.caches.posted = []) (inbox : s.model.inbox = [])
    (checks : s.machineChecks = []) (arith : s.arithPending = false) (h : s.FetchesFrom pa) :
    ∃ g, Begun s g ∧ g.sromHits = s.sromHits ∧ (∀ a, g.cached a = s.cached a) ∧
      step s = andThen (runAt pa g) (heldAt s) := by
  obtain ⟨p, hp⟩ := boundary_runAt (s := { s.begin with model := { s.begin.model with checkWaited := 0 } }) h
  refine ⟨_, .intro { s.begin.model with checkWaited := 0, postponed := p } rfl rfl rfl rfl rfl, rfl,
    fun a => rfl, ?_⟩
  rw [step_eq_boundary posted inbox checks arith, hp]

/-! ### The word -/

theorem Begun.busAddress (h : Begun s g) (cbu : inCbu pa = false) : g.busAddress pa = s.onBus pa := by
  obtain ⟨k, -, -, -, -, -⟩ := h
  exact s.onBus_eq cbu

theorem Begun.cbuQuiet (h : Begun s g) : g.model.cbuQuiet = s.model.cbuQuiet := by
  obtain ⟨k, -, -, -, quiet, -⟩ := h
  exact quiet

/-- A fetch of a word with good parity: it breaks the order of Table 5-36, it has posted an error,
or the word runs. -/
theorem Begun.runAt_cases (h : Begun s g) (cbu : inCbu pa = false) {r : Fetched}
    (fetch : g.fetchWord (s.onBus pa).toNat = r) (bad : r.bad = 0) :
    let forbidden := r.missed = true ∧ s.model.cbuQuiet = true ∧ pa.toNat < 2 ^ 39
    (forbidden → runAt pa g = .refused .cbuOrder) ∧
      (¬forbidden → r.state.memsys.caches.posted ≠ [] → runAt pa g = .next r.state) ∧
      (¬forbidden → r.state.memsys.caches.posted = [] →
        runAt pa g = runWord (s.onBus pa).toNat r.word r.state) := by
  have hforbidden : (r.missed && s.model.cbuQuiet && !pa.getLsbD 39) = true ↔
      r.missed = true ∧ s.model.cbuQuiet = true ∧ pa.toNat < 2 ^ 39 := by
    rw [Bool.and_eq_true, Bool.and_eq_true, Bool.not_eq_true', PAddr.getLsbD_39,
      decide_eq_false_iff_not, Nat.not_le, and_assoc]
  have hrun : runAt pa g = bif r.missed && s.model.cbuQuiet && !pa.getLsbD 39 then .refused .cbuOrder
      else bif !r.state.memsys.caches.posted.isEmpty then .next r.state
      else runWord (s.onBus pa).toNat r.word r.state := by
    rw [runAt, cbu, cond_false]
    dsimp only
    rw [h.busAddress cbu, h.cbuQuiet, fetch, bad]
    rfl
  rw [← hforbidden, hrun]
  refine ⟨fun h => ?_, fun h posted => ?_, fun h posted => ?_⟩
  · rw [h, cond_true]
  · have hposted : r.state.memsys.caches.posted.isEmpty = false :=
      Bool.eq_false_iff.mpr (mt List.isEmpty_iff.mp posted)
    rw [Bool.eq_false_iff.mpr h, cond_false, hposted]
    rfl
  · rw [Bool.eq_false_iff.mpr h, cond_false, posted]
    rfl

/-- The word that a step has fetched: it waits, it is forbidden, or it is carried out. -/
theorem runWord_instr {f : State} {i : Instr} (hi : decode w = .instr i) (a : Nat) :
    let t := f.useRegisters w
    (f.blocked w = true → runWord a w f = .next f) ∧
      (f.blocked w = false → t.restricted a w = true → runWord a w f = .refused .palcodeRestriction) ∧
      (f.blocked w = false → t.restricted a w = false → runWord a w f =
        andThen (exec i t) fun u => if t.accessWaited w u = true then .next u else settle t a w u) := by
  intro t
  refine ⟨fun h => ?_, fun h hr => ?_, fun h hr => ?_⟩
  · rw [runWord, h, cond_true]
  · rw [runWord, h, cond_false]
    dsimp only
    rw [hr, cond_true]
  · rw [runWord, h, cond_false]
    dsimp only
    rw [hr, cond_false, hi]
    simp only [Bool.cond_eq_ite]
    rfl

/-- With the arbiter running nothing waits. -/
theorem heldAt_running (running : s.mtu.mafMode.getLsbD 5 = false) (v : State) : heldAt s v = .next v := by
  have hheld : s.entryHeld v = false := by
    rw [State.entryHeld, State.stopped, running, Bool.false_and, Bool.false_and]
  rw [heldAt, hheld]
  rfl

theorem heldAt_noEntry {v : State} (h : v.model.lastEntry = none) : heldAt s v = .next v := by
  have hheld : s.entryHeld v = false := by
    rw [State.entryHeld, h, Option.any_none, Bool.and_false, Bool.false_and]
  rw [heldAt, hheld]
  rfl

theorem accessWaited_running {t u : State} (running : t.mtu.mafMode.getLsbD 5 = false) :
    t.accessWaited w u = false := by
  rw [State.accessWaited, State.stopped, running, Bool.false_and, Bool.false_and, Bool.false_and]

theorem andThen_pure (r : Result State) {k : State → Result State} (h : ∀ v, k v = .next v) :
    andThen r k = r := by
  cases r with
  | next v => exact h v
  | fault f => rfl
  | refused f => rfl

/-- Settles O4: the boundary leads to the fetch, the fetch to the word, and the word is the instruction's. -/
theorem stepRunsTheDecodedInstruction : Obligations.StepRunsTheDecodedInstruction := by
  intro s pa i posted inbox checks arith fetch cbu a w srom cached plain hi
  have haddr : BitVec.ofNat 40 a = s.onBus pa := by rw [BitVec.ofNat_toNat, BitVec.setWidth_eq]
  have hplain : s.PlainWord a := by
    unfold State.PlainWord
    rw [haddr]
    exact plain
  obtain ⟨g, hg, hsrom, hcached, hstep⟩ := step_eq_runAt posted inbox checks arith fetch
  obtain ⟨hword, hbad, hfetched, hposted⟩ :=
    hg.fetches posted hplain (hsrom.trans srom) ((hcached a).symm ▸ cached)
  have hmissed := hg.fetches_missed hplain (hsrom.trans srom)
  obtain ⟨hforbidden, hpends, hruns⟩ := hg.runAt_cases cbu rfl hbad
  rw [hword] at hruns
  rw [haddr] at hposted
  generalize g.fetchWord a = r at hfetched hposted hmissed hforbidden hpends hruns
  obtain ⟨hframe, -, -, -, -, -, -, hentry⟩ := id hfetched
  have hmtu : r.state.mtu = s.mtu := by
    have h := congrArg State.mtu hframe
    exact h
  obtain ⟨hwaits, hstops, hgoes⟩ := runWord_instr (f := r.state) hi a
  refine ⟨r.state, r.missed, hfetched, fun h => hmissed ((hcached a).trans h), hposted,
    fun h => ?_, fun h hp => ?_, fun h hp => ?_⟩
  · rw [hstep, hforbidden h]
    rfl
  · rw [hstep, hpends h hp]
    exact heldAt_noEntry hentry
  · have hrun := hstep.trans (congrArg (andThen · (heldAt s)) (hruns h hp))
    refine ⟨r.state.useRegisters_loadsReturned w, fun hb => ?_, fun hb hr => ?_,
      fun hb hr => ⟨?_, fun running => ?_, ?_⟩⟩
    · rw [hrun, hwaits hb]
      exact heldAt_noEntry hentry
    · rw [hrun, hstops hb hr]
      rfl
    · rw [hrun, hgoes hb hr]
      rfl
    · have hgo (u : State) : (r.state.useRegisters w).accessWaited w u = false :=
        accessWaited_running (by rw [State.useRegisters_mtu, hmtu, running])
      rw [hrun, hgoes hb hr, andThen_pure _ (heldAt_running running)]
      simp only [hgo, Bool.false_eq_true, if_false]
    · exact fun u v _ hv => settle_frame hv

end Sys2Proof.Machine

/-! # Addresses, and the memory formats of the floating-point registers -/

namespace Sys2Proof.Machine

/-! ### Sums as the statements have them -/

theorem State.address_eq (s : State) (rb : Reg) (disp : BitVec 16) :
    s.address rb disp = BitVec.ofInt 64 ((s.readReg rb).toInt + disp.toInt) := by
  rw [State.address, BitVec.ofInt_add, BitVec.ofInt_toInt, BitVec.signExtend]

theorem shiftLeft_sixteen (v : Quad) : v <<< 16 = BitVec.ofInt 64 (65536 * v.toInt) := by
  rw [BitVec.ofInt_mul, BitVec.ofInt_toInt, BitVec.shiftLeft_eq_mul_twoPow, BitVec.mul_comm]
  rfl

/-- Settles O17: both instructions write the sum, here taken as one of integers. -/
theorem loadAddressResults : Obligations.LoadAddressResults := by
  intro ra rb disp s
  constructor
  · rw [← s.address_eq]
    rfl
  · have upper : s.readReg rb + (disp.signExtend 64 <<< 16) =
        BitVec.ofInt 64 ((s.readReg rb).toInt + 65536 * disp.toInt) := by
      rw [shiftLeft_sixteen, BitVec.toInt_signExtend_of_le (by decide), BitVec.ofInt_add, BitVec.ofInt_toInt]
    rw [← upper]
    rfl

/-! ### The memory formats (44_fp_common.md R731 to R735) -/

/-- One part in front of another is a sum of numbers. -/
theorem toNat_append_add {m n : Nat} (x : BitVec m) (y : BitVec n) : (x ++ y).toNat = x.toNat * 2 ^ n + y.toNat := by
  rw [BitVec.toNat_append, ← Nat.shiftLeft_add_eq_or_of_lt y.isLt, Nat.shiftLeft_eq]

/-- MAP_S keeps the bits of the exponent that STS stores. -/
theorem mapS_kept (e : BitVec 8) : (mapS e).getLsbD 10 = e.getLsbD 7 ∧ ∀ k < 7, (mapS e).getLsbD k = e.getLsbD k := by
  revert e
  decide

/-- MAP_F keeps the bits of the exponent that STF stores. -/
theorem mapF_kept (e : BitVec 8) : (mapF e).getLsbD 10 = e.getLsbD 7 ∧ ∀ k < 7, (mapF e).getLsbD k = e.getLsbD k := by
  revert e
  decide

/-- The exponent changes its excess from 127 to 1023. -/
theorem toNat_mapS {e : BitVec 8} (zero : e.toNat ≠ 0) (infinite : e.toNat ≠ 255) : (mapS e).toNat = e.toNat + 896 := by
  revert e
  decide

/-- The exponent changes its excess from 128 to 1024. -/
theorem toNat_mapF {e : BitVec 8} (zero : e.toNat ≠ 0) : (mapF e).toNat = e.toNat + 896 := by
  revert e
  decide

/-- The parts of the register image of an S datum: sign, exponent and fraction. -/
theorem toNat_loadS (m : Long) : (loadS m).toNat =
    m.toNat / 2 ^ 31 * 2 ^ 63 + (mapS (m.extractLsb' 23 8)).toNat * 2 ^ 52 + m.toNat % 2 ^ 23 * 2 ^ 29 := by
  have lt := m.isLt
  have lt' := (mapS (m.extractLsb' 23 8)).isLt
  simp only [loadS, toNat_append_add, toNat_extractLsb', BitVec.ofNat_eq_ofNat, BitVec.toNat_ofNat, Nat.reducePow]
  omega

/-- Sign, exponent and fraction, whose high part stands in the low word. -/
theorem toNat_loadF (m : Long) : (loadF m).toNat =
    m.toNat / 2 ^ 15 % 2 * 2 ^ 63 + (mapF (m.extractLsb' 7 8)).toNat * 2 ^ 52 +
      (m.toNat % 2 ^ 7 * 2 ^ 16 + m.toNat / 2 ^ 16) * 2 ^ 29 := by
  have lt := m.isLt
  have lt' := (mapF (m.extractLsb' 7 8)).isLt
  simp only [loadF, toNat_append_add, toNat_extractLsb', BitVec.ofNat_eq_ofNat, BitVec.toNat_ofNat, Nat.reducePow]
  omega

/-! Bit by bit a store reads, through the appended fields, the bit that the load had put there. -/

theorem storeS_loadS (m : Long) : storeS (loadS m) = m := by
  obtain ⟨top, low⟩ := mapS_kept (m.extractLsb' 23 8)
  apply BitVec.eq_of_getLsbD_eq
  intro i hi
  simp only [storeS, loadS, slice, BitVec.getLsbD_append, BitVec.getLsbD_extractLsb'] at top low ⊢
  grind

theorem storeF_loadF (m : Long) : storeF (loadF m) = m := by
  obtain ⟨top, low⟩ := mapF_kept (m.extractLsb' 7 8)
  apply BitVec.eq_of_getLsbD_eq
  intro i hi
  simp only [storeF, loadF, slice, BitVec.getLsbD_append, BitVec.getLsbD_extractLsb'] at top low ⊢
  have field : i < 14 ∨ i = 14 ∨ i = 15 ∨ 16 ≤ i := by omega
  rcases field with field | rfl | rfl | field
  · grind
  · simpa using top
  · simp
  · grind

theorem swapG_swapG (m : Quad) : swapG (swapG m) = m := by
  apply BitVec.eq_of_getLsbD_eq
  intro i hi
  simp only [swapG, slice, BitVec.getLsbD_append, BitVec.getLsbD_extractLsb']
  grind

/-- Settles O20: by the parts of the register images, and what the maps of the exponents keep and add. -/
theorem floatingMemoryFormats : Obligations.FloatingMemoryFormats := by
  refine ⟨storeS_loadS, storeF_loadF, swapG_swapG, fun m => ?_, fun m => ?_⟩
  · intro e zero infinite
    have exponent : (m.extractLsb' 23 8).toNat = e := toNat_extractLsb' ..
    rw [← exponent] at zero infinite ⊢
    rw [toNat_loadS, toNat_mapS zero infinite]
  · intro e zero
    have exponent : (m.extractLsb' 7 8).toNat = e := toNat_extractLsb' ..
    rw [← exponent] at zero ⊢
    rw [toNat_loadF, toNat_mapF zero]

end Sys2Proof.Machine

/-! # References that fail translation -/

namespace Sys2Proof.Machine

/-! ### The entries of data references (20_memory.md R327; 60_exceptions.md R960) -/

/-- The entries that a data reference takes, with their offsets. -/
def referenceEntries : List (Entry × Nat) :=
  [(.dtbmissSingle, 0x200), (.dtbmissDouble, 0x280), (.unalign, 0x300), (.dfault, 0x380)]

/-- A translation that traps does so at one of them. -/
def Translation.TrapsAsReference (t : Translation) : Prop :=
  ∀ e c, t = .trap e c → (e, e.offset.toNat) ∈ referenceEntries

section
variable {r : DRef}

theorem trapsAsReference_trap {e : Entry} {c : MmCause} (h : (e, e.offset.toNat) ∈ referenceEntries) :
    (Translation.trap e c).TrapsAsReference := by
  rintro _ _ ⟨⟩
  exact h

theorem trapsAsReference_cond {b : Bool} {t u : Translation} (ht : t.TrapsAsReference) (hu : u.TrapsAsReference) :
    (bif b then t else u).TrapsAsReference := by
  cases b with
  | true => exact ht
  | false => exact hu

theorem checkDtb_traps (mode : BitVec 2) (p : DtbPte) : (checkDtb r mode p).TrapsAsReference :=
  trapsAsReference_cond (trapsAsReference_trap (by decide)) nofun

theorem afterMiss_traps {k : Translation} (hk : k.TrapsAsReference) : (afterMiss r k).TrapsAsReference :=
  trapsAsReference_cond (trapsAsReference_trap (by decide)) (trapsAsReference_cond (trapsAsReference_trap (by decide)) hk)

theorem State.translateVirtual_traps (s : State) (r : DRef) : (s.translateVirtual r).TrapsAsReference := by
  cases hits : s.dtbHits r.va with
  | nil =>
    rw [State.translateVirtual_nil hits]
    refine trapsAsReference_cond (trapsAsReference_trap ?_) (afterMiss_traps nofun)
    cases r.vpte <;> decide
  | cons p rest =>
    rw [State.translateVirtual_cons hits]
    exact afterMiss_traps (trapsAsReference_cond nofun (checkDtb_traps _ p))

theorem State.translate_traps (s : State) (r : DRef) : (s.translate r).TrapsAsReference := by
  unfold State.translate
  refine trapsAsReference_cond nofun ?_
  have traps := s.translateVirtual_traps r
  revert traps
  cases s.translateVirtual r with
  | ok pa => exact fun _ => nofun
  | multiple => exact fun _ => nofun
  | trap e c => exact id

end

/-! ### What they record (12_state_mtu_iprs.md R190, R191) -/

theorem mmStatOf_eq (op : BitVec 6) (ra : Reg) (c : MmCause) : mmStatOf op ra c =
    BitVec.ofNat 17 (op.toNat * 2 ^ 11 + ra.toNat * 2 ^ 6 + (c.badVa.toNat * 32 + c.dtbMiss.toNat * 16 + c.fow.toNat * 8 +
      c.for_.toNat * 4 + c.acv.toNat * 2 + c.wr.toNat)) := by
  have parts : (mmStatOf op ra c).toNat = op.toNat * 2 ^ 11 + ra.toNat * 2 ^ 6 + (c.badVa.toNat * 32 + c.dtbMiss.toNat * 16 +
      c.fow.toNat * 8 + c.for_.toNat * 4 + c.acv.toNat * 2 + c.wr.toNat) := by
    simp only [mmStatOf, toNat_append_add, BitVec.toNat_ofBool]
    ring
  rw [← parts, BitVec.ofNat_toNat, BitVec.setWidth_eq]

theorem recordMm_eq (r : DRef) (c : MmCause) (s : State) : recordMm r c s =
    recorded r (c.badVa.toNat * 32 + c.dtbMiss.toNat * 16 + c.fow.toNat * 8 + c.for_.toNat * 4 + c.acv.toNat * 2 + c.wr.toNat)
      s := by
  rw [recordMm, mmStatOf_eq, State.latchMm, recorded, Bool.cond_eq_ite]

/-! ### The instructions -/

theorem Entry.offset_even (e : Entry) : e.offset.getLsbD 0 = false := by cases e <;> rfl

/-- An instruction that begins with a translation traps as its reference does. -/
theorem referenceTraps_of_translated {i : Instr} {s : State} {r : DRef} {k : PAddr → State → Result State}
    (hi : exec i s = translated r k s) : referenceTraps i s r := by
  intro e c trap
  have next : exec i s = .next (takeEntry e (recordMm r c) s) := by rw [hi, translated, trap]
  refine ⟨e.offset.toNat, s.translate_traps r e c trap, fun none => ?_, fun owed => ?_⟩
  · have pc : (recorded r _ s).pc = s.pc := (congrArg State.pc (recordMm_eq r c s)).symm.trans (State.latchMm_pc ..)
    rw [next, takeEntry, none, cond_false, recordMm_eq, ← enterPal_eq_enteredAt e e.offset_even, pc]
  · rw [next, takeEntry, owed, cond_true, takeArith]
    exact congrArg Host.Outcome.next (enterPal_eq_enteredAt .arith rfl { s with arithPending := false })

/-- HW_LD and HW_ST with a virtual address. -/
theorem hwReferences_trap (ra rb : Reg) (alt wrtck quad vpte lock cond : Bool) (disp : BitVec 10) (s : State)
    (h : s.palOpcodeAllowed = true) :
    referenceTraps (.hw_ld ra rb false alt wrtck quad vpte lock disp) s (hwLoadRef ra rb false alt wrtck quad vpte lock disp s) ∧
    referenceTraps (.hw_st ra rb false alt false quad false cond disp) s (hwStoreRef ra rb false alt quad disp s) := by
  constructor
  · cases lock with
    | true => exact referenceTraps_of_translated (exec_hwLd_lock h)
    | false => exact referenceTraps_of_translated (exec_hwLd h)
  · cases cond with
    | true => exact referenceTraps_of_translated (exec_hwSt_cond h)
    | false => exact referenceTraps_of_translated (exec_hwSt h)

/-- Settles O23: every load and store begins with the translation of its reference. -/
theorem failingReferencesTrap : Obligations.FailingReferencesTrap := by
  refine ⟨fun ra rb disp s => ⟨?byteWord, ?ldl, ?ldq, ?ldq_u, ?ldl_l, ?ldq_l, ?stl, ?stq, ?stq_u, ?stl_c, ?stq_c, ?floating⟩,
    fun ra rb alt wrtck quad vpte lock cond disp s h => ?pal⟩
  case byteWord =>
    exact fun h => ⟨referenceTraps_of_translated (exec_ldbu h), referenceTraps_of_translated (exec_ldwu h),
      referenceTraps_of_translated (exec_stb h), referenceTraps_of_translated (exec_stw h)⟩
  case ldl => exact referenceTraps_of_translated exec_ldl
  case ldq => exact referenceTraps_of_translated exec_ldq
  case ldq_u => exact fun hra => referenceTraps_of_translated (exec_ldq_u hra)
  case ldl_l => exact referenceTraps_of_translated exec_ldl_l
  case ldq_l => exact referenceTraps_of_translated exec_ldq_l
  case stl => exact referenceTraps_of_translated exec_stl
  case stq => exact referenceTraps_of_translated exec_stq
  case stq_u => exact referenceTraps_of_translated exec_stq_u
  case stl_c => exact referenceTraps_of_translated exec_stl_c
  case stq_c => exact referenceTraps_of_translated exec_stq_c
  case floating =>
    exact fun h => ⟨referenceTraps_of_translated (exec_ldf h), referenceTraps_of_translated (exec_ldg h),
      referenceTraps_of_translated (exec_lds h), referenceTraps_of_translated (exec_ldt h),
      referenceTraps_of_translated (exec_stf h), referenceTraps_of_translated (exec_stg h),
      referenceTraps_of_translated (exec_sts h), referenceTraps_of_translated (exec_stt h)⟩
  case pal =>
    have references := hwReferences_trap ra rb alt wrtck quad vpte lock cond disp s h
    rw [hwLoadRef, hwStoreRef, hwSize_eq] at references
    exact references

end Sys2Proof.Machine

/-! # Only stores change memory -/

namespace Sys2Proof.Machine

/-- Memory is as before in the state that a result goes on with. -/
abbrev MemoryKept (s : State) (r : Result State) : Prop := allNext (fun t => t.mem = s.mem) r

variable {s : State}

/-! ### Entries -/

theorem takeEntry_mem {e : Entry} {record : State → State} (h : (record s).mem = s.mem) :
    (takeEntry e record s).mem = s.mem :=
  takeEntry_all (P := fun t => t.mem = s.mem) (fun _ => rfl) fun _ => h

theorem recordMm_mem (r : DRef) (c : MmCause) : (recordMm r c s).mem = s.mem := State.latchMm_mem ..

theorem whenFp_memoryKept {k : State → Result State} (h : MemoryKept s (k s)) : MemoryKept s (whenFp k s) :=
  whenFp_all (fun _ => takeEntry_mem rfl) fun _ => h

theorem whenByteWord_memoryKept {k : State → Result State} (h : MemoryKept s (k s)) : MemoryKept s (whenByteWord k s) :=
  whenByteWord_all (fun _ => takeEntry_mem rfl) fun _ => h

theorem whenPal_memoryKept {k : State → Result State} (h : MemoryKept s (k s)) : MemoryKept s (whenPal k s) :=
  whenPal_all (fun _ => takeEntry_mem rfl) fun _ => h

theorem afterArith_memoryKept {k : State → Result State} (h : MemoryKept s (k s)) : MemoryKept s (afterArith s k) :=
  afterArith_all (fun _ => rfl) fun _ => h

/-! ### Registers and branches -/

/-- An instruction that writes a register of a state with the same memory. -/
theorem writeReg_memoryKept {u : State} (h : u.mem = s.mem) (r : Reg) (v : Quad) : MemoryKept s (u.writeReg r v).done :=
  allNext_next ((u.writeReg_mem r v).trans h)

theorem writeFreg_memoryKept {u : State} (h : u.mem = s.mem) (r : Reg) (v : Quad) : MemoryKept s (u.writeFreg r v).done :=
  allNext_next ((u.writeFreg_mem r v).trans h)

theorem operateV_memoryKept {f : Quad → Quad → Quad} {p : Quad → Quad → Bool} {ra rc : Reg} {b : Operand} :
    MemoryKept s (operateV f p ra b rc s) := by
  refine allNext_next ?_
  cases p (s.readReg ra) (s.operand b) <;> exact s.writeReg_mem ..

theorem moveIf_memoryKept {p : Quad → Bool} {ra rc : Reg} {b : Operand} : MemoryKept s (moveIf p ra b rc s) := by
  refine allNext_next ?_
  cases p (s.readReg ra) with
  | true => exact s.writeReg_mem ..
  | false => rfl

theorem branchIf_memoryKept {c : Bool} {disp : BitVec 21} : MemoryKept s (branchIf c disp s) := allNext_next rfl

theorem branchLink_memoryKept {ra : Reg} {disp : BitVec 21} : MemoryKept s (branchLink ra disp s) :=
  allNext_next (s.writeReg_mem ..)

theorem jumpLink_memoryKept {ra rb : Reg} : MemoryKept s (jumpLink ra rb s) := allNext_next (s.writeReg_mem ..)

theorem execRpcc_memoryKept {ra : Reg} : MemoryKept s (execRpcc ra s) := by
  refine writeReg_memoryKept ?_ ra _
  cases s.mtu.ccEnabled <;> rfl

theorem prefetchHint_memoryKept {k : WriteKind} {rb : Reg} : MemoryKept s (prefetchHint k rb s) := by
  unfold prefetchHint
  cases s.model.cbuStore with
  | true => exact allNext_refused
  | false => exact allNext_next rfl

/-! ### Loads -/

theorem load_memoryKept {r : DRef} {k : Quad → State → Result State} (h : ∀ v u, u.mem = s.mem → MemoryKept s (k v u)) :
    MemoryKept s (load r k s) :=
  load_all (fun _ c _ => takeEntry_mem (recordMm_mem r c)) rfl (fun _ _ => h _ _ rfl) fun _ _ _ _ _ _ _ => h _ _ rfl

theorem loadLocked_memoryKept {r : DRef} {k : Quad → State → Result State}
    (h : ∀ v u, u.mem = s.mem → MemoryKept s (k v u)) : MemoryKept s (loadLocked r k s) :=
  loadLocked_all (fun _ c _ => takeEntry_mem (recordMm_mem r c)) rfl (fun _ _ => h _ _ (State.locks_mem ..))
    fun _ _ _ _ _ _ _ _ => h _ _ (State.locks_mem ..)

theorem loadInt_memoryKept {r : DRef} {ra : Reg} {f : Quad → Quad} :
    MemoryKept s (load r (fun m t => (t.writeReg ra (f m)).done) s) :=
  load_memoryKept fun _ _ hu => writeReg_memoryKept hu ra _

theorem loadLockedInt_memoryKept {r : DRef} {ra : Reg} {f : Quad → Quad} :
    MemoryKept s (loadLocked r (fun m t => (t.writeReg ra (f m)).done) s) :=
  loadLocked_memoryKept fun _ _ hu => writeReg_memoryKept hu ra _

theorem loadFp_memoryKept {r : DRef} {fa : Reg} {f : Quad → Quad} :
    MemoryKept s (load r (fun m t => (t.writeFreg fa (f m)).done) s) :=
  load_memoryKept fun _ _ hu => writeFreg_memoryKept hu fa _

theorem execLdqU_memoryKept {ra rb : Reg} {disp : BitVec 16} : MemoryKept s (execLdqU ra rb disp s) := by
  unfold execLdqU
  cases ra == 31 with
  | true => exact allNext_next rfl
  | false => exact loadInt_memoryKept

/-! ### Floating-point operates -/

theorem fpMoveIf_memoryKept {p : Quad → Bool} {fa fb fc : Reg} : MemoryKept s (fpMoveIf p fa fb fc s) := by
  refine whenFp_memoryKept (allNext_next ?_)
  cases p (s.readFreg fa) with
  | true => exact s.writeFreg_mem ..
  | false => rfl

theorem fpMove_memoryKept {fc : Reg} {v : State → Quad} : MemoryKept s (fpMove fc v s) :=
  whenFp_memoryKept (writeFreg_memoryKept rfl fc _)

theorem fpInstruction_memoryKept {q : Qual} {fc : Reg} {result : State → FpResult} :
    MemoryKept s (fpInstruction q fc result s) := by
  have frame := congrArg State.mem (operates_finishFp q fc (result s) s).frame
  exact whenFp_memoryKept (allNext_next frame)

/-! ### PALcode -/

theorem execCallPal_memoryKept {fn : BitVec 26} : MemoryKept s (execCallPal fn s) := by
  refine afterArith_memoryKept ?_
  cases callPalIllegal fn s.kernel with
  | true => exact raise_all (takeEntry_mem rfl)
  | false => exact allNext_next rfl

theorem leavePal_memoryKept {mbz : BitVec 14} : MemoryKept s (leavePal mbz s) := by
  refine whenPal_memoryKept ?_
  cases mbz != 0 with
  | true => exact allNext_refused
  | false =>
    cases s.palmode with
    | true => exact afterArith_memoryKept (k := fun t => .next (returnFromPal t)) (allNext_next rfl)
    | false => exact allNext_next rfl

theorem execHwLd_memoryKept {ra rb : Reg} {phys alt wrtck quad vpte lock : Bool} {disp : BitVec 10} :
    MemoryKept s (execHwLd ra rb phys alt wrtck quad vpte lock disp s) := by
  refine whenPal_memoryKept ?_
  cases lock with
  | true => exact loadLockedInt_memoryKept (f := fun m => bif quad then m else sextLong m)
  | false => exact loadInt_memoryKept (f := fun m => bif quad then m else sextLong m)

theorem execHwMfpr_memoryKept {ra rb : Reg} {index : BitVec 16} : MemoryKept s (execHwMfpr ra rb index s) := by
  refine execHwMfpr_all (fun _ => takeEntry_mem rfl) fun _ _ i v t _ read => ?_
  obtain ⟨d, m, q, rfl⟩ := readIpr_frame read
  exact (State.writeReg_mem ..).trans (State.afterMfpr_mem ..)

theorem execHwMtpr_memoryKept {ra rb : Reg} {index : BitVec 16} : MemoryKept s (execHwMtpr ra rb index s) := by
  refine execHwMtpr_all (fun _ => takeEntry_mem rfl) fun _ _ i t _ written => ?_
  obtain ⟨d, m, w, q, rfl, -⟩ := writeIpr_frame written
  rfl

/-! ### The obligation -/

/-- A floating-point operate, by the form of what it does. -/
theorem fpOperate_memoryKept {i : Instr} {w : Long} {run : State → Result State} (form : ExecForm i w run)
    (opcode : opcodeOf w ∈ ([0x15, 0x16, 0x17] : List (BitVec 6))) : MemoryKept s (run s) := by
  cases form with
  | other hop notFp => exact absurd (hop ▸ opcode) notFp
  | arithmetic => exact fpInstruction_memoryKept
  | move => exact fpMove_memoryKept
  | moveIf => exact fpMoveIf_memoryKept
  | writeFpcr => exact whenFp_memoryKept (allNext_next rfl)
  | @readFpcr fa => exact whenFp_memoryKept (writeFreg_memoryKept rfl fa _)

/-- The opcodes of the stores and of the floating-point operates. -/
def storeOrFpOpcodes : List (BitVec 6) :=
  [0x0D, 0x0E, 0x0F, 0x1F, 0x24, 0x25, 0x26, 0x27, 0x2C, 0x2D, 0x2E, 0x2F, 0x15, 0x16, 0x17]

/-- An instruction with one of these opcodes. -/
theorem memoryKept_of_opcode {w : Long} {op : BitVec 6} {r : Result State} (opcode : opcodeOf w = op)
    (mem : op ∈ storeOrFpOpcodes) (notMem : opcodeOf w ∉ storeOrFpOpcodes) : MemoryKept s r :=
  absurd (opcode ▸ mem) notMem

/-- Memory by the kind of the instruction; those that the last case stands for are the floating-point operates. -/
theorem exec_memoryKept (i : Instr) : opcodeOf (encode i) ∉ storeOrFpOpcodes → MemoryKept s (exec i s) := by
  cases i with dsimp only [exec, encode]
  | stb ra rb disp | stw ra rb disp | stl ra rb disp | stq ra rb disp | stq_u ra rb disp | stl_c ra rb disp | stq_c ra rb disp
  | stf ra rb disp | stg ra rb disp | sts ra rb disp | stt ra rb disp =>
    exact memoryKept_of_opcode (opcodeOf_encMem ..) (by decide)
  | hw_st ra rb phys alt mbz13 quad mbz11 cond disp =>
    exact memoryKept_of_opcode (opcodeOf_encHwMem ..) (by decide)
  | ldl ra rb disp | ldq ra rb disp => exact fun _ => loadInt_memoryKept
  | ldl_l ra rb disp | ldq_l ra rb disp => exact fun _ => loadLockedInt_memoryKept
  | ldbu ra rb disp | ldwu ra rb disp => exact fun _ => whenByteWord_memoryKept loadInt_memoryKept
  | ldq_u ra rb disp => exact fun _ => execLdqU_memoryKept
  | ldf fa rb disp | ldg fa rb disp | lds fa rb disp | ldt fa rb disp => exact fun _ => whenFp_memoryKept loadFp_memoryKept
  | hw_ld ra rb phys alt wrtck quad vpte lock disp => exact fun _ => execHwLd_memoryKept
  | addl_v ra b rc | addq_v ra b rc | subl_v ra b rc | subq_v ra b rc | mull_v ra b rc | mulq_v ra b rc =>
    exact fun _ => operateV_memoryKept
  | cmoveq ra b rc | cmovne ra b rc | cmovlt ra b rc | cmovle ra b rc | cmovgt ra b rc | cmovge ra b rc
  | cmovlbs ra b rc | cmovlbc ra b rc => exact fun _ => moveIf_memoryKept
  | sextb b rc | sextw b rc => exact fun _ => whenByteWord_memoryKept (writeReg_memoryKept rfl rc _)
  | addl ra b rc | addq ra b rc | subl ra b rc | subq ra b rc | s4addl ra b rc | s8addl ra b rc | s4addq ra b rc
  | s8addq ra b rc | s4subl ra b rc | s8subl ra b rc | s4subq ra b rc | s8subq ra b rc | cmpeq ra b rc | cmplt ra b rc
  | cmple ra b rc | cmpult ra b rc | cmpule ra b rc | cmpbge ra b rc | and ra b rc | bic ra b rc | bis ra b rc
  | ornot ra b rc | xor ra b rc | eqv ra b rc | sll ra b rc | srl ra b rc | sra ra b rc | zap ra b rc | zapnot ra b rc
  | mull ra b rc | mulq ra b rc | umulh ra b rc | extbl ra b rc | extwl ra b rc | extll ra b rc | extql ra b rc
  | extwh ra b rc | extlh ra b rc | extqh ra b rc | insbl ra b rc | inswl ra b rc | insll ra b rc | insql ra b rc
  | inswh ra b rc | inslh ra b rc | insqh ra b rc | mskbl ra b rc | mskwl ra b rc | mskll ra b rc | mskql ra b rc
  | mskwh ra b rc | msklh ra b rc | mskqh ra b rc | amask b rc | implver rc =>
    exact fun _ => writeReg_memoryKept rfl rc _
  | lda ra rb disp | ldah ra rb disp | rc ra | rs ra => exact fun _ => writeReg_memoryKept rfl ra _
  | rpcc ra => exact fun _ => execRpcc_memoryKept
  | trapb | excb => exact fun _ => afterArith_memoryKept (k := State.done) (allNext_next rfl)
  | mb | wmb => exact fun _ => allNext_next rfl
  | fetch rb | fetch_m rb => exact fun _ => prefetchHint_memoryKept
  | br ra disp | bsr ra disp => exact fun _ => branchLink_memoryKept
  | blbc ra disp | beq ra disp | blt ra disp | ble ra disp | blbs ra disp | bne ra disp | bge ra disp | bgt ra disp =>
    exact fun _ => branchIf_memoryKept
  | fbeq fa disp | fblt fa disp | fble fa disp | fbne fa disp | fbge fa disp | fbgt fa disp =>
    exact fun _ => whenFp_memoryKept branchIf_memoryKept
  | jmp ra rb hint | jsr ra rb hint | ret ra rb hint | jsr_coroutine ra rb hint => exact fun _ => jumpLink_memoryKept
  | call_pal fn => exact fun _ => execCallPal_memoryKept
  | hw_rei mbz | hw_rei_stall mbz => exact fun _ => leavePal_memoryKept
  | hw_mfpr ra rb index => exact fun _ => execHwMfpr_memoryKept
  | hw_mtpr ra rb index => exact fun _ => execHwMtpr_memoryKept
  | _ => exact memoryKept_of_opcode (opcodeOf_encFloat ..) (by decide)

/-- Settles O58. -/
theorem onlyStoresChangeMemory : Obligations.OnlyStoresChangeMemory := by
  intro i s t next notStore
  rw [Instr.opcode, toNat_opcode] at notStore
  by_cases fp : opcodeOf (encode i) ∈ ([0x15, 0x16, 0x17] : List (BitVec 6))
  · exact fpOperate_memoryKept (execForm i) fp t next
  · refine exec_memoryKept i ?_ t next
    revert notStore fp
    generalize opcodeOf (encode i) = op
    revert op
    decide

end Sys2Proof.Machine

/-! # The numbers that loads read -/

namespace Sys2Proof.Machine

/-! ### Numbers as bytes -/

/-- The number of the bytes of an index below n, byte 0 least significant. -/
def numberOf (b : Nat → Byte) (n : Nat) : Nat := (Finset.range n).sum fun k => (b k).toNat * 256 ^ k

section
variable {b b' : Nat → Byte} {n k : Nat}

theorem numberOf_succ (b : Nat → Byte) (n : Nat) : numberOf b (n + 1) = numberOf b n + (b n).toNat * 256 ^ n :=
  Finset.sum_range_succ ..

theorem numberOf_congr (h : ∀ k < n, b k = b' k) : numberOf b n = numberOf b' n :=
  Finset.sum_congr rfl fun k hk => by rw [h k (Finset.mem_range.mp hk)]

theorem numberOf_lt (b : Nat → Byte) : ∀ n, numberOf b n < 256 ^ n
  | 0 => Nat.one_pos
  | n + 1 => by
    have lt := numberOf_lt b n
    have byte : (b n).toNat * 256 ^ n ≤ 255 * 256 ^ n := Nat.mul_le_mul_right _ (Nat.le_of_lt_succ (b n).isLt)
    rw [numberOf_succ, Nat.pow_succ]
    omega

theorem numberOf_byte (b : Nat → Byte) (hk : k < n) : numberOf b n / 256 ^ k % 256 = (b k).toNat := by
  induction n with
  | zero => exact absurd hk k.not_lt_zero
  | succ n ih =>
    rw [numberOf_succ]
    rcases Nat.lt_succ_iff_lt_or_eq.mp hk with below | rfl
    · obtain ⟨d, rfl⟩ := Nat.exists_eq_add_of_lt below
      have split : (b (k + d + 1)).toNat * 256 ^ (k + d + 1) = (b (k + d + 1)).toNat * 256 ^ d * 256 * 256 ^ k := by ring
      rw [split, Nat.add_mul_div_right _ _ (by positivity), Nat.add_mul_mod_self_right, ih below]
    · rw [Nat.add_mul_div_right _ _ (by positivity), Nat.div_eq_of_lt (numberOf_lt b k), Nat.zero_add,
        Nat.mod_eq_of_lt (b k).isLt]

theorem numberOf_byte_above (b : Nat → Byte) (hk : n ≤ k) : numberOf b n / 256 ^ k % 256 = 0 := by
  rw [Nat.div_eq_of_lt ((numberOf_lt b n).trans_le (Nat.pow_le_pow_right (by decide) hk)), Nat.zero_mod]

theorem readNat_eq_numberOf (m : Memory) : ∀ n a, Memory.readNat m a n = numberOf (fun k => Memory.byte m (a + k)) n
  | 0, _ => rfl
  | n + 1, a => by
    rw [Memory.readNat, readNat_eq_numberOf m n (a + 1), numberOf, numberOf, Finset.sum_range_succ', Finset.mul_sum,
      Nat.pow_zero, Nat.mul_one, Nat.add_zero, Nat.add_comm]
    congr 1
    refine Finset.sum_congr rfl fun k _ => ?_
    rw [show a + 1 + k = a + (k + 1) by omega]
    ring

end

/-! ### The bytes of a quadword -/

section
variable {v w : Quad} {k n : Nat}

theorem toNat_byteAt (v : Quad) (k : Nat) : (byteAt v k).toNat = v.toNat / 256 ^ k % 256 := by
  rw [byteAt, toNat_extractLsb', Nat.pow_mul]
  rfl

theorem byteAt_ext (h : ∀ k < 8, byteAt v k = byteAt w k) : v = w := by
  apply BitVec.eq_of_getLsbD_eq
  intro i hi
  have bit := congrArg (·.getLsbD (i % 8)) (h (i / 8) (by omega))
  simpa only [byteAt, BitVec.getLsbD_extractLsb', Nat.mod_lt i (show 0 < 8 by decide), decide_true, Bool.true_and,
    Nat.div_add_mod] using bit

theorem byteAt_and (v w : Quad) (k : Nat) : byteAt (v &&& w) k = byteAt v k &&& byteAt w k := BitVec.extractLsb'_and ..

theorem byteAt_or (v w : Quad) (k : Nat) : byteAt (v ||| w) k = byteAt v k ||| byteAt w k := BitVec.extractLsb'_or ..

theorem byteAt_not (v : Quad) (hk : k < 8) : byteAt (~~~v) k = ~~~byteAt v k := by
  apply BitVec.eq_of_getLsbD_eq
  intro i hi
  have range : 8 * k + i < 64 := by omega
  simp only [byteAt, BitVec.getLsbD_extractLsb', BitVec.getLsbD_not, hi, range, decide_true, Bool.true_and]

theorem byteAt_lowBytes (v : Quad) (hn : n ≤ 8) (hk : k < n) : byteAt (lowBytes n v) k = byteAt v k := by
  apply BitVec.eq_of_getLsbD_eq
  intro i hi
  simp only [byteAt, lowBytes, BitVec.getLsbD_extractLsb', BitVec.getLsbD_ushiftRight, BitVec.getLsbD_shiftLeft]
  have range : 64 - 8 * n + (8 * k + i) < 64 := by omega
  rw [Nat.add_sub_cancel_left]
  simp [range]

theorem choose_ones (x y : Byte) : (x &&& 255) ||| (y &&& ~~~255) = x := by
  have ones : (255 : Byte) = BitVec.allOnes 8 := rfl
  rw [ones, BitVec.and_allOnes, BitVec.not_allOnes, BitVec.and_zero, BitVec.or_zero]

theorem choose_zeros (x y : Byte) : (x &&& 0) ||| (y &&& ~~~0) = y := by
  have ones : (~~~0 : Byte) = BitVec.allOnes 8 := rfl
  rw [ones, BitVec.and_allOnes]
  exact (congrArg (· ||| y) BitVec.and_zero).trans BitVec.zero_or

/-- Byte k of a number below the quadwords. -/
theorem byteAt_numberOf (b : Nat → Byte) (hn : n ≤ 8) (k : Nat) :
    byteAt (BitVec.ofNat 64 (numberOf b n)) k = if k < n then b k else 0 := by
  have lt : numberOf b n < 2 ^ 64 := (numberOf_lt b n).trans_le (Nat.pow_le_pow_right (by decide) hn)
  apply BitVec.eq_of_toNat_eq
  rw [toNat_byteAt, BitVec.toNat_ofNat, Nat.mod_eq_of_lt lt]
  split
  next below => exact numberOf_byte b below
  next above => exact numberOf_byte_above b (Nat.le_of_not_lt above)

end

/-! ### The data of a load (20_memory.md R332) -/

section
variable {s : State} {r : DRef} {pa : PAddr} {after : Caches} {k : Nat}

/-- Byte k of the data of a load: free, or that of memory. -/
def State.loadByte (s : State) (r : DRef) (pa : PAddr) (k : Nat) : Byte :=
  if s.byteFree r pa (s.read r pa).memsys.caches k = true then byteAt s.drawValue k else Memory.byte s.mem (pa.toNat + k)

theorem loadedNumber_eq (s : State) (r : DRef) (pa : PAddr) : s.loadedNumber r pa = numberOf (s.loadByte r pa) r.size := rfl

/-- The free bytes as a mask. -/
def State.freeByte (s : State) (r : DRef) (pa : PAddr) (after : Caches) (k : Nat) : Byte :=
  if s.byteFree r pa after k = true then 255 else 0

theorem freeMask_eq (s : State) (r : DRef) (pa : PAddr) (after : Caches) :
    s.freeMask r pa after = BitVec.ofNat 64 (numberOf (s.freeByte r pa after) r.size) := by
  have fold : ∀ n, (List.range n).foldl (fun v k => v + (s.byteFree r pa after k).toNat * 255 * 256 ^ k) 0 =
      numberOf (s.freeByte r pa after) n := by
    intro n
    induction n with
    | zero => rfl
    | succ n ih =>
      have byte : (s.byteFree r pa after n).toNat * 255 = (s.freeByte r pa after n).toNat := by
        unfold State.freeByte
        cases s.byteFree r pa after n <;> rfl
      rw [List.range_succ, List.foldl_append, ih, numberOf_succ, ← byte]
      rfl
  rw [State.freeMask, fold]

theorem memory_read_eq (m : Memory) (a n : Nat) :
    Memory.read m a n = BitVec.ofNat 64 (numberOf (fun k => Memory.byte m (a + k)) n) := by
  rw [Memory.read, readNat_eq_numberOf]

theorem byteFree_of_not_drawn (h : s.loadDrawn r pa after = false) (hk : k < r.size) : s.byteFree r pa after k = false :=
  Bool.eq_false_iff.mpr (List.any_eq_false.mp h k (List.mem_range.mpr hk))

/-- The data of a load are the number that the statements speak of. -/
theorem loadData_eq (s : State) (r : DRef) (pa : PAddr) (size : r.size ≤ 8) :
    s.loadData r pa = BitVec.ofNat 64 (s.loadedNumber r pa) := by
  rw [loadedNumber_eq]
  unfold State.loadData
  dsimp only
  cases drawn : s.loadDrawn r pa (s.read r pa).memsys.caches with
  | false =>
    rw [cond_false, memory_read_eq]
    refine congrArg (BitVec.ofNat 64) (numberOf_congr fun k hk => ?_)
    rw [State.loadByte, byteFree_of_not_drawn drawn hk, if_neg Bool.false_ne_true]
  | true =>
    rw [cond_true, freeMask_eq, memory_read_eq]
    apply byteAt_ext
    intro k hk
    rw [byteAt_or, byteAt_and, byteAt_and, byteAt_not _ hk, byteAt_numberOf _ size, byteAt_numberOf _ size,
      byteAt_numberOf _ size]
    by_cases inside : k < r.size
    · rw [if_pos inside, if_pos inside, if_pos inside, byteAt_lowBytes _ size inside, State.freeByte, State.loadByte]
      split
      · exact choose_ones ..
      · exact choose_zeros ..
    · rw [if_neg inside, if_neg inside, if_neg inside]
      simp

end

end Sys2Proof.Machine

/-! # Loads -/

namespace Sys2Proof.Machine

/-! ### A load that reaches memory -/

section
variable {s : State} {r : DRef} {pa : PAddr} {k : Quad → State → Result State}

/-- A load that `State.reaches` lets into the CBU region does not miss, since it is forced to hit the Dcache. -/
theorem reaches_cbu_hits (h : s.reaches r pa) : inCbu pa = false ∨ (s.dcacheCase r pa).misses = false := by
  obtain ⟨-, -, outside | ⟨-, lock, forced, missNext⟩, -⟩ := h
  · left
    rw [← Bool.not_eq_true, inCbu_iff]
    omega
  · right
    rw [State.dcacheCase, lock, missNext, forced]
    rfl

/-- The address on the bus as the statements have it: an address in the CBU region stands as it is in both. -/
theorem busAddress_eq_onBus (s : State) (pa : PAddr) : s.busAddress pa = s.onBus pa := by
  cases cbu : inCbu pa with
  | false => exact s.onBus_eq cbu
  | true =>
    rw [inCbu_iff] at cbu
    rw [s.busAddress_cbu cbu, State.onBus, if_neg]
    omega

theorem loadAt_reached (write : r.write = false) (h : s.reaches r pa) :
    loadAt r pa k s = k (s.loadData r (s.onBus pa)) (s.loaded r (s.onBus pa)) := by
  have hits : (inCbu pa && (s.dcacheCase r pa).misses) = false := Bool.and_eq_false_iff.mpr (reaches_cbu_hits h)
  obtain ⟨-, cbuStore, -, byteWord, ofLoad, -⟩ := h
  obtain ⟨held, flush⟩ := ofLoad write
  rw [loadAt, busAddress_eq_onBus, cbuStore, held, hits, byteWord, flush]
  rfl

/-- What a load goes on with. -/
theorem load_reached (write : r.write = false) (size : r.size ≤ 8) (h : s.reaches r pa) :
    load r k s = k (BitVec.ofNat 64 (s.loadedNumber r (s.onBus pa))) (s.loaded r (s.onBus pa)) := by
  rw [load, translated_ok h.1, loadAt_reached write h, loadData_eq _ _ _ size]

theorem loadLocked_reached (write : r.write = false) (size : r.size ≤ 8) (h : s.reaches r pa) :
    loadLocked r k s =
      k (BitVec.ofNat 64 (s.loadedNumber r (s.onBus pa))) ((s.loaded r (s.onBus pa)).locks pa) := by
  rw [loadLocked, translated_ok h.1, loadAt_reached write h, loadData_eq _ _ _ size]

/-- The lock is set unless MAF_MODE<MAF_ARB_DISABLE> keeps the load from the CBU. -/
theorem loaded_locks (s : State) (r : DRef) (a pa : PAddr) : (s.loaded r a).locks pa =
    if s.mtu.mafMode.getLsbD 5 = true then s.loaded r a else { s.loaded r a with lockFlag := true, lockPa := pa } :=
  Bool.cond_eq_ite ..

end

/-! ### The numbers in the registers -/

/-- The low longword as a signed number. -/
theorem sextLong_ofNat (n : Nat) : sextLong (BitVec.ofNat 64 n) = BitVec.ofInt 64 (Int.bmod n (2 ^ 32)) := by
  have low : (BitVec.ofNat 64 n).setWidth 32 = BitVec.ofNat 32 n := BitVec.setWidth_ofNat_of_le (by decide) n
  rw [sextLong, low, BitVec.signExtend, BitVec.toInt_ofNat']

section
variable {c : Reg → Reg → BitVec 16 → Instr} {op : BitVec 6} {n : Nat}

/-- An integer load by what it does with the quadword that it reads. -/
theorem loadWrites_of_exec {f : Quad → Quad} {ext : Nat → Int} (size : n ≤ 8)
    (value : ∀ m, f (BitVec.ofNat 64 m) = BitVec.ofInt 64 (ext m))
    (hc : ∀ ra rb disp s, (n ≤ 2 → s.byteWordEnabled = true) →
      exec (c ra rb disp) s = load (loadRef op n ra rb disp s) (fun m t => (t.writeReg ra (f m)).done) s) :
    loadWrites c op n ext := by
  intro ra rb disp s pa r a enabled reached
  rw [hc _ _ _ _ enabled, load_reached rfl size reached, value]
  rfl

theorem lockedLoadWrites_of_exec {f : Quad → Quad} {ext : Nat → Int} (size : n ≤ 8)
    (value : ∀ m, f (BitVec.ofNat 64 m) = BitVec.ofInt 64 (ext m))
    (hc : ∀ ra rb disp s, exec (c ra rb disp) s =
      loadLocked (lockedRef op n ra rb disp s) (fun m t => (t.writeReg ra (f m)).done) s) :
    lockedLoadWrites c op n ext := by
  intro ra rb disp s pa r a reached t
  have locked := loadLocked_reached (r := lockedRef op n ra rb disp s) (k := fun m t => (t.writeReg ra (f m)).done) rfl size
    reached
  rw [hc, locked, value, loaded_locks]
  rfl

theorem floatLoadWrites_of_exec {f : Quad → Quad} {format : Nat → Quad} (size : n ≤ 8)
    (value : ∀ m, f (BitVec.ofNat 64 m) = format m)
    (hc : ∀ fa rb disp s, s.fpEnabled = true →
      exec (c fa rb disp) s = load (loadRef op n fa rb disp s) (fun m t => (t.writeFreg fa (f m)).done) s) :
    floatLoadWrites c op n format := by
  intro fa rb disp s pa r a enabled reached
  rw [hc _ _ _ _ enabled, load_reached rfl size reached, value]
  rfl

end

/-- Settles O19: LDF and LDS take the low longword of the number read. -/
theorem floatingLoadResults : Obligations.FloatingLoadResults := by
  have low (m : Nat) : (BitVec.ofNat 64 m).setWidth 32 = BitVec.ofNat 32 m := BitVec.setWidth_ofNat_of_le (by decide) m
  refine ⟨?ldf, ?ldg, ?lds, ?ldt⟩
  case ldf => exact floatLoadWrites_of_exec (by decide) (fun m => congrArg loadF (low m)) fun _ _ _ _ h => exec_ldf h
  case ldg => exact floatLoadWrites_of_exec (by decide) (fun _ => rfl) fun _ _ _ _ h => exec_ldg h
  case lds => exact floatLoadWrites_of_exec (by decide) (fun m => congrArg loadS (low m)) fun _ _ _ _ h => exec_lds h
  case ldt => exact floatLoadWrites_of_exec (f := id) (by decide) (fun _ => rfl) fun _ _ _ _ h => exec_ldt h

/-! ### What a load leaves unchanged -/

section
variable (s : State) (r : DRef) (a : PAddr)

theorem loaded_frame :
    { s.loaded r a with cbu := s.cbu, memsys := s.memsys, lockFlag := s.lockFlag, model := s.model } = s := rfl

theorem loaded_keepsLock : keepsLock s (s.loaded r a) := s.withMemSys_lockKept (s.readMemSys r a (s.mafEntryOf r a))

/-- An Scache read in force hit mode writes SC_STAT only, and in it SC_DPERR. -/
theorem forcedRead_frame (c : Cbu) (parity : BitVec 8) :
    { c.forcedRead parity with scStat := c.scStat } = c ∧ (c.forcedRead parity).scStat &&& 0x1F807 = c.scStat &&& 0x1F807 := by
  rw [Cbu.forcedRead, Bool.cond_eq_ite]
  split
  next => exact ⟨rfl, rfl⟩
  next =>
    refine ⟨rfl, ?_⟩
    change ((c.scStat &&& 0x1F807) ||| (parity.setWidth 17 <<< 3)) &&& 0x1F807 = _
    have field : ∀ i < 17, (0x1F807 : BitVec 17).getLsbD i = true → i < 3 ∨ 11 ≤ i := by decide
    apply BitVec.eq_of_getLsbD_eq
    intro i hi
    simp only [BitVec.getLsbD_and, BitVec.getLsbD_or, BitVec.getLsbD_shiftLeft, BitVec.getLsbD_setWidth]
    cases mask : (0x1F807 : BitVec 17).getLsbD i with
    | false => simp
    | true =>
      have outside := field i hi mask
      rcases outside with below | above
      · simp [below]
      · have high : 8 ≤ i - 3 := by omega
        simp [high]

theorem loaded_cbu : (s.loaded r a).cbu = bif s.readsForced r a then
    s.cbu.forcedRead (forcedParity r.size a (s.loadData r a) (slice s.drawn.drawValue 0 8)) else s.cbu := rfl

theorem loaded_cbu_frame : { (s.loaded r a).cbu with scStat := s.cbu.scStat } = s.cbu ∧
    (s.loaded r a).cbu.scStat &&& 0x1F807 = s.cbu.scStat &&& 0x1F807 := by
  rw [loaded_cbu]
  cases s.readsForced r a with
  | true => exact forcedRead_frame ..
  | false => exact ⟨rfl, rfl⟩

theorem loaded_cbu_unforced (h : s.cbu.scCtl.getLsbD 0 = false) : (s.loaded r a).cbu = s.cbu := by
  have notForced : s.readsForced r a = false := by rw [State.readsForced, h, Bool.and_false, Bool.false_and, Bool.false_and]
  rw [loaded_cbu, notForced, cond_false]

end

end Sys2Proof.Machine

/-! # Loads whose bytes are all known -/

namespace Sys2Proof.Machine

/-! ### Without test modes and Bcache nothing becomes unknown (20_memory.md R332) -/

/-- The Scache is not in force hit mode, and there is no Bcache. -/
structure CacheCfg.Plain (c : CacheCfg) : Prop where
  unforced : c.scForced = false
  noBcache : c.bcSize = 0

/-- The event is a fill with wrong data. -/
def Event.isFill : Event → Bool
  | .fill .. => true
  | _ => false

/-- Every byte is known, and nothing posted makes one unknown. -/
structure Caches.Known (m : Caches) : Prop where
  poisoned : m.poisoned = []
  noFill : ∀ e ∈ m.posted, e.isFill = false

theorem CacheCfg.Plain.older {c : CacheCfg} (h : c.Plain) (l : Longs) : { c with older := l }.Plain :=
  ⟨h.unforced, h.noBcache⟩

namespace Caches.Known

variable {c : CacheCfg} {m : Caches}

theorem cond {b : Bool} {n : Caches} (h : m.Known) (hn : n.Known) : (bif b then m else n).Known := by
  cases b with
  | true => exact h
  | false => exact hn

theorem post {l : List Event} (h : m.Known) (hl : ∀ e ∈ l, e.isFill = false) : (m.post l).Known :=
  ⟨h.poisoned, fun e he => (List.mem_append.mp he).elim (h.noFill e) (hl e)⟩

theorem cond_nofill {b : Bool} {e : Event} (he : e.isFill = false) : ∀ x ∈ bif b then [] else [e], x.isFill = false := by
  cases b with
  | true => exact fun _ hx => absurd hx List.not_mem_nil
  | false => exact fun _ hx => List.mem_singleton.mp hx ▸ he

theorem fillsPending_nil (h : m.Known) (a n : Nat) : m.fillsPending a n = [] := by
  refine List.flatten_eq_nil_iff.mpr fun l hl => ?_
  obtain ⟨e, he, rfl⟩ := List.mem_map.mp hl
  have noFill := h.noFill e he
  cases e with
  | fill => exact absurd noFill Bool.true_eq_false.mp
  | _ => rfl

theorem poison_nil (h : m.Known) : (m.poison []).Known :=
  ⟨by rw [Caches.poison, h.poisoned]; rfl, h.noFill⟩

theorem clean (h : m.Known) (p : Nat → Bool) : (m.clean p).Known :=
  ⟨by rw [Caches.clean, h.poisoned]; rfl, h.noFill⟩

theorem drive (h : m.Known) (command : BusCommand) (addr : PAddr) (lanes : Lanes) (data : List (BitVec 128))
    (check : List (BitVec 16)) (set : Option Nat) (victim : Bool) :
    (m.drive command addr lanes data check set victim).Known :=
  ⟨h.poisoned, h.noFill⟩

theorem found (hc : c.Plain) (op : ScacheOp) (tags : BitVec 3) (reads : Bool) (a : Nat) (h : m.Known) :
    (m.found c op tags reads a).Known := by
  refine h.post ?_
  rw [hc.unforced, cond_false]
  exact cond_nofill rfl

theorem probe (hc : c.Plain) (op : ScacheOp) (reads : Bool) (a : Nat) (h : m.Known) : (m.probe c op reads a).Known :=
  found (m := m.see c a) hc op _ reads a ⟨h.poisoned, h.noFill⟩

theorem leaveScache (h : m.Known) (a n : Nat) : (m.leaveScache a n).Known :=
  have shown : (m.show (m.underScache.inside a n)).Known := h.post (cond_nofill rfl)
  ⟨shown.poisoned, shown.noFill⟩

theorem writeBlock (h : m.Known) (flips : List BcFlip) (a : Nat) : (m.writeBlock c flips a).Known := h.drive ..

theorem evict (hc : c.Plain) (l : ScLine) (h : m.Known) : (m.evict c l).Known := by
  have wrong (dirty : List Nat) : (dirty.map fun a => m.fillsPending a c.blockSize).flatten = [] :=
    List.flatten_eq_nil_iff.mpr fun _ hx => by
      obtain ⟨a, -, rfl⟩ := List.mem_map.mp hx
      exact h.fillsPending_nil a _
  unfold Caches.evict
  dsimp only
  rw [wrong, hc.noBcache]
  generalize l.dirtyBlocks c = dirty
  have seen : (dirty.foldl (fun m a => m.probe c .victim true a) m).Known :=
    List.foldlRecOn dirty _ h fun _ h a _ => probe hc .victim true a h
  have left (clean : List Nat) : (clean.foldl (fun m a => m.leaveScache a c.blockSize)
      ((dirty.foldl (fun m a => m.probe c .victim true a) m).poison [])).Known :=
    List.foldlRecOn clean _ seen.poison_nil fun _ h a _ => h.leaveScache a _
  refine List.foldlRecOn dirty _ ?_ fun _ h a _ => h.writeBlock [] a
  exact ⟨(left _).poisoned, (left _).noFill⟩

theorem fillScache (hc : c.Plain) (a : Nat) (shared dirty : Bool) (h : m.Known) : (m.fillScache c a shared dirty).Known := by
  unfold Caches.fillScache
  dsimp only
  split
  next => exact ⟨h.poisoned, h.noFill⟩
  next =>
    split
    next l _ => exact ⟨(evict hc l h).poisoned, (evict hc l h).noFill⟩
    next => exact ⟨h.poisoned, h.noFill⟩

theorem refill (hc : c.Plain) (k : ReadKind) (a : Nat) (lanes : Lanes) (h : m.Known) : (m.refill c k a lanes).Known := by
  unfold Caches.refill
  rw [hc.noBcache]
  exact fillScache hc a _ _ (h.drive ..)

theorem reference (hc : c.Plain) (k : ReadKind) (reads : Bool) (a : Nat) (lanes : Lanes) (h : m.Known) :
    (m.reference c k reads a lanes).Known := by
  have probed := probe hc k.op reads a h
  unfold Caches.reference
  dsimp only
  split
  next => exact probed
  next => exact refill hc k a lanes probed

theorem own (hc : c.Plain) (a : Nat) (bytes : BitVec 32) (before : Longs) (flips : List BcFlip) (h : m.Known) :
    (m.own c a bytes before flips).Known := by
  unfold Caches.own
  split
  next => exact h
  next l _ =>
    rw [hc.noBcache]
    have told : (bif c.group2 && !m.scDirty c a then m.tell .setDirty (BitVec.ofNat 40 (c.block a)) else m).Known :=
      cond (h.drive ..) h
    refine clean (cond ?shared ?own) _
    case shared => exact ⟨h.poisoned, h.noFill⟩
    case own => exact ⟨told.poisoned, told.noFill⟩

theorem write (hc : c.Plain) (k : ReadKind) (a : Nat) (bytes : BitVec 32) (before : Longs) (h : m.Known) :
    (m.write c k a bytes before).Known := by
  unfold Caches.write
  split
  next => exact own hc a bytes before _ (reference hc k _ a _ h)
  next =>
    have read := reference hc k false a allLanes h
    exact own hc a bytes before _ (cond (found hc k.op 0 true a read) read)

theorem send (hc : c.Plain) (e : WbEntry) (h : m.Known) : (m.send c e).Known := by
  unfold Caches.send
  rw [hc.unforced]
  split
  next => exact h.drive ..
  next => exact h.drive ..
  next => exact cond (h.drive ..) (write hc .modify _ _ _ h)
  next => exact cond (h.drive ..) (write hc .conditional _ _ _ h)

theorem lockCommand (h : m.Known) (e : MafEntry) : (m.lockCommand c e).Known :=
  cond h ⟨h.poisoned, h.noFill⟩

theorem fillDcache (h : m.Known) (a : Nat) (stale : Bool) : (m.fillDcache a stale).Known := by
  have placed : (bif Config.dcacheFillPlaced m.dcacheFills then m.placeBlock a stale else m).Known :=
    cond ⟨h.poisoned, h.noFill⟩ h
  exact ⟨placed.poisoned, placed.noFill⟩

theorem readLoad (hc : c.Plain) (e : MafEntry) (h : m.Known) : (m.readLoad c e).Known := by
  have read : ((m.access c .load e.addr.toNat allLanes).lockCommand c e).Known :=
    lockCommand (reference hc .load true _ _ h) e
  unfold Caches.readLoad
  dsimp only
  rw [hc.unforced]
  exact cond h (cond (h.drive ..) (cond (read.fillDcache _ _) read))

end Caches.Known

/-! ### The same in the memory system -/

/-- Every byte is known to the caches. -/
def MemSys.Known (m : MemSys) : Prop := m.caches.Known

namespace MemSys.Known

variable {c : CacheCfg} {m : MemSys}

theorem cond {b : Bool} {n : MemSys} (h : m.Known) (hn : n.Known) : (bif b then m else n).Known := by
  cases b with
  | true => exact h
  | false => exact hn

theorem readFirst (hc : c.Plain) (h : m.Known) : (m.readFirst c).Known := by
  unfold MemSys.readFirst
  split
  next => exact h
  next e _ => exact Caches.Known.cond h (Caches.Known.readLoad (hc.older m.waiting) e h)

theorem readThrough (hc : c.Plain) : ∀ (n : Nat) {m : MemSys}, m.Known → (m.readThrough c n).Known
  | 0, _, h => h
  | n + 1, _, h => readThrough hc n (readFirst hc h)

theorem send (hc : c.Plain) (e : WbEntry) (h : m.Known) : (m.send c e).Known :=
  Caches.Known.send (hc.older _) e (readThrough hc _ h)

theorem sendOldest (hc : c.Plain) : ∀ (n : Nat) {m : MemSys}, m.Known → (m.sendOldest c n).Known
  | 0, _, h => h
  | n + 1, m, h => by
    unfold MemSys.sendOldest
    split
    next => exact h
    next e rest _ => exact sendOldest hc n (send (m := { m with wb := rest }) hc e h)

theorem issueFirst (hc : c.Plain) (h : m.Known) : (m.issueFirst c).Known := by
  unfold MemSys.issueFirst
  split
  next => exact h
  next => exact readFirst hc (cond (sendOldest hc _ h) h)

theorem issueThrough (hc : c.Plain) : ∀ (n : Nat) {m : MemSys}, m.Known → (m.issueThrough c n).Known
  | 0, _, h => h
  | n + 1, _, h => issueThrough hc n (issueFirst hc h)

theorem finish (hc : c.Plain) (stopped : Bool) (p : MafEntry → Bool) (h : m.Known) : (m.finish stopped c p).Known :=
  cond (b := stopped) h (issueThrough hc _ h)

theorem freeEntry (hc : c.Plain) (stopped e1 : Bool) :
    ∀ (n : Nat) {m : MemSys}, m.Known → (m.freeEntry stopped e1 c n).Known
  | 0, _, h => h
  | n + 1, _, h => cond (freeEntry hc stopped e1 n (finish hc stopped _ h)) h

theorem makeWay (hc : c.Plain) (stopped e1 : Bool) (e : MafEntry) (h : m.Known) : (m.makeWay stopped e1 c e).Known :=
  freeEntry hc stopped e1 _ (cond (finish hc stopped e.overlaps h) h)

theorem miss (hc : c.Plain) (stopped : Bool) (e : MafEntry) (h : m.Known) : (m.miss stopped c e).Known := by
  have sent : (bif stopped then m else m.sendOldest c (entriesThrough e.block.toNat m.wb)).Known :=
    cond h (sendOldest hc _ h)
  unfold MemSys.miss
  exact cond sent (cond sent (issueThrough hc _ sent))

end MemSys.Known

/-! ### The number read -/

section
variable {s : State} {r : DRef} {a : PAddr}

theorem plain_cacheCfg (unforced : s.cbu.scCtl.getLsbD 0 = false) (noBcache : s.cbu.bcOn = false) : s.cacheCfg.Plain :=
  ⟨unforced, by rw [State.cacheCfg, noBcache, cond_false]⟩

/-- What the Dcache looks up leaves every byte known. -/
theorem dcacheChecked_known {m : Caches} (h : m.Known) : (s.dcacheChecked r a m).Known :=
  h.post (Caches.Known.cond_nofill rfl)

theorem read_known (hc : s.cacheCfg.Plain) (h : s.memsys.Known) : (s.read r a).memsys.Known := by
  have checked : ((s.memsys.makeWay s.stopped (s.inE1 r a) s.cacheCfg (s.mafEntryOf r a)).onCaches
      (s.dcacheChecked r a)).Known := dcacheChecked_known (MemSys.Known.makeWay hc _ _ _ h)
  exact MemSys.Known.cond (MemSys.Known.miss hc _ _ checked) checked

/-- The Dcache gives no doubtful data: it is not forced to hit, and it knows its lines. -/
theorem dcacheCase_not_doubtful (unforced : s.mtu.dcMode.getLsbD 1 = false) (flushed : s.memsys.caches.dcacheFlushed = true)
    (fresh : ∀ l ∈ s.memsys.caches.dcache, l.stale = false) : (s.dcacheCase r a).doubtful = false := by
  unfold State.dcacheCase
  rw [unforced, flushed]
  cases r.lock || s.model.missNext with
  | true => rfl
  | false =>
    cases a.getLsbD 39 || !s.mtu.dcMode.getLsbD 0 with
    | true => rfl
    | false =>
      rw [cond_false, cond_false, cond_false]
      split
      next l hl =>
        cases l.holds a.toNat with
        | true => exact fresh l (List.mem_of_find?_eq_some hl)
        | false => rfl
      next => rfl

/-- No byte is free, and the number read is that of memory. -/
theorem loadedNumber_known (posted : s.memsys.caches.posted = []) (dcUnforced : s.mtu.dcMode.getLsbD 1 = false)
    (unforced : s.cbu.scCtl.getLsbD 0 = false) (noBcache : s.cbu.bcOn = false)
    (flushed : s.memsys.caches.dcacheFlushed = true) (fresh : ∀ l ∈ s.memsys.caches.dcache, l.stale = false)
    (known : s.memsys.caches.poisoned = []) : s.loadedNumber r a = littleEndian s.mem a.toNat r.size := by
  have before : s.memsys.Known := ⟨known, fun e he => absurd (posted ▸ he) List.not_mem_nil⟩
  have after := read_known (r := r) (a := a) (plain_cacheCfg unforced noBcache) before
  have notFree (k : Nat) : s.byteFree r a (s.read r a).memsys.caches k = false := by
    rw [State.byteFree, State.loadDoubtful, dcacheCase_not_doubtful dcUnforced flushed fresh, unforced, after.poisoned]
    rfl
  refine numberOf_congr (b := s.loadByte r a) (b' := fun k => Memory.byte s.mem (a.toNat + k)) fun k _ => ?_
  rw [State.loadByte, notFree, if_neg Bool.false_ne_true]

end

/-- Settles O18: the value by `loadData_eq`, the last clause because nothing becomes unknown on the way. -/
theorem integerLoadResults : Obligations.IntegerLoadResults := by
  have number (m : Nat) : BitVec.ofNat 64 m = BitVec.ofInt 64 m := (BitVec.ofInt_natCast 64 m).symm
  refine ⟨?ldbu, ?ldwu, ?ldl, ?ldq, ?ldq_u, fun rb disp s => rfl, ?ldl_l, ?ldq_l, fun r a s => ?frame, fun r a s => ?known⟩
  case ldbu => exact loadWrites_of_exec (f := id) (by decide) number fun _ _ _ _ h => exec_ldbu (h (by decide))
  case ldwu => exact loadWrites_of_exec (f := id) (by decide) number fun _ _ _ _ h => exec_ldwu (h (by decide))
  case ldl => exact loadWrites_of_exec (by decide) sextLong_ofNat fun _ _ _ _ _ => exec_ldl
  case ldq => exact loadWrites_of_exec (f := id) (by decide) number fun _ _ _ _ _ => exec_ldq
  case ldq_u =>
    intro ra rb disp s pa r a hra reached
    have read := load_reached (k := fun m t => (t.writeReg ra m).done) rfl (Nat.le_refl 8) reached
    exact (exec_ldq_u hra).trans read
  case ldl_l => exact lockedLoadWrites_of_exec (by decide) sextLong_ofNat fun _ _ _ _ => exec_ldl_l
  case ldq_l => exact lockedLoadWrites_of_exec (f := id) (by decide) number fun _ _ _ _ => exec_ldq_l
  case frame =>
    obtain ⟨stat, parity⟩ := loaded_cbu_frame s r a
    exact ⟨loaded_frame s r a, loaded_keepsLock s r a, stat, parity, loaded_cbu_unforced s r a⟩
  case known => exact loadedNumber_known

end Sys2Proof.Machine

/-! # Stores -/

namespace Sys2Proof.Machine

/-! ### A reference that translates is aligned (20_memory.md R304, R305, R312) -/

section
variable {s : State} {r : DRef} {pa : PAddr}

/-- What passes the checks after a DTB miss is aligned, where that counts. -/
theorem afterMiss_ok {k : Translation} (hsize : r.size ∈ [1, 2, 4, 8]) (h : afterMiss r k = .ok pa) :
    (r.hw = true ∨ r.masked = true ∨ r.va.toNat % r.size = 0) ∧ k = .ok pa := by
  have whole : r.hw = true ∨ r.masked = true ∨ r.va.toNat % r.size = 0 := by
    by_contra unaligned
    push Not at unaligned
    obtain ⟨hw, masked, low⟩ := unaligned
    rw [afterMiss_unalign hsize (Bool.eq_false_iff.mpr hw) (Bool.eq_false_iff.mpr masked) low] at h
    cases h
  refine ⟨whole, ?_⟩
  cases sign : signCheck r.va with
  | true => rwa [afterMiss_good hsize whole sign] at h
  | false =>
    rw [afterMiss_badVa hsize whole sign] at h
    cases h

theorem checkDtb_ok {mode : BitVec 2} {p : DtbPte} (h : checkDtb r mode p = .ok pa) : pa = pagePa p.gh p.pfn r.va := by
  unfold checkDtb at h
  dsimp only at h
  rw [Bool.cond_eq_ite] at h
  split at h
  next => cases h
  next =>
    cases h
    rfl

/-- A virtual reference goes to an address that agrees with its own in the low bits. -/
theorem State.translateVirtual_low (hsize : r.size ∈ [1, 2, 4, 8]) (h : s.translateVirtual r = .ok pa) :
    (r.hw = true ∨ r.masked = true ∨ r.va.toNat % r.size = 0) ∧ ∃ n, pa = BitVec.ofNat 40 n ∧ n % 8 = r.va.toNat % 8 := by
  cases hits : s.dtbHits r.va with
  | nil =>
    rw [State.translateVirtual_nil hits, Bool.cond_eq_ite] at h
    split at h
    next => cases h
    next =>
      obtain ⟨whole, superpage⟩ := afterMiss_ok hsize h
      refine ⟨whole, ?_⟩
      rw [Bool.cond_eq_ite] at superpage
      split at superpage
      next =>
        cases superpage
        exact ⟨_, superpage1_eq _, rfl⟩
      next =>
        cases superpage
        exact ⟨_, superpage0_eq _, Nat.mod_mod_of_dvd _ (by decide)⟩
  | cons p rest =>
    rw [State.translateVirtual_cons hits] at h
    obtain ⟨whole, mapped⟩ := afterMiss_ok hsize h
    refine ⟨whole, ?_⟩
    rw [Bool.cond_eq_ite] at mapped
    split at mapped
    next => cases mapped
    next =>
      refine ⟨_, (checkDtb_ok mapped).trans (pagePa_eq ..), ?_⟩
      have page : 8 ∣ 8192 * 8 ^ p.gh.toNat := Dvd.dvd.mul_right (by decide) _
      rw [Nat.add_mod, Nat.mod_eq_zero_of_dvd (Dvd.dvd.mul_left page _), Nat.zero_add, Nat.mod_mod, Nat.mod_mod_of_dvd _ page]

/-- A virtual reference goes to an aligned physical address. -/
theorem State.translate_aligned (phys : r.phys = false) (hsize : r.size ∈ [1, 2, 4, 8]) (h : s.translate r = .ok pa) :
    pa.toNat % r.size = 0 := by
  cases translation : s.translateVirtual r with
  | trap e c => rw [State.translate, phys, translation] at h; cases h
  | multiple => rw [State.translate, phys, translation] at h; cases h
  | ok pa₀ =>
    obtain ⟨whole, n, rfl, low⟩ := State.translateVirtual_low hsize translation
    have aligned : r.hw = true ∨ r.masked = true ∨ n % r.size = 0 := by
      rwa [← Nat.mod_mod_of_dvd n (dvd_eight hsize), low, Nat.mod_mod_of_dvd _ (dvd_eight hsize)]
    rw [State.translate_ok phys hsize aligned translation] at h
    obtain rfl := Translation.ok.inj h
    have base (m : Nat) : (BitVec.ofNat 40 (m / r.size * r.size)).toNat % r.size = 0 := by
      have dvd : r.size ∣ 2 ^ 40 := (dvd_eight hsize).trans (by decide)
      rw [BitVec.toNat_ofNat, Nat.mod_mod_of_dvd _ dvd, Nat.mul_mod_left]
    split
    next swapped =>
      rw [BitVec.toNat_xor, swapped.2]
      have base := swapped.2 ▸ base n
      exact (Nat.xor_mod_two_pow (n := 2)).trans (by rw [base]; rfl)
    next => exact (congrArg (fun x : PAddr => x.toNat % r.size) BitVec.xor_zero).trans (base n)

/-- The bus takes the low address bits as they are. -/
theorem onBus_low (s : State) (pa : PAddr) : (s.onBus pa).toNat % 8 = pa.toNat % 8 := by
  unfold State.onBus
  split
  next =>
    rw [BitVec.toNat_and]
    exact (Nat.and_mod_two_pow (n := 3)).trans ((Nat.and_two_pow_sub_one_eq_mod _ 3).trans (Nat.mod_mod _ _))
  next => rfl

/-- The bytes of an aligned reference are in one block of 32 bytes. -/
theorem onBus_in_block (phys : r.phys = false) (hsize : r.size ∈ [1, 2, 4, 8]) (h : s.translate r = .ok pa) :
    (s.onBus pa).toNat % 32 + r.size ≤ 32 := by
  have aligned := State.translate_aligned phys hsize h
  have low := onBus_low s pa
  simp only [List.mem_cons, List.not_mem_nil, or_false] at hsize
  rcases hsize with size | size | size | size
  all_goals
    rw [size] at aligned ⊢
    omega

end

/-! ### The write buffer (20_memory.md R336) -/

section
variable {new e : WbEntry} {wb : List WbEntry} {a n k : Nat}

/-- The byte k of a block is among n bytes from an address in it. -/
theorem bytesAt_bit (hk : k < n) (block : a % 32 + n ≤ 32) : (bytesAt a n).getLsbD (a % 32 + k) = true := by
  have range : a % 32 + k < 32 := by omega
  rw [bytesAt, BitVec.getLsbD_shiftLeft, Nat.add_sub_cancel_left, BitVec.getLsbD_ofNat, Nat.testBit_two_pow_sub_one]
  simp [range, hk]
  omega

/-- An entry for the block of another one that writes its bytes at least. -/
def WbEntry.Holds (new e : WbEntry) : Prop :=
  e.block = new.block ∧ ∀ k, new.bytes.getLsbD k = true → e.bytes.getLsbD k = true

theorem WbEntry.holds_merge (h : new.accepts e = true) : new.Holds (new.merge e) := by
  simp only [WbEntry.accepts, Bool.and_eq_true, beq_iff_eq] at h
  obtain ⟨⟨⟨⟨⟨⟨-, -⟩, block⟩, -⟩, -⟩, -⟩, -⟩ := h
  refine ⟨block, fun k hk => ?_⟩
  change (e.bytes ||| new.bytes).getLsbD k = true
  rw [BitVec.getLsbD_or, hk, Bool.or_true]

theorem mergeLast_holds : ∀ {l wb : List WbEntry}, mergeLast new l = some wb → ∃ e ∈ wb, new.Holds e
  | [], _, h => by cases h
  | x :: rest, wb, h => by
    have behind {t : List WbEntry} (ht : (mergeLast new rest).map (x :: ·) = some t) : ∃ e ∈ t, new.Holds e := by
      obtain ⟨u, hu, rfl⟩ := Option.map_eq_some_iff.mp ht
      obtain ⟨e, he, holds⟩ := mergeLast_holds hu
      exact ⟨e, List.mem_cons_of_mem _ he, holds⟩
    unfold mergeLast at h
    cases later : rest.any fun y => y.block == new.block with
    | true =>
      rw [later] at h
      exact behind h
    | false =>
      rw [later] at h
      cases accepts : new.accepts x with
      | true =>
        rw [accepts] at h
        cases h
        exact ⟨_, List.mem_cons_self, WbEntry.holds_merge accepts⟩
      | false =>
        rw [accepts] at h
        exact behind h

/-- A store that has entered has its bytes in an entry. -/
theorem MemSys.enter_holds (c : CacheCfg) (new : WbEntry) (m : MemSys) : ∃ e ∈ (m.enter c new).wb, new.Holds e := by
  unfold MemSys.enter
  dsimp only
  split
  next merged => exact mergeLast_holds merged
  next => exact ⟨_, List.mem_append_right _ (List.mem_singleton_self _), rfl, fun _ => id⟩

/-- The block of the entry of a store. -/
theorem State.wbEntryOf_block (s : State) (kind : WriteKind) (n : Nat) (pa : PAddr) (v : Quad) :
    (s.wbEntryOf kind n pa v).block.toNat = pa.toNat / 32 * 32 := by
  change (clearLow (clearLow pa _) 5).toNat = _
  rw [toNat_clearLow, toNat_clearLow]
  cases (s.storeLanes n pa).low with
  | true => rw [cond_true]; omega
  | false => rw [cond_false]; omega

end

/-! ### A store that reaches memory -/

section
variable {s : State} {r : DRef} {pa : PAddr} {k : State → Result State}

theorem storeAt_reached (write : r.write = true) (v : Quad) (h : s.reaches r pa) :
    storeAt r pa v k s = k (s.dcacheStore r (s.onBus pa) (s.stored r.size (s.onBus pa) v)) := by
  obtain ⟨-, cbuStore, outside, byteWord, -, ofStore⟩ := h
  obtain ⟨owed, held⟩ := ofStore write
  have cbu : inCbu pa = false := by
    rw [← Bool.not_eq_true, inCbu_iff]
    rcases outside with below | ⟨notWrite, -⟩
    · omega
    · exact absurd (write.symm.trans notWrite) Bool.true_eq_false.mp
  rw [storeAt, busAddress_eq_onBus, cbuStore, owed, cbu, byteWord, held]
  rfl

theorem stored_keepsLock (s : State) (n : Nat) (pa : PAddr) (v : Quad) : keepsLock s (s.stored n pa v) :=
  ((s.noteUnknown (longsOf pa.toNat n)).storeBytes pa.toNat n v).withMemSys_lockKept
    fun c m => (m.enter c (s.wbEntryOf .store n pa v)).onCaches (s.storeSeen n pa)

/-- The write buffer holds the bytes of a store. -/
theorem stored_holds (s : State) (n : Nat) (pa : PAddr) (v : Quad) :
    ∃ e ∈ (s.stored n pa v).memsys.wb, (s.wbEntryOf .store n pa v).Holds e :=
  MemSys.enter_holds ..

/-- The state `t` with all that a store changes put back to what it is in `s`. -/
def putBack (s t : State) : State :=
  { t with pc := s.pc, mem := s.mem, memsys := s.memsys, lockFlag := s.lockFlag, model := s.model }

theorem putBack_advance (s t : State) : putBack s t.advance = putBack s t := rfl

theorem putBack_dcacheStore (s t : State) (r : DRef) (pa : PAddr) : putBack s (s.dcacheStore r pa t) = putBack s t := rfl

theorem putBack_stored (s : State) (n : Nat) (pa : PAddr) (v : Quad) : putBack s (s.stored n pa v) = s := rfl

theorem onlyMemory_of_putBack {t : State} (pc : t.pc = s.pc + 4) (lock : keepsLock s t) (frame : putBack s t = s) :
    onlyMemory s t :=
  ⟨pc, lock, frame⟩

theorem stored_onlyMemory (s : State) (r : DRef) (pa : PAddr) (v : Quad) :
    onlyMemory s (s.dcacheStore r pa (s.stored r.size pa v)).advance := by
  refine onlyMemory_of_putBack rfl (stored_keepsLock s r.size pa v) ?_
  rw [putBack_advance, putBack_dcacheStore, putBack_stored]

/-- A store instruction that is its reference's store. -/
theorem storeWrites_of_exec {i : Instr} {v : Quad} {n : Nat} (write : r.write = true) (phys : r.phys = false)
    (size : r.size = n) (hn : n ∈ [1, 2, 4, 8]) (hi : exec i s = store r v State.done s) : storeWrites i s r pa v := by
  intro reached
  have translation := reached.1
  have hsize : r.size ∈ [1, 2, 4, 8] := size ▸ hn
  have next : exec i s = .next (s.dcacheStore r (s.onBus pa) (s.stored r.size (s.onBus pa) v)).advance := by
    rw [hi, store, translated_ok translation, storeAt_reached write v reached]
    rfl
  refine ⟨_, next, stored_onlyMemory .., fun wf x => s.stored_byte r.size (s.onBus pa) v x wf, ?_⟩
  obtain ⟨e, mem, block, bytes⟩ := stored_holds s r.size (s.onBus pa) v
  refine ⟨e, mem, ?_, fun j hj => bytes _ (bytesAt_bit hj (onBus_in_block phys hsize translation))⟩
  rw [block, State.wbEntryOf_block]

end

/-- Settles O21. -/
theorem storesWriteTheirBytes : Obligations.StoresWriteTheirBytes := by
  intro ra rb disp s pa
  refine ⟨fun h => ⟨?stb, ?stw⟩, ?stl, ?stq, ?stq_u, fun h => ⟨?stf, ?stg, ?sts, ?stt⟩⟩
  case stb => exact storeWrites_of_exec (n := 1) rfl rfl rfl (by decide) (exec_stb h)
  case stw => exact storeWrites_of_exec (n := 2) rfl rfl rfl (by decide) (exec_stw h)
  case stl => exact storeWrites_of_exec (n := 4) rfl rfl rfl (by decide) exec_stl
  case stq => exact storeWrites_of_exec (n := 8) rfl rfl rfl (by decide) exec_stq
  case stq_u => exact storeWrites_of_exec (n := 8) rfl rfl rfl (by decide) exec_stq_u
  case stf => exact storeWrites_of_exec (n := 4) rfl rfl rfl (by decide) (exec_stf h)
  case stg => exact storeWrites_of_exec (n := 8) rfl rfl rfl (by decide) (exec_stg h)
  case sts => exact storeWrites_of_exec (n := 4) rfl rfl rfl (by decide) (exec_sts h)
  case stt => exact storeWrites_of_exec (n := 8) rfl rfl rfl (by decide) (exec_stt h)

end Sys2Proof.Machine

/-! # Conditional stores -/

namespace Sys2Proof.Machine

section
variable {s : State} {r : DRef} {pa : PAddr}

/-! ### Whether it succeeds (20_memory.md R352, R354) -/

/-- Bit 39 is on the bus as it was. -/
theorem onBus_noncacheable (h : 2 ^ 39 ≤ pa.toNat) : (s.onBus pa).getLsbD 39 = true := by
  have bit : pa.getLsbD 39 = true := by rw [PAddr.getLsbD_39, decide_eq_true_iff]; exact h
  unfold State.onBus
  split
  next =>
    rw [BitVec.getLsbD_and, bit]
    decide
  next => exact bit

/-- In cacheable space the bus has the address. -/
theorem onBus_cacheable (h : pa.toNat < 2 ^ 39) : s.onBus pa = pa := if_neg fun io => absurd io.1 (Nat.not_le.mpr h)

/-- The lock flag survives what leaves the write buffer, and then the block's own fill. -/
theorem condSucceeds_cacheable (h : pa.getLsbD 39 = false) : s.condSucceeds pa =
    (s.lockFlag && (s.pins.systemLock ||
      (s.drained.memsys.caches.fills == s.memsys.caches.fills && s.drained.inScache pa))) := by
  have flag : s.drained.lockFlag =
      (s.lockFlag && (s.pins.systemLock || s.drained.memsys.caches.fills == s.memsys.caches.fills)) := rfl
  have holds : s.drained.lockHolds pa = (s.pins.systemLock || s.drained.inScache pa) := rfl
  rw [State.condSucceeds, h, cond_false, flag, holds, Bool.and_assoc, ← Bool.or_and_distrib_left]

theorem condSucceeds_onBus (s : State) (pa : PAddr) : s.condSucceeds (s.onBus pa) =
    if pa.toNat < 2 ^ 39 then s.lockFlag && (s.pins.systemLock ||
      (s.drained.memsys.caches.fills == s.memsys.caches.fills && s.drained.inScache pa))
    else s.drawChoice := by
  split
  next cacheable =>
    rw [onBus_cacheable cacheable, condSucceeds_cacheable]
    rw [PAddr.getLsbD_39, decide_eq_false_iff_not]
    exact Nat.not_le.mpr cacheable
  next noncacheable => rw [State.condSucceeds, onBus_noncacheable (Nat.le_of_not_lt noncacheable), cond_true]

/-! ### What it leaves unchanged -/

/-- A register is written as in a state that differs in what a store changes. -/
theorem putBack_writeReg {u : State} (pc : u.pc = s.pc) (x : Reg) (v : Quad) :
    putBack s (u.writeReg x v) = (putBack s u).writeReg x v := by
  have overlay : (putBack s u).shadowOf x = u.shadowOf x := State.shadowOf_congr (t := putBack s u) pc.symm rfl x
  unfold State.writeReg
  rw [overlay]
  cases x == 31 with
  | true => rfl
  | false => cases u.shadowOf x <;> rfl

theorem putBack_condStored (s : State) (r : DRef) (pa : PAddr) (v : Quad) : putBack s (s.condStored r pa v) = s := by
  simp [putBack]

/-- The entries before it have left the write buffer. -/
theorem condStored_wb (s : State) (r : DRef) (pa : PAddr) (v : Quad) : (s.condStored r pa v).memsys.wb = [] := by
  have drained (b : Bool) :
      (bif b then (s.dcacheStore r pa s).drained.drawn else (s.dcacheStore r pa s).drained).memsys.wb.length = 0 := by
    cases b <;> exact List.length_eq_zero_iff.mpr (MemSys.sendAll_wb ..)
  unfold State.condStored
  dsimp only
  refine List.length_eq_zero_iff.mp ?_
  change (MemSys.conditional _ _ _ _ _).wb.length = 0
  rw [MemSys.conditional_length, State.condWritten_memsys, drained]

/-! ### The instruction -/

variable {k : Bool → State → Result State} {v : Quad}

theorem condAt_reached (cbuStore : s.model.cbuStore = false) (owed : s.model.owed.storesHeld = false)
    (cbu : inCbu pa = false) (unforced : pa.toNat < 2 ^ 39 → s.cacheCfg.scForced = false ∧ s.cacheCfg.bcForced = false) :
    condAt r pa v k s =
      bif s.stopped then .next s else k (s.condSucceeds (s.onBus pa)) (s.condStored r (s.onBus pa) v) := by
  have notForced : (!pa.getLsbD 39 && (s.cacheCfg.scForced || s.cacheCfg.bcForced)) = false := by
    cases space : pa.getLsbD 39 with
    | true => rfl
    | false =>
      rw [PAddr.getLsbD_39, decide_eq_false_iff_not] at space
      obtain ⟨scache, bcache⟩ := unforced (Nat.lt_of_not_le space)
      rw [scache, bcache]
      rfl
  rw [condAt, busAddress_eq_onBus, cbuStore, owed, cbu, notForced]
  rfl

/-- A conditional store that is its reference's. -/
theorem conditionalWrites_of_exec {i : Instr} (hi : exec i s =
    storeConditional r (s.readReg r.ra) (fun ok t => (t.writeReg r.ra (quadOfBool ok)).done) s) :
    conditionalWrites i s r pa := by
  intro translation cbuStore owed cbu unforced
  rw [← condSucceeds_onBus]
  generalize ok : s.condSucceeds (s.onBus pa) = done
  have result : exec i s = bif s.stopped then .next s else
      .next ((s.condStored r (s.onBus pa) (s.readReg r.ra)).writeReg r.ra (quadOfBool done)).advance := by
    rw [hi, storeConditional, translated_ok translation, condAt_reached cbuStore owed cbu unforced, ok]
    rfl
  have next (runs : s.mtu.mafMode.getLsbD 5 = false) : exec i s =
      .next ((s.condStored r (s.onBus pa) (s.readReg r.ra)).writeReg r.ra (quadOfBool done)).advance := by
    rw [result, State.stopped, runs, cond_false]
  refine ⟨fun stopped => ?waits, fun runs => ⟨_, next runs, ?pc, ?lock, ?wb, ?frame, fun yes wf x => ?stored, fun no x => ?kept⟩⟩
  case waits => rw [result, State.stopped, stopped, cond_true]
  case pc => rw [State.advance_pc, State.writeReg_pc, State.condStored_pc]
  case lock => rw [State.advance_lockFlag, State.writeReg_lockFlag, State.condStored_lockFlag]
  case wb =>
    change ((s.condStored r (s.onBus pa) (s.readReg r.ra)).writeReg r.ra _).memsys.wb = []
    rw [State.writeReg_memsys, condStored_wb]
  case frame =>
    change putBack s (State.advance _) = _
    rw [putBack_advance, putBack_writeReg (State.condStored_pc ..), putBack_condStored, quadOfBool, Bool.cond_eq_ite]
  case stored =>
    change Memory.byte ((s.condStored r (s.onBus pa) (s.readReg r.ra)).writeReg r.ra _).mem x = _
    rw [State.writeReg_mem, State.condStored_mem, if_pos (ok.trans yes)]
    exact Memory.byte_writeBytes wf
  case kept =>
    change Memory.byte ((s.condStored r (s.onBus pa) (s.readReg r.ra)).writeReg r.ra _).mem x = _
    rw [State.writeReg_mem, State.condStored_mem, ok, no, if_neg Bool.false_ne_true]

end

/-- Settles O22. -/
theorem conditionalStoreResults : Obligations.ConditionalStoreResults :=
  fun _ _ _ _ _ => ⟨conditionalWrites_of_exec exec_stl_c, conditionalWrites_of_exec exec_stq_c⟩

end Sys2Proof.Machine

/-! # Control flow -/

namespace Sys2Proof.Machine

/-! ### The addresses that branches and jumps write (41_control.md R560, R562, R581) -/

theorem toNat_upper_append (t : Quad) {n : Nat} (b : BitVec n) :
    ((slice t 2 62 : BitVec 62) ++ b).toNat = t.toNat / 2 ^ 2 * 2 ^ n + b.toNat := by
  have upper : t.toNat / 2 ^ 2 < 2 ^ 62 := Nat.div_lt_of_lt_mul t.isLt
  rw [BitVec.toNat_append, ← Nat.shiftLeft_add_eq_or_of_lt b.isLt, Nat.shiftLeft_eq, slice, toNat_extractLsb',
    Nat.mod_eq_of_lt upper]

theorem toNat_savedPc (t pc : Quad) : (savedPc t pc).toNat = t.toNat / 4 * 4 + pc.toNat % 2 := by
  have zero : (0 : BitVec 1).toNat = 0 := rfl
  rw [savedPc, BitVec.toNat_append, ← Nat.shiftLeft_add_eq_or_of_lt (BitVec.isLt _), Nat.shiftLeft_eq, toNat_upper_append,
    slice, toNat_extractLsb', zero]
  omega

/-- The two low bits of pc take no part in the sum, so that it may be taken with them. -/
theorem branchTarget_eq (pc : Quad) (disp : BitVec 21) :
    branchTarget pc disp = BitVec.ofInt 64 (pc.toInt + 4 + 4 * disp.toInt) := by
  have sum : BitVec.ofInt 64 (pc.toInt + 4 + 4 * disp.toInt) = pc + 4 + 4 * disp.signExtend 64 := by
    rw [BitVec.ofInt_add, BitVec.ofInt_add, BitVec.ofInt_mul, BitVec.ofInt_toInt]
    rfl
  have low : (slice pc 0 2).toNat = pc.toNat / 2 ^ 0 % 4 := toNat_extractLsb' pc 0 2
  have four : (4 : Quad).toNat = 4 := rfl
  have cast : ((4 : Nat) : Quad).toNat = 4 := rfl
  rw [sum]
  apply BitVec.eq_of_toNat_eq
  rw [branchTarget, toNat_upper_append, low, BitVec.toNat_add, BitVec.toNat_add, toNat_clearLow, BitVec.toNat_shiftLeft,
    BitVec.toNat_add, BitVec.toNat_add, BitVec.toNat_mul, four, cast, Nat.shiftLeft_eq]
  omega

/-- The return address is what EXC_ADDR would receive at the next instruction. -/
theorem returnAddress_eq (pc : Quad) : returnAddress pc = (pc + 4) &&& ~~~2 := by
  have four : (4 : Quad).toNat = 4 := rfl
  rw [← savedPc_self]
  change savedPc (clearLow pc 2 + 4) pc = _
  apply BitVec.eq_of_toNat_eq
  rw [toNat_savedPc, toNat_savedPc, BitVec.toNat_add, BitVec.toNat_add, toNat_clearLow, four]
  omega

theorem savedPc_zero (t : Quad) : savedPc t 0 = t &&& ~~~3 := by
  rw [← clearLow_two]
  apply BitVec.eq_of_toNat_eq
  rw [toNat_savedPc, toNat_clearLow]
  rfl

theorem bit_zero (v : Quad) : bit v 0 = decide (v.toNat % 2 = 1) := Nat.testBit_zero ..

theorem slice_zero_one (v : Quad) : slice v 0 1 = BitVec.ofBool (bit v 0) := by
  ext i hi
  obtain rfl : i = 0 := Nat.lt_one_iff.mp hi
  simp [slice, bit]

/-- In PALmode bit 0 of the target is kept and only bit 1 cleared, in native mode both. -/
theorem jumpTarget_eq (pc t : Quad) : jumpTarget pc t = if pc.toNat % 2 = 1 then t &&& ~~~2 else t &&& ~~~3 := by
  rw [← savedPc_self, ← savedPc_zero, jumpTarget, bit_zero pc]
  split
  next pal => rw [decide_eq_true pal, Bool.true_and, savedPc, slice_zero_one]
  next native => rw [decide_eq_false native, Bool.false_and]; rfl

/-! ### The conditions (R566, R570) -/

theorem isNegative_eq (a : Quad) : isNegative a = decide (a.toInt < 0) :=
  (BitVec.msb_eq_getLsbD_last a).symm.trans BitVec.msb_eq_toInt

theorem toInt_eq_zero_iff (a : Quad) : a.toInt = 0 ↔ a = 0 := BitVec.toInt_inj (y := 0)

theorem bit_zero_eq (a : Quad) : bit a 0 = decide (a.toInt % 2 = 1) := by
  rw [bit_zero, BitVec.toInt_eq_toNat_cond]
  apply decide_eq_decide.mpr
  split <;> omega

theorem fpZero_eq (f : Quad) : fpZero f = decide (f.toNat % 2 ^ 63 = 0) := by
  have low : (slice f 0 63).toNat = f.toNat % 2 ^ 63 := by rw [slice, toNat_extractLsb', Nat.pow_zero, Nat.div_one]
  rw [← low]
  exact decide_eq_decide.mpr BitVec.toNat_inj.symm

/-! ### The instructions -/

theorem branchIf_eq (c : Bool) (disp : BitVec 21) (s : State) : branchIf c disp s = .next
    (if c = true then { s with pc := BitVec.ofInt 64 (s.pc.toInt + 4 + 4 * disp.toInt) } else s.advance) := by
  rw [← branchTarget_eq]
  cases c <;> rfl

theorem branchLink_eq (ra : Reg) (disp : BitVec 21) (s : State) : branchLink ra disp s = .next
    { s.writeReg ra ((s.pc + 4) &&& ~~~2) with pc := BitVec.ofInt 64 (s.pc.toInt + 4 + 4 * disp.toInt) } := by
  rw [← branchTarget_eq, ← returnAddress_eq]
  rfl

theorem jumpLink_eq (ra rb : Reg) (s : State) : jumpLink ra rb s = .next
    { s.writeReg ra ((s.pc + 4) &&& ~~~2) with
      pc := if s.pc.toNat % 2 = 1 then s.readReg rb &&& ~~~2 else s.readReg rb &&& ~~~3 } := by
  rw [← jumpTarget_eq, ← returnAddress_eq]
  rfl

/-- An integer branch whose test of R[Ra] decides `p` of the signed number there. -/
theorem branchesWhen_of_exec {c : Reg → BitVec 21 → Instr} {p : Int → Prop} [DecidablePred p] (cond : Quad → Bool)
    (hexec : ∀ ra disp s, exec (c ra disp) s = branchIf (cond (s.readReg ra)) disp s)
    (hcond : ∀ a : Quad, cond a = true ↔ p a.toInt) : branchesWhen c p := by
  intro ra disp s
  rw [hexec, branchIf_eq]
  simp only [hcond]

/-- A floating-point branch, by its test as a function of the sign and of zero. -/
theorem floatBranchesWhen_of_exec {c : Reg → BitVec 21 → Instr} {p : Bool → Bool → Bool}
    (hexec : ∀ fa disp s, exec (c fa disp) s =
      whenFp (branchIf (p (isNegative (s.readFreg fa)) (fpZero (s.readFreg fa))) disp) s) : floatBranchesWhen c p := by
  intro fa disp s enabled
  rw [hexec, whenFp_enabled enabled, branchIf_eq, isNegative_eq, fpZero_eq]

/-- Settles O30: each condition, a test of bits, by what it says of the number in R[Ra]. -/
theorem branchesGoToTheirTarget : Obligations.BranchesGoToTheirTarget := by
  refine ⟨fun c hc ra disp s => ?link, ?beq, ?bne, ?blt, ?ble, ?bgt, ?bge, ?blbc, ?blbs⟩
  case link =>
    rw [← branchLink_eq]
    simp only [List.mem_cons, List.not_mem_nil, or_false] at hc
    obtain rfl | rfl := hc <;> rfl
  case beq =>
    refine branchesWhen_of_exec (· == 0) (fun _ _ _ => rfl) fun a => ?_
    rw [beq_iff_eq, toInt_eq_zero_iff]
  case bne =>
    refine branchesWhen_of_exec (· != 0) (fun _ _ _ => rfl) fun a => ?_
    rw [bne_iff_ne, Ne, Ne, toInt_eq_zero_iff]
  case blt =>
    refine branchesWhen_of_exec isNegative (fun _ _ _ => rfl) fun a => ?_
    rw [isNegative_eq, decide_eq_true_iff]
  case ble =>
    refine branchesWhen_of_exec (fun a => isNegative a || a == 0) (fun _ _ _ => rfl) fun a => ?_
    rw [Bool.or_eq_true, isNegative_eq, decide_eq_true_iff, beq_iff_eq, ← toInt_eq_zero_iff, Int.le_iff_lt_or_eq]
  case bgt =>
    refine branchesWhen_of_exec (fun a => !isNegative a && a != 0) (fun _ _ _ => rfl) fun a => ?_
    rw [Bool.and_eq_true, Bool.not_eq_true', isNegative_eq, decide_eq_false_iff_not, bne_iff_ne, Ne, ← toInt_eq_zero_iff]
    omega
  case bge =>
    refine branchesWhen_of_exec (fun a => !isNegative a) (fun _ _ _ => rfl) fun a => ?_
    rw [Bool.not_eq_true', isNegative_eq, decide_eq_false_iff_not, not_lt]
  case blbc =>
    refine branchesWhen_of_exec (fun a => !bit a 0) (fun _ _ _ => rfl) fun a => ?_
    rw [Bool.not_eq_true', bit_zero_eq, decide_eq_false_iff_not, Int.emod_two_ne_one]
  case blbs =>
    refine branchesWhen_of_exec (bit · 0) (fun _ _ _ => rfl) fun a => ?_
    rw [bit_zero_eq, decide_eq_true_iff]

/-- Settles O31: each test is the statement's own, of what `isNegative` and `fpZero` say of F[Fa]. -/
theorem floatingConditionalBranches : Obligations.FloatingConditionalBranches := by
  refine ⟨?fbeq, ?fbne, ?fblt, ?fble, ?fbgt, ?fbge⟩ <;> exact floatBranchesWhen_of_exec fun _ _ _ => rfl

/-- Settles O32: the four jumps are one operation (`jumpLink`); their hints have no effect. -/
theorem jumpsGoToTheRegister : Obligations.JumpsGoToTheRegister := by
  intro c hc ra rb hint s
  rw [← jumpLink_eq]
  simp only [List.mem_cons, List.not_mem_nil, or_false] at hc
  obtain rfl | rfl | rfl | rfl := hc <;> rfl

end Sys2Proof.Machine

/-! # Integer arithmetic -/

namespace Sys2Proof.Machine

/-! ### Words that wrap (42_integer_arith.md R601) -/

/-- The operation `g` on words of n bits is the operation `f` on integers, cut to n bits. -/
def Wraps (n : Nat) (g : BitVec n → BitVec n → BitVec n) (f : Int → Int → Int) : Prop :=
  ∀ x y, g (BitVec.ofInt n x) (BitVec.ofInt n y) = BitVec.ofInt n (f x y)

namespace Wraps

variable {n : Nat}

theorem add : Wraps n (· + ·) (· + ·) := fun x y => (BitVec.ofInt_add x y).symm

theorem sub : Wraps n (· - ·) (· - ·) := by
  intro x y
  show BitVec.ofInt n x - BitVec.ofInt n y = BitVec.ofInt n (x - y)
  rw [BitVec.sub_eq_add_neg, Int.sub_eq_add_neg, BitVec.ofInt_add, BitVec.ofInt_neg]

theorem mul : Wraps n (· * ·) (· * ·) := fun x y => (BitVec.ofInt_mul x y).symm

/-- The scaled first source of the S4 and S8 instructions: a shift is the multiplication by a power of two (R612 to R619). -/
theorem scaled {g : BitVec n → BitVec n → BitVec n} {f : Int → Int → Int} (h : Wraps n g f) (k : Nat) {m : Int}
    (hm : m = (2 ^ k : Nat)) : Wraps n (fun x y : BitVec n => g (x <<< k) y) (fun x y => f (m * x) y) := by
  intro x y
  have power : BitVec.ofInt n m = BitVec.twoPow n k := by
    rw [hm, BitVec.ofInt_natCast]
    exact BitVec.eq_of_toNat_eq (BitVec.toNat_twoPow n k).symm
  have shifted : BitVec.ofInt n x <<< k = BitVec.ofInt n (m * x) := by
    rw [BitVec.ofInt_mul, power, BitVec.twoPow_mul_eq_shiftLeft]
  show g (BitVec.ofInt n x <<< k) (BitVec.ofInt n y) = BitVec.ofInt n (f (m * x) y)
  rw [shifted, h]

/-- On quadwords, in terms of their signed numbers. -/
theorem quadOp_eq {g : Quad → Quad → Quad} {f : Int → Int → Int} (h : Wraps 64 g f) (a b : Quad) :
    g a b = wrapped 64 (f a.toInt b.toInt) := by
  rw [wrapped, BitVec.signExtend_eq, ← h, BitVec.ofInt_toInt, BitVec.ofInt_toInt]

/-- On the low longwords, in terms of their signed numbers. -/
theorem longOp_eq_low {g : Long → Long → Long} {f : Int → Int → Int} (h : Wraps 32 g f) (a b : Quad) :
    longOp g a b = wrapped 32 (f (low32 a).toInt (low32 b).toInt) := by
  rw [wrapped, ← h, BitVec.ofInt_toInt, BitVec.ofInt_toInt, longOp]

/-- On the low longwords, in terms of the signed numbers of the whole quadwords: what is above bit 31 takes no part. -/
theorem longOp_eq {g : Long → Long → Long} {f : Int → Int → Int} (h : Wraps 32 g f) (a b : Quad) :
    longOp g a b = wrapped 32 (f a.toInt b.toInt) := by
  have low32_eq (v : Quad) : low32 v = BitVec.ofInt 32 v.toInt :=
    (BitVec.signExtend_eq_setWidth_of_le v (by decide)).symm
  rw [wrapped, ← h, ← low32_eq, ← low32_eq, longOp]

end Wraps

/-! ### The instructions (R600, R602) -/

section

variable {c : Reg → Operand → Reg → Instr}

/-- An Operate instruction whose function on quadwords is the one that its statement gives. -/
theorem operateWrites_of_exec {g f : Quad → Quad → Quad} (hexec : ∀ ra b rc s, exec (c ra b rc) s = operate g ra b rc s)
    (hresult : ∀ a b, g a b = f a b) : operateWrites c f := by
  intro ra b rc s
  rw [hexec, ← hresult]
  rfl

theorem Wraps.quadOp_writes {g : Quad → Quad → Quad} {f : Int → Int → Int} (h : Wraps 64 g f)
    (hexec : ∀ ra b rc s, exec (c ra b rc) s = operate g ra b rc s) :
    operateWrites c fun a b => wrapped 64 (f a.toInt b.toInt) := operateWrites_of_exec hexec h.quadOp_eq

theorem Wraps.longOp_writes {g : Long → Long → Long} {f : Int → Int → Int} (h : Wraps 32 g f)
    (hexec : ∀ ra b rc s, exec (c ra b rc) s = operate (longOp g) ra b rc s) :
    operateWrites c fun a b => wrapped 32 (f a.toInt b.toInt) := operateWrites_of_exec hexec h.longOp_eq

/-- A compare, as a condition on the sources. -/
theorem compare_writes {test : Quad → Quad → Bool} {p : Quad → Quad → Prop} [DecidableRel p]
    (hexec : ∀ ra b rc s, exec (c ra b rc) s = operate (fun x y => quadOfBool (test x y)) ra b rc s)
    (htest : ∀ a b, test a b = decide (p a b)) : operateWrites c fun a b => if p a b then 1 else 0 := by
  refine operateWrites_of_exec hexec fun a b => ?_
  rw [htest, quadOfBool, Bool.cond_decide]

theorem outside_eq (n : Nat) (z : Int) : outside n z = !decide (-(2 ^ (n - 1) : Int) ≤ z ∧ z < 2 ^ (n - 1)) := by
  rw [outside, ← Bool.decide_or, ← decide_not]
  exact decide_eq_decide.mpr (by omega)

/-- The trap with its bits as numbers: EXC_SUM<IOV>, and the register's bit of EXC_MASK (11_state_idu_iprs.md R135, R137). -/
theorem State.integerTrap_eq (s : State) (r : Reg) : s.integerTrap r =
    { s with
      idu := { s.idu with
        excSum := s.idu.excSum ||| 0x40
        excMaskInt := s.idu.excMaskInt ||| 1 <<< r.toNat }
      arithPending := true } := rfl

/-- A /V instruction whose function and condition on quadwords are those of an operation on integers. -/
theorem operateTraps_of_exec {n : Nat} {f : Int → Int → Int} {g : Quad → Quad → Quad} {overflows : Quad → Quad → Bool}
    (hexec : ∀ ra b rc s, exec (c ra b rc) s = operateV g overflows ra b rc s)
    (hresult : ∀ a b, g a b = wrapped n (f (a.setWidth n).toInt (b.setWidth n).toInt))
    (hover : ∀ a b, overflows a b = outside n (f (a.setWidth n).toInt (b.setWidth n).toInt)) : operateTraps c n f := by
  intro ra b rc s z t
  rw [hexec, operateV, hresult, hover, outside_eq]
  by_cases fits : -(2 ^ (n - 1) : Int) ≤ z ∧ z < 2 ^ (n - 1)
  · rw [if_pos fits, decide_eq_true fits, Bool.not_true, cond_false, State.done]
  · rw [if_neg fits, decide_eq_false fits, Bool.not_false, cond_true, State.integerTrap_eq]
    rfl

theorem Wraps.quadOp_traps {g : Quad → Quad → Quad} {f : Int → Int → Int} (h : Wraps 64 g f)
    (hexec : ∀ ra b rc s, exec (c ra b rc) s = operateV g (quadOver f) ra b rc s) :
    operateTraps c 64 f := by
  refine operateTraps_of_exec hexec (fun a b => ?_) fun a b => ?_
  · rw [h.quadOp_eq, BitVec.setWidth_eq, BitVec.setWidth_eq]
  · rw [quadOver, BitVec.setWidth_eq, BitVec.setWidth_eq]

theorem Wraps.longOp_traps {g : Long → Long → Long} {f : Int → Int → Int} (h : Wraps 32 g f)
    (hexec : ∀ ra b rc s, exec (c ra b rc) s = operateV (longOp g) (longOver f) ra b rc s) :
    operateTraps c 32 f := operateTraps_of_exec hexec h.longOp_eq_low fun _ _ => rfl

end

/-- The product has at most 128 bits. -/
theorem umulh_eq (a b : Quad) : umulh a b = BitVec.ofNat 64 (a.toNat * b.toNat / 2 ^ 64) := by
  have product : a.toNat * b.toNat < 2 ^ (64 + 64) := Nat.pow_add .. ▸ Nat.mul_lt_mul'' a.isLt b.isLt
  apply BitVec.eq_of_toNat_eq
  rw [umulh, toNat_extractLsb', BitVec.toNat_mul, BitVec.toNat_setWidth_of_le (by decide),
    BitVec.toNat_setWidth_of_le (by decide), Nat.mod_eq_of_lt product, BitVec.toNat_ofNat]

/-! ### The obligations -/

/-- Settles O8: a sum or difference of words wraps that of the integers, with the first source scaled or not. -/
theorem addAndSubtractResults : Obligations.AddAndSubtractResults := by
  refine ⟨?addl, ?addq, ?subl, ?subq, ?s4addl, ?s8addl, ?s4addq, ?s8addq, ?s4subl, ?s8subl, ?s4subq, ?s8subq⟩
  case addl => exact Wraps.add.longOp_writes fun _ _ _ _ => rfl
  case addq => exact Wraps.add.quadOp_writes fun _ _ _ _ => rfl
  case subl => exact Wraps.sub.longOp_writes fun _ _ _ _ => rfl
  case subq => exact Wraps.sub.quadOp_writes fun _ _ _ _ => rfl
  case s4addl => exact (Wraps.add.scaled (m := 4) 2 rfl).longOp_writes fun _ _ _ _ => rfl
  case s8addl => exact (Wraps.add.scaled (m := 8) 3 rfl).longOp_writes fun _ _ _ _ => rfl
  case s4addq => exact (Wraps.add.scaled (m := 4) 2 rfl).quadOp_writes fun _ _ _ _ => rfl
  case s8addq => exact (Wraps.add.scaled (m := 8) 3 rfl).quadOp_writes fun _ _ _ _ => rfl
  case s4subl => exact (Wraps.sub.scaled (m := 4) 2 rfl).longOp_writes fun _ _ _ _ => rfl
  case s8subl => exact (Wraps.sub.scaled (m := 8) 3 rfl).longOp_writes fun _ _ _ _ => rfl
  case s4subq => exact (Wraps.sub.scaled (m := 4) 2 rfl).quadOp_writes fun _ _ _ _ => rfl
  case s8subq => exact (Wraps.sub.scaled (m := 8) 3 rfl).quadOp_writes fun _ _ _ _ => rfl

/-- Settles O9: the signed tests compare the signed numbers of the sources, the unsigned ones the unsigned. -/
theorem compareResults : Obligations.CompareResults := by
  refine ⟨?cmpeq, ?cmplt, ?cmple, ?cmpult, ?cmpule⟩
  case cmpeq => exact compare_writes (fun _ _ _ _ => rfl) fun _ _ => rfl
  case cmplt => exact compare_writes (fun _ _ _ _ => rfl) fun _ _ => BitVec.slt_eq_decide
  case cmple => exact compare_writes (fun _ _ _ _ => rfl) fun _ _ => BitVec.sle_eq_decide
  case cmpult => exact compare_writes (fun _ _ _ _ => rfl) fun _ _ => BitVec.ult_eq_decide
  case cmpule => exact compare_writes (fun _ _ _ _ => rfl) fun _ _ => rfl

/-- Settles O10: the low product of words wraps that of the integers; the high one is a part of the exact product. -/
theorem multiplyResults : Obligations.MultiplyResults :=
  ⟨Wraps.mul.longOp_writes fun _ _ _ _ => rfl, Wraps.mul.quadOp_writes fun _ _ _ _ => rfl,
    operateWrites_of_exec (fun _ _ _ _ => rfl) umulh_eq⟩

/-- Settles O11: the result wraps as without /V, and `outside` is the complement of the range. -/
theorem integerOverflowTraps : Obligations.IntegerOverflowTraps := by
  refine ⟨?addl_v, ?addq_v, ?subl_v, ?subq_v, ?mull_v, ?mulq_v⟩
  case addl_v => exact Wraps.add.longOp_traps fun _ _ _ _ => rfl
  case addq_v => exact Wraps.add.quadOp_traps fun _ _ _ _ => rfl
  case subl_v => exact Wraps.sub.longOp_traps fun _ _ _ _ => rfl
  case subq_v => exact Wraps.sub.quadOp_traps fun _ _ _ _ => rfl
  case mull_v => exact Wraps.mul.longOp_traps fun _ _ _ _ => rfl
  case mulq_v => exact Wraps.mul.quadOp_traps fun _ _ _ _ => rfl

/-! ### Worked words -/

/-- A word that the encoder writes decodes to the instruction it was written for. -/
theorem decode_of_encode_eq {i : Instr} {w : Long} (h : encode i = w) : decode w = .instr i := h ▸ decode_encode i

/-- Settles O3: each word is the encoding of its instruction; that of RPCC has 0 for Rb, where the encoder writes 31. -/
theorem workedWordsDecode : Obligations.WorkedWordsDecode := by
  refine ⟨?addl, ?addq, ?extbl, ?umulh, ?sextb, ?lda, ?ldq, ?stl_c, ?br, ?mb, ?rpcc, ?call_pal, ?hw_rei_stall⟩
  case rpcc => exact decode_encMisc (ra := 1) (rb := 0) (d := 0xC000) rfl
  all_goals exact decode_of_encode_eq rfl

end Sys2Proof.Machine

/-! # Logical, shift and byte instructions -/

namespace Sys2Proof.Machine

/-! ### Bits and shifts (43_logical_shift_byte.md R652 to R657, R670 to R672) -/

section
variable {c : Reg → Operand → Reg → Instr}

/-- A logical instruction, by what its operation does to one bit. -/
theorem bitwise_writes {g : Quad → Quad → Quad} {p : Bool → Bool → Bool}
    (hexec : ∀ ra b rc s, exec (c ra b rc) s = operate g ra b rc s)
    (hbit : ∀ (a b : Quad), ∀ i < 64, (g a b).getLsbD i = p (a.getLsbD i) (b.getLsbD i)) :
    operateWrites c fun a b => BitVec.ofFnLE fun i => p (a.getLsbD i) (b.getLsbD i) := by
  refine operateWrites_of_exec hexec fun a b => BitVec.eq_of_getLsbD_eq fun i hi => ?_
  rw [hbit a b i hi, BitVec.getLsbD_ofFnLE, dif_pos hi]

theorem getLsbD_not_of_lt (v : Quad) {i : Nat} (hi : i < 64) : (~~~v).getLsbD i = !v.getLsbD i := by
  rw [BitVec.getLsbD_not, decide_eq_true hi, Bool.true_and]

theorem shiftCount_eq (b : Quad) : shiftCount b = b.toNat % 64 := by
  rw [shiftCount, slice_zero_eq, BitVec.toNat_ofNat]

theorem shiftLeft_shiftCount (a b : Quad) : a <<< shiftCount b = BitVec.ofNat 64 (a.toNat * 2 ^ (b.toNat % 64)) := by
  apply BitVec.eq_of_toNat_eq
  rw [shiftCount_eq, BitVec.toNat_shiftLeft, Nat.shiftLeft_eq, BitVec.toNat_ofNat]

theorem ushiftRight_shiftCount (a b : Quad) : a >>> shiftCount b = BitVec.ofNat 64 (a.toNat / 2 ^ (b.toNat % 64)) := by
  rw [shiftCount_eq, ← Nat.shiftRight_eq_div_pow, ← BitVec.toNat_ushiftRight, BitVec.ofNat_toNat, BitVec.setWidth_eq]

theorem sshiftRight_shiftCount (a b : Quad) :
    a.sshiftRight (shiftCount b) = BitVec.ofInt 64 (a.toInt / 2 ^ (b.toNat % 64)) := by
  have power : ((2 ^ (b.toNat % 64) : Nat) : Int) = 2 ^ (b.toNat % 64) := Nat.cast_pow ..
  rw [shiftCount_eq, ← power, ← Int.shiftRight_eq_div_pow, ← BitVec.toInt_sshiftRight, BitVec.ofInt_toInt]

/-! ### Conditional moves (R660 to R668) -/

/-- A conditional move whose test decides the condition of its statement. -/
theorem movesWhen_of_exec {p : Quad → Prop} [DecidablePred p] {cond : Quad → Bool}
    (hexec : ∀ ra b rc s, exec (c ra b rc) s = moveIf cond ra b rc s) (hcond : ∀ a, cond a = decide (p a)) :
    movesWhen c p := by
  intro ra b rc s
  rw [hexec, moveIf, hcond, Bool.cond_decide, State.done, apply_ite State.advance]

theorem beq_zero_eq (a : Quad) : (a == 0) = decide (a.toInt = 0) := decide_eq_decide.mpr (toInt_eq_zero_iff a).symm

/-! ### Bytes that are kept or cleared (R680) -/

variable {v : Quad} {m : BitVec 8} {i j n : Nat}

theorem getLsbD_wholeByte (b : Bool) (k : Nat) :
    (bif b then 0xFF else 0 : BitVec 8).getLsbD k = (decide (k < 8) && b) := by
  cases b with
  | false => rw [Bool.and_false]; exact BitVec.getLsbD_zero
  | true => rw [Bool.and_true]; exact BitVec.getLsbD_allOnes

theorem getLsbD_byteMask (m : BitVec 8) (hi : i < 64) : (byteMask m).getLsbD i = m.getLsbD (i / 8) := by
  simp only [byteMask, BitVec.getLsbD_append, getLsbD_wholeByte]
  grind

theorem getLsbD_byteZap (v : Quad) (m : BitVec 8) (hi : i < 64) :
    (byteZap v m).getLsbD i = (v.getLsbD i && !m.getLsbD (i / 8)) := by
  rw [byteZap, BitVec.getLsbD_and, getLsbD_not_of_lt _ hi, getLsbD_byteMask m hi]

theorem byteAt_byteZap (v : Quad) (m : BitVec 8) (hj : j < 8) :
    byteAt (byteZap v m) j = if m.getLsbD j = true then 0 else byteAt v j := by
  apply BitVec.eq_of_getLsbD_eq
  intro i hi
  have index : (8 * j + i) / 8 = j := by omega
  rw [byteAt, BitVec.getLsbD_extractLsb', getLsbD_byteZap v m (by omega), index]
  cases m.getLsbD j <;> simp [byteAt, hi]

theorem getLsbD_lowByte (v : Quad) (hj : j < 8) : (slice v 0 8).getLsbD j = v.getLsbD j := by
  rw [slice, BitVec.getLsbD_extractLsb', decide_eq_true hj, Bool.true_and, Nat.zero_add]

theorem getLsbD_quadOfBool_shiftLeft (p : Bool) (hi : i < 64) (j : Nat) :
    (quadOfBool p <<< i).getLsbD j = (decide (j = i) && p) := by
  cases p with
  | false => simp [quadOfBool]
  | true =>
    rw [Bool.and_true]
    exact (getLsbD_oneBit i j).trans (by grind)

/-- The quadword of eight conditions, as CMPBGE makes it. -/
theorem getLsbD_flags (p : Nat → Bool) (j : Nat) :
    (quadOfBool (p 0) <<< 0 ||| quadOfBool (p 1) <<< 1 ||| quadOfBool (p 2) <<< 2 ||| quadOfBool (p 3) <<< 3 |||
      quadOfBool (p 4) <<< 4 ||| quadOfBool (p 5) <<< 5 ||| quadOfBool (p 6) <<< 6 ||| quadOfBool (p 7) <<< 7).getLsbD j =
      (decide (j < 8) && p j) := by
  have flag (b : Bool) (i : Nat) (hi : i < 8) : (quadOfBool b <<< i).getLsbD j = (decide (j = i) && b) :=
    getLsbD_quadOfBool_shiftLeft b (by omega) j
  simp only [BitVec.getLsbD_or, flag, Nat.reduceLT]
  rcases Nat.lt_or_ge j 8 with below | above
  · interval_cases j <;> simp
  · grind

theorem getLsbD_compareBytes (a b : Quad) (j : Nat) :
    (compareBytes a b).getLsbD j = (decide (j < 8) && decide ((byteAt b j).toNat ≤ (byteAt a j).toNat)) :=
  getLsbD_flags (fun i => (slice b (8 * i) 8).ule (slice a (8 * i) 8)) j

theorem toNat_compareBytes_lt (a b : Quad) : (compareBytes a b).toNat < 256 := by
  refine Nat.lt_pow_two_of_testBit (n := 8) _ fun j hj => ?_
  rw [BitVec.testBit_toNat, getLsbD_compareBytes, decide_eq_false (Nat.not_lt.mpr hj), Bool.false_and]

/-! ### The datum at its offset (R680, R690) -/

/-- SIZEMASK of a datum of n bytes: 01, 03, 0F, FF for 1, 2, 4, 8. -/
def sizeMask (n : Nat) : BitVec 8 := BitVec.ofNat 8 (2 ^ n - 1)

theorem getLsbD_sizeMask (hn : n ≤ 8) (j : Nat) : (sizeMask n).getLsbD j = decide (j < n) := by
  rw [sizeMask, BitVec.getLsbD_ofNat, Nat.testBit_two_pow_sub_one, ← Bool.decide_and, decide_eq_decide]
  omega

/-- The datum takes the bytes k to k + n - 1 of two quadwords. -/
theorem getLsbD_offsetMask (hn : n ≤ 8) (off : BitVec 3) (hj : j < 16) :
    (offsetMask (sizeMask n) off).getLsbD j = decide (off.toNat ≤ j ∧ j < off.toNat + n) := by
  have index : j - off.toNat < 16 := by omega
  rw [offsetMask, BitVec.getLsbD_shiftLeft, BitVec.getLsbD_setWidth, getLsbD_sizeMask hn, decide_eq_true hj,
    decide_eq_true index, Bool.true_and, Bool.true_and, ← decide_not, ← Bool.decide_and, decide_eq_decide]
  omega

/-- In big-endian order the offset is counted from the other end. -/
theorem State.toNat_byteOffset (s : State) (b : Quad) :
    (s.byteOffset b).toNat = if s.mtu.mcsr.getLsbD 4 = true then 7 - b.toNat % 8 else b.toNat % 8 := by
  have low : (slice b 0 3).toNat = b.toNat % 8 := by rw [slice_zero_eq, BitVec.toNat_ofNat]
  have inverted : ∀ x : BitVec 3, (x ^^^ 7).toNat = 7 - x.toNat := by decide
  rw [State.byteOffset, Bool.cond_eq_ite, apply_ite BitVec.toNat, inverted, low]

/-- A quadword of which the bytes j with p j are kept, as the number that has their bits: of each form it remains to say which
bytes its mask leaves, and that its number has the bits of the shifted R[Ra] there. -/
theorem byteZap_eq_ofNat {p : Nat → Prop} {x : Nat} (hm : ∀ j < 8, m.getLsbD j = true ↔ ¬p j)
    (hx : ∀ i < 64, x.testBit i = true ↔ v.getLsbD i = true ∧ p (i / 8)) : byteZap v m = BitVec.ofNat 64 x := by
  apply BitVec.eq_of_getLsbD_eq
  intro i hi
  rw [getLsbD_byteZap v m hi, BitVec.getLsbD_ofNat, decide_eq_true hi, Bool.true_and, Bool.eq_iff_iff, hx i hi,
    Bool.and_eq_true, Bool.not_eq_true', ← Bool.not_eq_true, hm _ (by omega), not_not]

/-- The bytes of the datum in the low of the two quadwords. -/
theorem lowMask_iff (hn : n ≤ 8) (off : BitVec 3) (hj : j < 8) :
    ((offsetMask (sizeMask n) off).extractLsb' 0 8).getLsbD j = true ↔ off.toNat ≤ j ∧ j < off.toNat + n := by
  rw [BitVec.getLsbD_extractLsb', decide_eq_true hj, Bool.true_and, Nat.zero_add, getLsbD_offsetMask hn off (by omega),
    decide_eq_true_iff]

/-- The bytes of the datum in the high of the two quadwords. -/
theorem highMask_iff (hn : n ≤ 8) (off : BitVec 3) (hj : j < 8) :
    ((offsetMask (sizeMask n) off).extractLsb' 8 8).getLsbD j = true ↔ 8 + j < off.toNat + n := by
  rw [BitVec.getLsbD_extractLsb', decide_eq_true hj, Bool.true_and, getLsbD_offsetMask hn off (by omega),
    decide_eq_true_iff]
  omega

theorem getLsbD_not_iff (m : BitVec 8) (hj : j < 8) : (~~~m).getLsbD j = true ↔ ¬m.getLsbD j = true := by
  rw [BitVec.getLsbD_not, decide_eq_true hj, Bool.true_and, Bool.not_eq_true', Bool.not_eq_true]

theorem ofNat_mod_quad (x : Nat) : BitVec.ofNat 64 (x % 2 ^ 64) = BitVec.ofNat 64 x := by
  apply BitVec.eq_of_toNat_eq
  rw [BitVec.toNat_ofNat, BitVec.toNat_ofNat, Nat.mod_mod]

theorem extractLow_eq (hn : n ≤ 8) (a : Quad) (off : BitVec 3) :
    extractLow (sizeMask n) a off = BitVec.ofNat 64 (a.toNat / 2 ^ (8 * off.toNat) % 2 ^ (8 * n)) := by
  refine byteZap_eq_ofNat (p := fun j => j < n) (fun j hj => ?_) fun i hi => ?_
  · rw [getLsbD_not_iff _ hj, getLsbD_sizeMask hn, decide_eq_true_iff]
  · simp only [Nat.testBit_mod_two_pow, Nat.testBit_div_two_pow, BitVec.testBit_toNat, BitVec.getLsbD_ushiftRight]
    grind

theorem extractHigh_eq (hn : n ≤ 8) (a : Quad) (off : BitVec 3) :
    extractHigh (sizeMask n) a off = BitVec.ofNat 64 (a.toNat * 2 ^ ((64 - 8 * off.toNat) % 64) % 2 ^ (8 * n)) := by
  refine byteZap_eq_ofNat (p := fun j => j < n) (fun j hj => ?_) fun i hi => ?_
  · rw [getLsbD_not_iff _ hj, getLsbD_sizeMask hn, decide_eq_true_iff]
  · simp only [Nat.testBit_mod_two_pow, Nat.testBit_mul_two_pow, BitVec.testBit_toNat, BitVec.getLsbD_shiftLeft,
      highShift]
    grind

theorem insertLow_eq (hn : n ≤ 8) (a : Quad) (off : BitVec 3) :
    insertLow (sizeMask n) a off = BitVec.ofNat 64 (a.toNat % 2 ^ (8 * n) * 2 ^ (8 * off.toNat) % 2 ^ 64) := by
  refine byteZap_eq_ofNat (p := fun j => off.toNat ≤ j ∧ j < off.toNat + n) (fun j hj => ?_) fun i hi => ?_
  · rw [getLsbD_not_iff _ hj, lowMask_iff hn off hj]
  · simp only [Nat.testBit_mod_two_pow, Nat.testBit_mul_two_pow, BitVec.testBit_toNat, BitVec.getLsbD_shiftLeft]
    grind

theorem insertHigh_eq (hn : n ≤ 8) (a : Quad) (off : BitVec 3) :
    insertHigh (sizeMask n) a off = BitVec.ofNat 64 (a.toNat % 2 ^ (8 * n) * 2 ^ (8 * off.toNat) / 2 ^ 64) := by
  have bound : off.toNat < 8 := off.isLt
  refine byteZap_eq_ofNat (p := fun j => 8 + j < off.toNat + n) (fun j hj => ?_) fun i hi => ?_
  · rw [getLsbD_not_iff _ hj, highMask_iff hn off hj]
  · simp only [Nat.testBit_mod_two_pow, Nat.testBit_mul_two_pow, Nat.testBit_div_two_pow, BitVec.testBit_toNat,
      BitVec.getLsbD_ushiftRight, highShift]
    grind

theorem maskLow_eq (hn : n ≤ 8) (a : Quad) (off : BitVec 3) :
    maskLow (sizeMask n) a off = BitVec.ofNat 64
      (a.toNat % 2 ^ (8 * off.toNat) + a.toNat / 2 ^ (8 * (off.toNat + n)) * 2 ^ (8 * (off.toNat + n))) := by
  have below : a.toNat % 2 ^ (8 * off.toNat) < 2 ^ (8 * (off.toNat + n)) :=
    (Nat.mod_lt _ (by positivity)).trans_le (Nat.pow_le_pow_right (by decide) (by omega))
  refine byteZap_eq_ofNat (p := fun j => ¬(off.toNat ≤ j ∧ j < off.toNat + n)) (fun j hj => ?_) fun i hi => ?_
  · rw [lowMask_iff hn off hj, not_not]
  · rw [Nat.add_comm, Nat.mul_comm, Nat.testBit_two_pow_mul_add _ below]
    simp only [Nat.testBit_mod_two_pow, Nat.testBit_div_two_pow, BitVec.testBit_toNat]
    grind

theorem maskHigh_eq (hn : n ≤ 8) (a : Quad) (off : BitVec 3) :
    maskHigh (sizeMask n) a off =
      BitVec.ofNat 64 (a.toNat / 2 ^ (8 * (off.toNat + n - 8)) * 2 ^ (8 * (off.toNat + n - 8))) := by
  refine byteZap_eq_ofNat (p := fun j => ¬(8 + j < off.toNat + n)) (fun j hj => ?_) fun i hi => ?_
  · rw [highMask_iff hn off hj, not_not]
  · simp only [Nat.testBit_mul_two_pow, Nat.testBit_div_two_pow, BitVec.testBit_toNat]
    grind

/-! Of a quadword nothing is cut off, and a byte lies in the low quadword whole. -/

theorem extractLow_quad (a : Quad) (off : BitVec 3) :
    extractLow (sizeMask 8) a off = BitVec.ofNat 64 (a.toNat / 2 ^ (8 * off.toNat)) :=
  (extractLow_eq le_rfl a off).trans (ofNat_mod_quad _)

theorem extractHigh_quad (a : Quad) (off : BitVec 3) :
    extractHigh (sizeMask 8) a off = BitVec.ofNat 64 (a.toNat * 2 ^ ((64 - 8 * off.toNat) % 64)) :=
  (extractHigh_eq le_rfl a off).trans (ofNat_mod_quad _)

theorem insertLow_byte (a : Quad) (off : BitVec 3) :
    insertLow (sizeMask 1) a off = BitVec.ofNat 64 (a.toNat % 2 ^ 8 * 2 ^ (8 * off.toNat)) :=
  (insertLow_eq (by decide) a off).trans (ofNat_mod_quad _)

theorem insertLow_quad (a : Quad) (off : BitVec 3) :
    insertLow (sizeMask 8) a off = BitVec.ofNat 64 (a.toNat * 2 ^ (8 * off.toNat) % 2 ^ 64) := by
  rw [insertLow_eq le_rfl, Nat.mod_eq_of_lt (b := 2 ^ (8 * 8)) a.isLt]

theorem insertHigh_quad (a : Quad) (off : BitVec 3) :
    insertHigh (sizeMask 8) a off = BitVec.ofNat 64 (a.toNat * 2 ^ (8 * off.toNat) / 2 ^ 64) := by
  rw [insertHigh_eq le_rfl, Nat.mod_eq_of_lt (b := 2 ^ (8 * 8)) a.isLt]

theorem maskLow_quad (a : Quad) (off : BitVec 3) :
    maskLow (sizeMask 8) a off = BitVec.ofNat 64 (a.toNat % 2 ^ (8 * off.toNat)) := by
  have none : a.toNat / 2 ^ (8 * (off.toNat + 8)) = 0 :=
    Nat.div_eq_of_lt (a.isLt.trans_le (Nat.pow_le_pow_right (by decide) (by omega)))
  rw [maskLow_eq le_rfl, none, Nat.zero_mul, Nat.add_zero]

/-! ### The instructions (R691 to R711) -/

/-- A byte-manipulation instruction by the number that its function makes of R[Ra] and the offset. -/
theorem byteFormWrites_of_result {g : BitVec 8 → Quad → BitVec 3 → Quad} {f : Nat → Nat → Nat}
    (hresult : ∀ a off, g (sizeMask n) a off = BitVec.ofNat 64 (f a.toNat off.toNat))
    (hexec : ∀ ra b rc s, exec (c ra b rc) s = byteOp g (sizeMask n) ra b rc s) : byteFormWrites c f := by
  intro ra b rc s
  rw [hexec, byteOp, operate, hresult, s.toNat_byteOffset]
  rfl

/-! ### Sign extension, AMASK and IMPLVER (R714 to R717) -/

theorem signExtend_slice (v : Quad) (hn : n ≤ 64) : (slice v 0 n).signExtend 64 = wrapped n v.toInt := by
  have low : slice v 0 n = BitVec.ofInt n v.toInt := by
    rw [slice_zero_eq, BitVec.ofNat_toNat, ← BitVec.signExtend_eq_setWidth_of_le v hn, BitVec.signExtend]
  rw [wrapped, low]

section
variable {b : Operand} {rc : Reg} {s : State}

theorem execSextb_enabled (h : s.byteWordEnabled = true) :
    execSextb b rc s = (s.writeReg rc (wrapped 8 (s.operand b).toInt)).done := by
  rw [execSextb, whenByteWord_enabled h, signExtend_slice _ (by decide)]

theorem execSextw_enabled (h : s.byteWordEnabled = true) :
    execSextw b rc s = (s.writeReg rc (wrapped 16 (s.operand b).toInt)).done := by
  rw [execSextw, whenByteWord_enabled h, signExtend_slice _ (by decide)]

end

end

/-! ### The obligations -/

/-- Settles O12: the logical instructions bit by bit, the shifts as numbers. -/
theorem logicalAndShiftResults : Obligations.LogicalAndShiftResults := by
  refine ⟨?and, ?bic, ?bis, ?ornot, ?xor, ?eqv, ?sll, ?srl, ?sra⟩
  case and => exact bitwise_writes (fun _ _ _ _ => rfl) fun a b i _ => BitVec.getLsbD_and
  case bic =>
    refine bitwise_writes (g := fun a b => a &&& ~~~b) (p := fun x y => x && !y) (fun _ _ _ _ => rfl) fun a b i hi => ?_
    rw [BitVec.getLsbD_and, getLsbD_not_of_lt b hi]
  case bis => exact bitwise_writes (fun _ _ _ _ => rfl) fun a b i _ => BitVec.getLsbD_or
  case ornot =>
    refine bitwise_writes (g := fun a b => a ||| ~~~b) (p := fun x y => x || !y) (fun _ _ _ _ => rfl) fun a b i hi => ?_
    rw [BitVec.getLsbD_or, getLsbD_not_of_lt b hi]
  case xor => exact bitwise_writes (fun _ _ _ _ => rfl) fun a b i _ => BitVec.getLsbD_xor
  case eqv =>
    refine bitwise_writes (g := fun a b => a ^^^ ~~~b) (p := fun x y => x == y) (fun _ _ _ _ => rfl) fun a b i hi => ?_
    rw [BitVec.getLsbD_xor, getLsbD_not_of_lt b hi]
    cases a.getLsbD i <;> cases b.getLsbD i <;> rfl
  case sll => exact operateWrites_of_exec (fun _ _ _ _ => rfl) shiftLeft_shiftCount
  case srl => exact operateWrites_of_exec (fun _ _ _ _ => rfl) ushiftRight_shiftCount
  case sra => exact operateWrites_of_exec (fun _ _ _ _ => rfl) sshiftRight_shiftCount

/-- Settles O13: each test, of the sign, of zero or of the low bit, by what it says of the number in R[Ra]. -/
theorem conditionalMoves : Obligations.ConditionalMoves := by
  refine ⟨?cmoveq, ?cmovne, ?cmovlt, ?cmovle, ?cmovgt, ?cmovge, ?cmovlbs, ?cmovlbc⟩
  case cmoveq => exact movesWhen_of_exec (fun _ _ _ _ => rfl) fun a => rfl
  case cmovne => exact movesWhen_of_exec (cond := (· != 0)) (fun _ _ _ _ => rfl) fun a => (decide_not ..).symm
  case cmovlt => exact movesWhen_of_exec (fun _ _ _ _ => rfl) isNegative_eq
  case cmovle =>
    refine movesWhen_of_exec (cond := fun a => isNegative a || a == 0) (fun _ _ _ _ => rfl) fun a => ?_
    rw [isNegative_eq, beq_zero_eq, ← Bool.decide_or, decide_eq_decide, Int.le_iff_lt_or_eq]
  case cmovgt =>
    refine movesWhen_of_exec (cond := fun a => !isNegative a && a != 0) (fun _ _ _ _ => rfl) fun a => ?_
    rw [isNegative_eq, bne, beq_zero_eq, ← decide_not, ← decide_not, ← Bool.decide_and, decide_eq_decide]
    omega
  case cmovge =>
    refine movesWhen_of_exec (cond := fun a => !isNegative a) (fun _ _ _ _ => rfl) fun a => ?_
    rw [isNegative_eq, ← decide_not, decide_eq_decide, not_lt]
  case cmovlbs => exact movesWhen_of_exec (fun _ _ _ _ => rfl) bit_zero
  case cmovlbc =>
    refine movesWhen_of_exec (cond := fun a => !bit a 0) (fun _ _ _ _ => rfl) fun a => ?_
    rw [bit_zero, ← decide_not, decide_eq_decide]
    exact Nat.mod_two_ne_one

/-- Settles O14: each instruction is one of six functions, at one of the sizes. -/
theorem byteManipulationResults : Obligations.ByteManipulationResults := by
  refine ⟨?extbl, ?extwl, ?extll, ?extql, ?extwh, ?extlh, ?extqh, ?insbl, ?inswl, ?insll, ?insql, ?inswh, ?inslh, ?insqh,
    ?mskbl, ?mskwl, ?mskll, ?mskql, ?mskwh, ?msklh, ?mskqh⟩
  case extbl => exact byteFormWrites_of_result (extractLow_eq (n := 1) (by decide)) fun _ _ _ _ => rfl
  case extwl => exact byteFormWrites_of_result (extractLow_eq (n := 2) (by decide)) fun _ _ _ _ => rfl
  case extll => exact byteFormWrites_of_result (extractLow_eq (n := 4) (by decide)) fun _ _ _ _ => rfl
  case extql => exact byteFormWrites_of_result extractLow_quad fun _ _ _ _ => rfl
  case extwh => exact byteFormWrites_of_result (extractHigh_eq (n := 2) (by decide)) fun _ _ _ _ => rfl
  case extlh => exact byteFormWrites_of_result (extractHigh_eq (n := 4) (by decide)) fun _ _ _ _ => rfl
  case extqh => exact byteFormWrites_of_result extractHigh_quad fun _ _ _ _ => rfl
  case insbl => exact byteFormWrites_of_result insertLow_byte fun _ _ _ _ => rfl
  case inswl => exact byteFormWrites_of_result (insertLow_eq (n := 2) (by decide)) fun _ _ _ _ => rfl
  case insll => exact byteFormWrites_of_result (insertLow_eq (n := 4) (by decide)) fun _ _ _ _ => rfl
  case insql => exact byteFormWrites_of_result insertLow_quad fun _ _ _ _ => rfl
  case inswh => exact byteFormWrites_of_result (insertHigh_eq (n := 2) (by decide)) fun _ _ _ _ => rfl
  case inslh => exact byteFormWrites_of_result (insertHigh_eq (n := 4) (by decide)) fun _ _ _ _ => rfl
  case insqh => exact byteFormWrites_of_result insertHigh_quad fun _ _ _ _ => rfl
  case mskbl => exact byteFormWrites_of_result (maskLow_eq (n := 1) (by decide)) fun _ _ _ _ => rfl
  case mskwl => exact byteFormWrites_of_result (maskLow_eq (n := 2) (by decide)) fun _ _ _ _ => rfl
  case mskll => exact byteFormWrites_of_result (maskLow_eq (n := 4) (by decide)) fun _ _ _ _ => rfl
  case mskql => exact byteFormWrites_of_result maskLow_quad fun _ _ _ _ => rfl
  case mskwh => exact byteFormWrites_of_result (maskHigh_eq (n := 2) (by decide)) fun _ _ _ _ => rfl
  case msklh => exact byteFormWrites_of_result (maskHigh_eq (n := 4) (by decide)) fun _ _ _ _ => rfl
  case mskqh => exact byteFormWrites_of_result (maskHigh_eq (n := 8) (by decide)) fun _ _ _ _ => rfl

/-- Settles O15: byte j of a quadword is compared, kept or cleared, and bit j says so. -/
theorem byteCompareAndZap : Obligations.ByteCompareAndZap := by
  refine ⟨fun ra b rc s => ⟨_, rfl, toNat_compareBytes_lt .., fun j hj => ?cmpbge⟩,
    fun ra b rc s => ⟨_, rfl, fun j hj => ?zap⟩, fun ra b rc s => ⟨_, rfl, fun j hj => ?zapnot⟩⟩
  case cmpbge => rw [getLsbD_compareBytes, decide_eq_true hj, Bool.true_and, decide_eq_true_iff]
  case zap => rw [byteAt_byteZap _ _ hj, getLsbD_lowByte _ hj]
  case zapnot => simp only [byteAt_byteZap _ _ hj, getLsbD_not_iff _ hj, getLsbD_lowByte _ hj, ite_not]

/-- Settles O16: the low field, sign-extended, is the number cut to its size; the two parameters are
used as they stand. -/
theorem signExtensionAndQueries : Obligations.SignExtensionAndQueries := by
  intro b rc s
  refine ⟨fun enabled => ⟨execSextb_enabled enabled, execSextw_enabled enabled⟩, ⟨_, rfl, fun j hj => ?_⟩, rfl⟩
  rw [BitVec.getLsbD_and, getLsbD_not_of_lt _ hj]

end Sys2Proof.Machine

/-! # The register moves of opcode 17 -/

namespace Sys2Proof.Machine

/-! ### The values that they write (44_fp_common.md R736, R750 to R753) -/

theorem longOfRegister_eq (f : Quad) :
    longOfRegister f = BitVec.ofNat 32 (f.toNat / 2 ^ 62 * 2 ^ 30 + f.toNat / 2 ^ 29 % 2 ^ 30) := by
  have lt := f.isLt
  apply BitVec.eq_of_toNat_eq
  rw [longOfRegister, toNat_append_add, slice, slice, toNat_extractLsb', toNat_extractLsb', BitVec.toNat_ofNat]
  omega

theorem registerOfLong_eq (v : Quad) :
    registerOfLong v = BitVec.ofNat 64 (v.toNat / 2 ^ 30 % 4 * 2 ^ 62 + v.toNat % 2 ^ 30 * 2 ^ 29) := by
  apply BitVec.eq_of_toNat_eq
  simp only [registerOfLong, slice, toNat_append_add, toNat_extractLsb', BitVec.ofNat_eq_ofNat, BitVec.toNat_ofNat,
    Nat.reducePow]
  omega

/-- The low bits of one register under the high bits of another. -/
theorem slice_append_slice {m n : Nat} (h : m + n = 64) (a b : Quad) :
    ((slice a n m : BitVec m) ++ (slice b 0 n : BitVec n)).toNat = a.toNat / 2 ^ n * 2 ^ n + b.toNat % 2 ^ n := by
  have upper : a.toNat / 2 ^ n < 2 ^ m := Nat.div_lt_of_lt_mul (by rw [← Nat.pow_add, Nat.add_comm, h]; exact a.isLt)
  rw [toNat_append_add, slice, slice, toNat_extractLsb', toNat_extractLsb', Nat.mod_eq_of_lt upper, Nat.pow_zero,
    Nat.div_one]

theorem notSlice_append_slice (a b : Quad) : (~~~(slice a 63 1 : BitVec 1) ++ (slice b 0 63 : BitVec 63)).toNat =
    (1 - a.toNat / 2 ^ 63) * 2 ^ 63 + b.toNat % 2 ^ 63 := by
  have sign : a.toNat / 2 ^ 63 % 2 ^ 1 = a.toNat / 2 ^ 63 := Nat.mod_eq_of_lt (Nat.div_lt_of_lt_mul a.isLt)
  rw [toNat_append_add, BitVec.toNat_not, slice, slice, toNat_extractLsb', toNat_extractLsb', sign, Nat.pow_zero,
    Nat.div_one]

/-! ### The instructions (R750 to R760) -/

/-- A move whose value is the one that its statement gives as a number. -/
theorem floatWrites_of_exec {i : Instr} {fc : Reg} {f v : State → Quad} (hexec : ∀ s, exec i s = fpMove fc f s)
    (hvalue : ∀ s, f s = v s) : floatWrites i fc v := by
  intro s enabled
  rw [hexec, fpMove, whenFp_enabled enabled, hvalue, State.done]

/-- A conditional move, by what its test says of F[Fa]. -/
theorem floatMovesWhen_of_exec {i : Instr} {cond : Quad → Bool} {p : Prop} [Decidable p] {fa fb fc : Reg} {s : State}
    (hexec : exec i s = fpMoveIf cond fa fb fc s) (enabled : s.fpEnabled = true) (hcond : cond (s.readFreg fa) = decide p) :
    exec i s = .next (if p then (s.writeFreg fc (s.readFreg fb)).advance else s.advance) := by
  rw [hexec, fpMoveIf, whenFp_enabled enabled, State.done, hcond, Bool.cond_decide, apply_ite State.advance]

/-- Settles O41: the parts that are put together as numbers, and the tests of sign and zero. -/
theorem floatingMoveResults : Obligations.FloatingMoveResults := by
  refine ⟨fun fa fb fc => ⟨?cvtlq, ?cpys, ?cpysn, ?cpyse⟩, fun fa fb fc s enabled => ?conditional⟩
  case cvtlq =>
    refine floatWrites_of_exec (fun _ => rfl) fun s => ?_
    rw [longOfRegister_eq, wrapped, ← BitVec.ofInt_natCast]
    rfl
  case cpys =>
    exact floatWrites_of_exec (fun _ => rfl) fun s =>
      (BitVec.toNat_eq_nat.mp (slice_append_slice (by decide) _ _)).2
  case cpysn =>
    exact floatWrites_of_exec (fun _ => rfl) fun s =>
      (BitVec.toNat_eq_nat.mp (notSlice_append_slice _ _)).2
  case cpyse =>
    exact floatWrites_of_exec (fun _ => rfl) fun s =>
      (BitVec.toNat_eq_nat.mp (slice_append_slice (by decide) _ _)).2
  case conditional =>
    intro neg zero moved
    have hneg : isNegative (s.readFreg fa) = decide neg := isNegative_eq _
    have hzero : fpZero (s.readFreg fa) = decide zero := fpZero_eq _
    have swapped (p : Prop) [Decidable p] : (if p then s.advance else moved) = if ¬p then moved else s.advance :=
      (ite_not ..).symm
    rw [swapped, swapped, swapped]
    refine ⟨?eq, ?ne, ?lt, ?ge, ?le, ?gt⟩
    case eq => exact floatMovesWhen_of_exec rfl enabled hzero
    case ne =>
      refine floatMovesWhen_of_exec (fa := fa) (cond := fun a => !fpZero a) rfl enabled ?_
      rw [hzero, decide_not]
    case lt =>
      refine floatMovesWhen_of_exec (fa := fa) (cond := fun a => isNegative a && !fpZero a) rfl enabled ?_
      rw [hneg, hzero, Bool.decide_and, decide_not]
    case ge =>
      refine floatMovesWhen_of_exec (fa := fa) (cond := fun a => !isNegative a || fpZero a) rfl enabled ?_
      rw [hneg, hzero, decide_not, Bool.decide_and, decide_not, Bool.not_and, Bool.not_not]
    case le =>
      refine floatMovesWhen_of_exec (fa := fa) (cond := fun a => isNegative a || fpZero a) rfl enabled ?_
      rw [hneg, hzero, Bool.decide_or]
    case gt =>
      refine floatMovesWhen_of_exec (fa := fa) (cond := fun a => !isNegative a && !fpZero a) rfl enabled ?_
      rw [hneg, hzero, decide_not, Bool.decide_or, Bool.not_or]

/-! ### CVTQL (R764 to R766) -/

section

variable {s : State} {q : Qual} {fc : Reg} {v : Quad} {e : Exc}

theorem State.setFpcrStatus_zero : s.setFpcrStatus 0 = s := by
  have same : s.fpcr ||| ((0 : Exc).setWidth 14 <<< 3) = s.fpcr := BitVec.or_zero
  rw [State.setFpcrStatus, same]

/-- A result of which no exception has its trap enabled. -/
theorem State.finishFp_value_untrapped (h : e &&& s.enabledTraps q = 0) :
    s.finishFp q fc (.value v e) = (s.setFpcrStatus e).writeFreg fc v := by
  show (bif e &&& s.enabledTraps q == 0 then _ else _) = _
  rw [h]
  rfl

theorem State.finishFp_value_trapped (h : e &&& s.enabledTraps q ≠ 0) : s.finishFp q fc (.value v e) =
    ((s.setFpcrStatus e).writeFreg fc v).fpTrap q.sw (e &&& s.enabledTraps q) fc := by
  show (bif e &&& s.enabledTraps q == 0 then _ else _) = _
  rw [beq_false_of_ne h]
  rfl

theorem State.finishFp_exact : s.finishFp q fc (.value v 0) = s.writeFreg fc v := by
  have untrapped : (0 : Exc) &&& s.enabledTraps q = 0 := BitVec.zero_and
  rw [State.finishFp_value_untrapped untrapped, State.setFpcrStatus_zero]

/-- The trap of an integer overflow with its bits as numbers: EXC_SUM<IOV> and <SWC> (11_state_idu_iprs.md R135, R136), and the
register's bit of EXC_MASK (R137). -/
theorem State.fpTrap_iov (sw : Bool) : s.fpTrap sw Exc.iov fc =
    { s with
      idu := { s.idu with
        excSum := if sw = true then s.idu.excSum ||| 0x40 ||| (if s.idu.swcKilled = true then 0 else 1)
          else (s.idu.excSum ||| 0x40) &&& 0x7E
        swcKilled := s.idu.swcKilled || !sw
        excMaskFp := s.idu.excMaskFp ||| 1 <<< fc.toNat }
      arithPending := true } := by
  cases sw with
  | false =>
    rw [Bool.not_false, Bool.or_true]
    rfl
  | true =>
    have latch : BitVec.zeroExtend 7 (BitVec.ofBool (!s.idu.swcKilled)) = if s.idu.swcKilled = true then 0 else 1 := by
      cases s.idu.swcKilled <;> rfl
    rw [Bool.not_true, Bool.or_false, ← latch]
    rfl

/-- Of IOV and INE, the trap of IOV is enabled by /V, that of INE never. -/
theorem State.iov_enabled (u sw : Bool) (m : Option Rounding) :
    (Exc.iov ||| Exc.ine) &&& s.enabledTraps ⟨u, false, sw, m⟩ = Exc.when u Exc.iov := by
  have enabled : ∀ unf u : Bool, (Exc.iov ||| Exc.ine) &&& (Exc.inv ||| Exc.dze ||| Exc.ovf ||| Exc.when unf Exc.unf |||
      Exc.when false Exc.ine ||| Exc.when u Exc.iov) = Exc.when u Exc.iov := by decide
  exact enabled _ u

end

theorem quadToLong_eq {q : Qual} {fb fc : Reg} {s : State} (enabled : s.fpEnabled = true) :
    quadToLong q fb fc s = .next (s.finishFp q fc (.value (registerOfLong (s.readFreg fb))
      (Exc.when (outside 32 (s.readFreg fb).toInt) (Exc.iov ||| Exc.ine)))).advance := by
  rw [quadToLong, fpInstruction, whenFp_enabled enabled, State.done]

/-- Settles O49: the value written is the same in every form, and an overflow traps where /V enables it. -/
theorem quadwordToLongword : Obligations.QuadwordToLongword := by
  intro fb fc s enabled n v fits flagged
  have hvalue : registerOfLong (s.readFreg fb) = v := registerOfLong_eq _
  have hrange : outside 32 (s.readFreg fb).toInt = !decide fits := outside_eq 32 _
  have result (q : Qual) : quadToLong q fb fc s = .next (s.finishFp q fc (.value v
      (Exc.when (!decide fits) (Exc.iov ||| Exc.ine)))).advance := by
    rw [quadToLong_eq enabled, hvalue, hrange]
  refine ⟨fun hfits i hi => ?inRange, fun hfits => ⟨?plain, fun p hp => ?trapping⟩⟩
  case inRange =>
    have plain (q : Qual) : quadToLong q fb fc s = .next ((s.writeFreg fc v).advance) := by
      rw [result, decide_eq_true hfits, Bool.not_true, Exc.when, cond_false, State.finishFp_exact]
    simp only [List.mem_cons, List.not_mem_nil, or_false] at hi
    obtain rfl | rfl | rfl := hi <;> exact plain _
  case plain =>
    show quadToLong ⟨false, false, false, some .chop⟩ fb fc s = _
    rw [result, decide_eq_false hfits, Bool.not_false, Exc.when, cond_true,
      State.finishFp_value_untrapped (State.iov_enabled false false _)]
    rfl
  case trapping =>
    have trap (sw : Bool) : quadToLong ⟨true, false, sw, some .chop⟩ fb fc s =
        .next ((flagged.writeFreg fc v).fpTrap sw Exc.iov fc).advance := by
      have hiov : (Exc.iov ||| Exc.ine) &&& s.enabledTraps ⟨true, false, sw, some .chop⟩ = Exc.iov := State.iov_enabled ..
      have hne : (Exc.iov ||| Exc.ine) &&& s.enabledTraps ⟨true, false, sw, some .chop⟩ ≠ 0 := by
        rw [hiov]
        decide
      rw [result, decide_eq_false hfits, Bool.not_false, Exc.when, cond_true, State.finishFp_value_trapped hne, hiov]
      rfl
    have hidu : (flagged.writeFreg fc v).idu = s.idu := State.writeFreg_idu ..
    simp only [State.fpTrap_iov, hidu] at trap
    simp only [List.mem_cons, List.not_mem_nil, or_false] at hp
    obtain rfl | rfl := hp
    · exact trap false
    · exact trap true

end Sys2Proof.Machine

/-! # The words of opcodes 15 and 16 -/

namespace Sys2Proof.Machine

/-! ### The operation that a function code names (45_fp_ieee.md section 2, 46_fp_vax.md section 2) -/

/-- The rounding of w<12:11>. -/
def roundingOf (ieeeForm : Bool) (n : Nat) : Option Rounding :=
  match n with
  | 0 => some .chop
  | 1 => some .minusInf
  | 2 => some (if ieeeForm = true then .nearest else .away)
  | _ => none

/-- The qualifiers of a function code (44_fp_common.md R740). -/
def qualOf (ieeeForm : Bool) (fn : BitVec 11) : Qual where
  u := fn.getLsbD 8
  i := fn.getLsbD 9
  sw := fn.getLsbD 10
  rnd := roundingOf ieeeForm (fn.toNat / 2 ^ 6 % 4)

theorem qualifiersOf_encFloat {i : Instr} {op : BitVec 6} {fn : BitVec 11} {fa fb fc : Reg} (ieeeForm : Bool)
    (h : encode i = encFloat op fn fa fb fc) : qualifiersOf ieeeForm i = qualOf ieeeForm fn := by
  have rounding : (encode i).toNat / 2 ^ 11 % 4 = fn.toNat / 2 ^ 6 % 4 := by
    rw [h]
    exact (toNat_extractLsb' _ 11 2).symm.trans
      ((congrArg BitVec.toNat (field_11_2_encFloat op fn fa fb fc)).trans (toNat_extractLsb' fn 6 2))
  have qualifier (k : Nat) (hk : k < 11) : (encode i).getLsbD (5 + k) = fn.getLsbD k := by
    rw [h, getLsbD_encFloat _ _ _ _ _ (5 + k) (by omega) (by omega), Nat.add_sub_cancel_left]
  have named : qualifiersOf ieeeForm i = ⟨(encode i).getLsbD (5 + 8), (encode i).getLsbD (5 + 9),
      (encode i).getLsbD (5 + 10), roundingOf ieeeForm ((encode i).toNat / 2 ^ 11 % 4)⟩ := rfl
  rw [named, rounding, qualifier 8 (by decide), qualifier 9 (by decide), qualifier 10 (by decide), qualOf]

theorem function_encFloat {i : Instr} {op : BitVec 6} {fn : BitVec 11} {fa fb fc : Reg}
    (h : encode i = encFloat op fn fa fb fc) : i.function = fn.toNat := by
  rw [Instr.function, h, ← toNat_extractLsb']
  exact congrArg BitVec.toNat (field_5_11_encFloat op fn fa fb fc)

/-- What a compare asks of the sign of a - b; CMPTUN is never true of operands that can be compared. -/
def relationOf (low : Nat) (c : Int) : Bool :=
  match low with
  | 0x25 => c == 0
  | 0x26 => decide (c < 0)
  | 0x27 => decide (c ≤ 0)
  | _ => false

/-- Adds, subtracts, multiplies, divides and compares, by the low six bits of the function code. -/
def twoOperandResult (read : Quad → FpOperand) (short long : FpFormat) (low : Nat) (q : Qual) (fa fb : Quad) (s : State) :
    FpResult :=
  let a := read fa
  let b := read fb
  withOperands a b
    (match arithmeticOf low with
    | some op => arithmetic op (if low < 4 then short else long) (q.mode s) (s.ineEnabled q) a b
    | none => compareResult (relationOf low (compareFp a b)))

/-- The result of opcode 16, by the low six bits of the function code and the four above them (the rounding, /U and /I). -/
def ieeeResult (low row : Nat) (q : Qual) (fa fb : Quad) (s : State) : FpResult :=
  match low with
  | 0x2C => withOperand (readT fb)
      (if row = 10 then .value fb 0 else roundResult .s (q.mode s) (s.ineEnabled q) (exactOf (readT fb)))
  | 0x2F => withOperand (readT fb) (integerResult (q.mode s) (exactOf (readT fb)))
  | 0x3C => roundResult .s (q.mode s) (s.ineEnabled q) (exactOfInt fb)
  | 0x3E => roundResult .t (q.mode s) (s.ineEnabled q) (exactOfInt fb)
  | low => twoOperandResult readT .s .t low q fa fb s

/-- The result of opcode 15, by the low six bits of the function code. -/
def vaxResult (low : Nat) (q : Qual) (fa fb : Quad) (s : State) : FpResult :=
  match low with
  | 0x1E => withOperand (readD fb) (roundResult .g (q.mode s) (s.ineEnabled q) (exactOf (readD fb)))
  | 0x2C => withOperand (readG fb) (roundResult .f (q.mode s) (s.ineEnabled q) (exactOf (readG fb)))
  | 0x2D => withOperand (readG fb) (roundResult .d (q.mode s) (s.ineEnabled q) (exactOf (readG fb)))
  | 0x2F => withOperand (readG fb) (integerResult (q.mode s) (exactOf (readG fb)))
  | 0x3C => roundResult .f (q.mode s) (s.ineEnabled q) (exactOfInt fb)
  | 0x3E => roundResult .g (q.mode s) (s.ineEnabled q) (exactOfInt fb)
  | low => twoOperandResult readG .f .g low q fa fb s

/-- The opcode of the IEEE or of the VAX operates. -/
def fpOpcode (ieeeForm : Bool) : BitVec 6 := bif ieeeForm then 0x16 else 0x15

/-- The result of a function code of opcode 16 or 15. -/
def resultOf (ieeeForm : Bool) (n : Nat) : Qual → Quad → Quad → State → FpResult :=
  bif ieeeForm then ieeeResult (n % 2 ^ 6) (n / 2 ^ 6 % 2 ^ 4) else vaxResult (n % 2 ^ 6)

/-! ### The instructions are what their words say -/

/-- What an instruction of opcode 15 or 16 does, by its word. -/
inductive FpWord : Long → (State → Result State) → Prop where
  | other {w : Long} {run : State → Result State} (h : ∀ ieeeForm, opcodeOf w ≠ fpOpcode ieeeForm) : FpWord w run
  | operate (ieeeForm : Bool) {fn : BitVec 11} {fa fb fc : Reg} {q : Qual} {result : State → FpResult}
      (hq : q = qualOf ieeeForm fn)
      (hresult : ∀ s, result s = resultOf ieeeForm fn.toNat q (s.readFreg fa) (s.readFreg fb) s) :
      FpWord (encFloat (fpOpcode ieeeForm) fn fa fb fc) fun s => fpInstruction q fc result s

theorem fpWord (i : Instr) : FpWord (encode i) (fun s => exec i s) := by
  cases i with dsimp only [exec, encode]
  | adds | adds_c | adds_m | adds_d | adds_u | adds_uc | adds_um | adds_ud | adds_su | adds_suc | adds_sum | adds_sud
  | adds_sui | adds_suic | adds_suim | adds_suid | addt | addt_c | addt_m | addt_d | addt_u | addt_uc | addt_um
  | addt_ud | addt_su | addt_suc | addt_sum | addt_sud | addt_sui | addt_suic | addt_suim | addt_suid | subs | subs_c
  | subs_m | subs_d | subs_u | subs_uc | subs_um | subs_ud | subs_su | subs_suc | subs_sum | subs_sud | subs_sui
  | subs_suic | subs_suim | subs_suid | subt | subt_c | subt_m | subt_d | subt_u | subt_uc | subt_um | subt_ud
  | subt_su | subt_suc | subt_sum | subt_sud | subt_sui | subt_suic | subt_suim | subt_suid | muls | muls_c | muls_m
  | muls_d | muls_u | muls_uc | muls_um | muls_ud | muls_su | muls_suc | muls_sum | muls_sud | muls_sui | muls_suic
  | muls_suim | muls_suid | mult | mult_c | mult_m | mult_d | mult_u | mult_uc | mult_um | mult_ud | mult_su
  | mult_suc | mult_sum | mult_sud | mult_sui | mult_suic | mult_suim | mult_suid | divs | divs_c | divs_m | divs_d
  | divs_u | divs_uc | divs_um | divs_ud | divs_su | divs_suc | divs_sum | divs_sud | divs_sui | divs_suic
  | divs_suim | divs_suid | divt | divt_c | divt_m | divt_d | divt_u | divt_uc | divt_um | divt_ud | divt_su
  | divt_suc | divt_sum | divt_sud | divt_sui | divt_suic | divt_suim | divt_suid | cvtts | cvtts_c | cvtts_m
  | cvtts_d | cvtts_u | cvtts_uc | cvtts_um | cvtts_ud | cvtts_su | cvtts_suc | cvtts_sum | cvtts_sud | cvtts_sui
  | cvtts_suic | cvtts_suim | cvtts_suid | cvtqs | cvtqs_c | cvtqs_m | cvtqs_d | cvtqs_sui | cvtqs_suic | cvtqs_suim
  | cvtqs_suid | cvtqt | cvtqt_c | cvtqt_m | cvtqt_d | cvtqt_sui | cvtqt_suic | cvtqt_suim | cvtqt_suid | cmptun
  | cmptun_su | cmpteq | cmpteq_su | cmptlt | cmptlt_su | cmptle | cmptle_su | cvtst | cvtst_s | cvttq | cvttq_c
  | cvttq_m | cvttq_d | cvttq_v | cvttq_vc | cvttq_vm | cvttq_vd | cvttq_sv | cvttq_svc | cvttq_svm | cvttq_svd
  | cvttq_svi | cvttq_svic | cvttq_svim | cvttq_svid =>
    exact .operate true rfl fun _ => rfl
  | addf | addf_c | addf_u | addf_uc | addf_s | addf_sc | addf_su | addf_suc | addg | addg_c | addg_u | addg_uc
  | addg_s | addg_sc | addg_su | addg_suc | subf | subf_c | subf_u | subf_uc | subf_s | subf_sc | subf_su | subf_suc
  | subg | subg_c | subg_u | subg_uc | subg_s | subg_sc | subg_su | subg_suc | mulf | mulf_c | mulf_u | mulf_uc
  | mulf_s | mulf_sc | mulf_su | mulf_suc | mulg | mulg_c | mulg_u | mulg_uc | mulg_s | mulg_sc | mulg_su | mulg_suc
  | divf | divf_c | divf_u | divf_uc | divf_s | divf_sc | divf_su | divf_suc | divg | divg_c | divg_u | divg_uc
  | divg_s | divg_sc | divg_su | divg_suc | cvtdg | cvtdg_c | cvtdg_u | cvtdg_uc | cvtdg_s | cvtdg_sc | cvtdg_su
  | cvtdg_suc | cvtgf | cvtgf_c | cvtgf_u | cvtgf_uc | cvtgf_s | cvtgf_sc | cvtgf_su | cvtgf_suc | cvtgd | cvtgd_c
  | cvtgd_u | cvtgd_uc | cvtgd_s | cvtgd_sc | cvtgd_su | cvtgd_suc | cvtgq | cvtgq_c | cvtgq_v | cvtgq_vc | cvtgq_s
  | cvtgq_sc | cvtgq_sv | cvtgq_svc | cvtqf | cvtqf_c | cvtqg | cvtqg_c | cmpgeq | cmpgeq_s | cmpglt | cmpglt_s
  | cmpgle | cmpgle_s =>
    exact .operate false rfl fun _ => rfl
  | _ => exact .other (by simp [fpOpcode])

/-- An instruction of opcode 16 or 15 has the qualifiers and the result of its function code. -/
theorem exec_fpOperate {i : Instr} {s : State} {ieeeForm : Bool} (hop : i.opcode = (fpOpcode ieeeForm).toNat)
    (enabled : s.fpEnabled = true) : exec i s = .next (s.finishFp (qualifiersOf ieeeForm i) (rcOf (encode i))
      (resultOf ieeeForm i.function (qualifiersOf ieeeForm i) (s.readFreg (raOf (encode i))) (s.readFreg (rbOf (encode i)))
        s)).advance := by
  have hword := fpWord i
  have hopw : opcodeOf (encode i) = fpOpcode ieeeForm := by
    rw [Instr.opcode, toNat_opcode] at hop
    exact BitVec.eq_of_toNat_eq hop
  generalize hw : encode i = w at hword hopw ⊢
  generalize hrun : (fun s => exec i s) = run at hword
  have hs : exec i s = run s := congrFun hrun s
  rw [hs]
  cases hword with
  | other hne => exact absurd hopw (hne ieeeForm)
  | operate form hq hresult =>
    have hform : form = ieeeForm := by
      rw [opcodeOf_encFloat] at hopw
      revert hopw
      cases form <;> cases ieeeForm <;> decide
    subst hform
    rw [qualifiersOf_encFloat form hw, function_encFloat hw, raOf_encFloat, rbOf_encFloat, rcOf_encFloat, ← hq, ← hresult]
    exact whenFp_enabled enabled

/-! ### Their results -/

theorem withOperands_eq (a b : FpOperand) (k : FpResult) :
    withOperands a b k = if a = .nonfinite ∨ b = .nonfinite then .free Exc.inv else k := by
  cases a <;> cases b <;> rfl

theorem withOperand_eq (b : FpOperand) (k : FpResult) :
    withOperand b k = if b = .nonfinite then .free Exc.inv else k := by
  cases b <;> rfl

theorem FpOperand.isZero_iff (a : FpOperand) : a.isZero = true ↔ a = .zero false ∨ a = .zero true := by
  cases a with
  | zero neg => cases neg <;> decide
  | finite => simp [FpOperand.isZero]
  | nonfinite => decide

section

variable {low row : Nat} {q : Qual} {fa fb : Quad} {s : State} {read : Quad → FpOperand} {short long : FpFormat}

theorem twoOperandResult_arithmetic {op : FpOp} (hop : arithmeticOf low = some op) :
    twoOperandResult read short long low q fa fb s = withOperands (read fa) (read fb)
      (arithmetic op (if low < 4 then short else long) (q.mode s) (s.ineEnabled q) (read fa) (read fb)) := by
  rw [twoOperandResult, hop]

theorem twoOperandResult_compare {p : Int → Bool} (hlow : 0x24 ≤ low ∧ low < 0x28) (hp : ∀ c, relationOf low c = p c) :
    twoOperandResult read short long low q fa fb s =
      if read fa = .nonfinite ∨ read fb = .nonfinite then .free Exc.inv
      else .value (if p (compareFp (read fa) (read fb)) = true then 0x4000000000000000 else 0) 0 := by
  have none : ∀ n < 0x28, 0x24 ≤ n → arithmeticOf n = none := by decide
  rw [twoOperandResult, none low hlow.2 hlow.1, withOperands_eq, compareResult, Bool.cond_eq_ite, hp]

theorem ieeeResult_twoOperand (hlow : low < 4 ∨ 0x20 ≤ low ∧ low < 0x28) :
    ieeeResult low row q fa fb s = twoOperandResult readT .s .t low q fa fb s := by
  unfold ieeeResult
  split
  case h_5 => rfl
  all_goals omega

theorem vaxResult_twoOperand (hlow : low < 4 ∨ 0x20 ≤ low ∧ low < 0x28) :
    vaxResult low q fa fb s = twoOperandResult readG .f .g low q fa fb s := by
  unfold vaxResult
  split
  case h_7 => rfl
  all_goals omega

theorem ieeeResult_compare {p : Int → Bool} (hlow : 0x24 ≤ low ∧ low < 0x28) (hp : ∀ c, relationOf low c = p c) :
    ieeeResult low row q fa fb s =
      if readT fa = .nonfinite ∨ readT fb = .nonfinite then .free Exc.inv
      else .value (if p (compareFp (readT fa) (readT fb)) = true then 0x4000000000000000 else 0) 0 :=
  (ieeeResult_twoOperand (by omega)).trans (twoOperandResult_compare hlow hp)

theorem vaxResult_compare {p : Int → Bool} (hlow : 0x24 ≤ low ∧ low < 0x28) (hp : ∀ c, relationOf low c = p c) :
    vaxResult low q fa fb s =
      if readG fa = .nonfinite ∨ readG fb = .nonfinite then .free Exc.inv
      else .value (if p (compareFp (readG fa) (readG fb)) = true then 0x4000000000000000 else 0) 0 :=
  (vaxResult_twoOperand (by omega)).trans (twoOperandResult_compare hlow hp)

end

theorem arithmetic_div_zero {fmt : FpFormat} {mode : Rounding} {ineEn : Bool} {a b : FpOperand} (hb : b.isZero = true) :
    arithmetic .div fmt mode ineEn a b = .free (if a.isZero = true ∧ fmt.vax = false then Exc.inv else Exc.dze) := by
  rw [arithmetic, hb, cond_true]
  cases a.isZero <;> cases fmt.vax <;> rfl

theorem arithmetic_div {fmt : FpFormat} {mode : Rounding} {ineEn : Bool} {a b : FpOperand} (hb : ¬b.isZero = true) :
    arithmetic .div fmt mode ineEn a b = roundResult fmt mode ineEn (exactDiv a b) := by
  rw [arithmetic, Bool.eq_false_of_not_eq_true hb, cond_false]

/-- Settles O43: the result of the function code is the arithmetic of its low bits, of which the statement is one clause for
each operation. -/
theorem floatingArithmeticFollowsItsWord : Obligations.FloatingArithmeticFollowsItsWord := by
  intro i s op hopcode hlow hop enabled ieeeForm read q a b fmt mode round zero
  have hexec : exec i s = .next (s.finishFp q (rcOf (encode i))
      (withOperands a b (arithmetic op fmt mode (s.ineEnabled q) a b))).advance := by
    rcases hopcode with h | h
    · rw [exec_fpOperate (ieeeForm := true) h enabled, resultOf, cond_true, ieeeResult_twoOperand (by omega),
        twoOperandResult_arithmetic hop]
      simp [fmt, a, b, read, mode, q, ieeeForm, h]
    · rw [exec_fpOperate (ieeeForm := false) h enabled, resultOf, cond_false, vaxResult_twoOperand (by omega),
        twoOperandResult_arithmetic hop]
      simp [fmt, a, b, read, mode, q, ieeeForm, h]
  have hvax : fmt.vax = !ieeeForm := by
    unfold fmt
    cases ieeeForm <;> split <;> rfl
  have hzero (x : FpOperand) : x.isZero = true ↔ zero x := x.isZero_iff
  refine ⟨fun h => ?nonfinite, fun ha hb => ?finite⟩
  case nonfinite => rw [hexec, withOperands_eq, if_pos h]
  case finite =>
    rw [withOperands_eq, if_neg (not_or.mpr ⟨ha, hb⟩)] at hexec
    rw [hexec]
    refine ⟨?add, ?sub, ?mul, ?div, ?invalid, ?byZero⟩
    case add => rintro rfl; rfl
    case sub => rintro rfl; rfl
    case mul => rintro rfl; rfl
    case div =>
      rintro rfl hb0
      rw [arithmetic_div (mt (hzero b).mp hb0)]
    case invalid =>
      rintro rfl hb0 ha0 h
      have hf : ieeeForm = true := decide_eq_true h
      rw [arithmetic_div_zero ((hzero b).mpr hb0), if_pos ⟨(hzero a).mpr ha0, by rw [hvax, hf]; rfl⟩]
    case byZero =>
      rintro rfl hb0 h
      have hform : ¬(a.isZero = true ∧ fmt.vax = false) := by
        rintro ⟨ha0, hieee⟩
        rw [hvax, Bool.not_eq_false', decide_eq_true_iff] at hieee
        rcases h with h | h
        · exact h ((hzero a).mp ha0)
        · omega
      rw [arithmetic_div_zero ((hzero b).mpr hb0), if_neg hform]

/-- Settles O44: each function code names one case of the result. -/
theorem floatingConversionsFollowTheirWords : Obligations.FloatingConversionsFollowTheirWords := by
  intro i s enabled low fb convert round compare
  refine ⟨fun h => ?ieee, fun h => ?vax⟩
  case ieee =>
    have result {n : Nat} {r : FpResult} (hlow : low = n) (hr : ieeeResult n (i.function / 2 ^ 6 % 2 ^ 4) (qualifiersOf true i)
        (s.readFreg (raOf (encode i))) fb s = r) :
        exec i s = .next (s.finishFp (qualifiersOf true i) (rcOf (encode i)) r).advance := by
      rw [exec_fpOperate (ieeeForm := true) h enabled, ← hr, ← hlow]
      rfl
    refine ⟨?cvtts, ?cvtst, ?cvttq, ?cvtqs, ?cvtqt, ?cmptun, ?cmpteq, ?cmptlt, ?cmptle⟩
    case cvtts =>
      intro hlow hrow
      refine result hlow ?_
      rw [ieeeResult, withOperand_eq, if_neg hrow]
    case cvtst =>
      intro hlow hrow
      refine result hlow ?_
      rw [ieeeResult, withOperand_eq, if_pos hrow]
    case cvttq => exact fun hlow => result hlow (withOperand_eq ..)
    case cvtqs => exact fun hlow => result hlow (if_neg (by decide)).symm
    case cvtqt => exact fun hlow => result hlow (if_neg (by decide)).symm
    case cmptun => exact fun hlow => result hlow (ieeeResult_compare (by decide) fun _ => rfl)
    case cmpteq => exact fun hlow => result hlow (ieeeResult_compare (by decide) fun _ => rfl)
    case cmptlt => exact fun hlow => result hlow (ieeeResult_compare (by decide) fun _ => rfl)
    case cmptle => exact fun hlow => result hlow (ieeeResult_compare (by decide) fun _ => rfl)
  case vax =>
    have result {n : Nat} {r : FpResult} (hlow : low = n) (hr : vaxResult n (qualifiersOf false i)
        (s.readFreg (raOf (encode i))) fb s = r) :
        exec i s = .next (s.finishFp (qualifiersOf false i) (rcOf (encode i)) r).advance := by
      rw [exec_fpOperate (ieeeForm := false) h enabled, ← hr, ← hlow]
      rfl
    refine ⟨?cvtdg, ?cvtgf, ?cvtgd, ?cvtgq, ?cvtqf, ?cvtqg, ?cmpgeq, ?cmpglt, ?cmpgle⟩
    case cvtdg => exact fun hlow => result hlow (withOperand_eq ..)
    case cvtgf => exact fun hlow => result hlow (withOperand_eq ..)
    case cvtgd => exact fun hlow => result hlow (withOperand_eq ..)
    case cvtgq => exact fun hlow => result hlow (withOperand_eq ..)
    case cvtqf => exact fun hlow => result hlow (if_neg (by decide)).symm
    case cvtqg => exact fun hlow => result hlow (if_neg (by decide)).symm
    case cmpgeq => exact fun hlow => result hlow (vaxResult_compare (by decide) fun _ => rfl)
    case cmpglt => exact fun hlow => result hlow (vaxResult_compare (by decide) fun _ => rfl)
    case cmpgle => exact fun hlow => result hlow (vaxResult_compare (by decide) fun _ => rfl)

end Sys2Proof.Machine

/-! # Exact results -/

namespace Sys2Proof.Machine

/-! ### Signs and operands -/

/-- The sign of a number. -/
def signOf (neg : Bool) : ℚ := if neg = true then -1 else 1

theorem signOf_not (neg : Bool) : signOf (!neg) = -signOf neg := by
  cases neg <;> simp [signOf]

theorem signOf_bne (x y : Bool) : signOf (x != y) = signOf x * signOf y := by
  cases x <;> cases y <;> simp [signOf]

theorem signOf_mul_self (neg : Bool) : signOf neg * signOf neg = 1 := by
  cases neg <;> simp [signOf]

/-- Sign and magnitude of an integer; the sign of zero is free. -/
theorem signOf_mul_natAbs {neg : Bool} {z : Int} (h : z ≠ 0 → neg = decide (z < 0)) :
    signOf neg * (z.natAbs : ℚ) = z := by
  rcases lt_trichotomy z 0 with hz | rfl | hz
  · rw [h hz.ne, decide_eq_true hz, Nat.cast_natAbs, abs_of_neg hz]
    simp [signOf]
  · simp
  · rw [h hz.ne', decide_eq_false hz.not_gt, Nat.cast_natAbs, abs_of_pos hz]
    simp [signOf]

theorem Exact.rational_eq (x : Exact) : x.rational = signOf x.neg * (x.num / x.den * 2 ^ x.exp) := rfl

namespace FpOperand

theorem rational_eq (a : FpOperand) : a.rational = signOf a.parts.1 * a.parts.2.1 * 2 ^ a.parts.2.2 := by
  cases a with
  | zero neg => simp [rational, parts]
  | finite neg m e => rfl
  | nonfinite => simp [rational, parts]

theorem negative_eq (a : FpOperand) : a.negative = a.parts.1 := by
  cases a <;> rfl

theorem rational_eq_zero_iff (a : FpOperand) : a.rational = 0 ↔ a.parts.2.1 = 0 := by
  have sign : signOf a.parts.1 ≠ 0 := left_ne_zero_of_mul_eq_one (signOf_mul_self _)
  have scale : (2 : ℚ) ^ a.parts.2.2 ≠ 0 := zpow_ne_zero _ two_ne_zero
  rw [rational_eq, mul_eq_zero, mul_eq_zero, Nat.cast_eq_zero, or_iff_left scale, or_iff_right sign]

theorem rational_negate (a : FpOperand) : a.negate.rational = -a.rational := by
  cases a with
  | zero neg => simp [rational, negate]
  | finite neg m e =>
    rw [rational_eq, rational_eq]
    simp [negate, parts, signOf_not]
  | nonfinite => simp [rational, negate]

theorem negative_negate {a : FpOperand} (ha : a ≠ .nonfinite) : a.negate.negative = !a.negative := by
  cases a with
  | zero neg => rfl
  | finite neg m e => rfl
  | nonfinite => exact absurd rfl ha

end FpOperand

/-! ### Sums -/

/-- The exponent at which the magnitudes of a sum are integers: the smaller one, a zero having none. -/
def sumExp (a b : FpOperand) : Int :=
  bif a.parts.2.1 == 0 then b.parts.2.2 else bif b.parts.2.1 == 0 then a.parts.2.2 else min a.parts.2.2 b.parts.2.2

/-- The operand as an integer at an exponent. -/
def FpOperand.scaled (a : FpOperand) (low : Int) : Int :=
  (scaleTo a.parts.2.1 a.parts.2.2 low : Int) * bif a.parts.1 then -1 else 1

/-- The sum as an integer at its exponent. -/
def sumNum (a b : FpOperand) : Int := a.scaled (sumExp a b) + b.scaled (sumExp a b)

theorem exactAdd_num (mode : Rounding) (a b : FpOperand) : (exactAdd mode a b).num = (sumNum a b).natAbs := rfl

theorem exactAdd_neg (mode : Rounding) (a b : FpOperand) : (exactAdd mode a b).neg =
    bif sumNum a b == 0 then
      (bif a.parts.2.1 == 0 && b.parts.2.1 == 0 && a.parts.1 == b.parts.1 then a.parts.1 else mode == .minusInf)
    else decide (sumNum a b < 0) := rfl

theorem exactAdd_neg_of_ne {mode : Rounding} {a b : FpOperand} (h : sumNum a b ≠ 0) :
    (exactAdd mode a b).neg = decide (sumNum a b < 0) := by
  rw [exactAdd_neg, beq_false_of_ne h, cond_false]

theorem FpOperand.scaled_mul {a : FpOperand} {low : Int} (h : a.parts.2.1 ≠ 0 → low ≤ a.parts.2.2) :
    (a.scaled low : ℚ) * 2 ^ low = a.rational := by
  have sign : (((bif a.parts.1 then -1 else 1 : Int)) : ℚ) = signOf a.parts.1 := by
    cases a.parts.1 <;> simp [signOf]
  rw [FpOperand.scaled, Int.cast_mul, sign, FpOperand.rational_eq, scaleTo, Nat.shiftLeft_eq]
  by_cases zero : a.parts.2.1 = 0
  · simp [zero]
  · have split : (2 : ℚ) ^ a.parts.2.2 = 2 ^ (a.parts.2.2 - low).toNat * 2 ^ low := by
      rw [← zpow_natCast, Int.toNat_of_nonneg (Int.sub_nonneg_of_le (h zero)), ← zpow_add₀ two_ne_zero, Int.sub_add_cancel]
    rw [split]
    push_cast
    ring

theorem sumNum_mul (a b : FpOperand) : (sumNum a b : ℚ) * 2 ^ sumExp a b = a.rational + b.rational := by
  have left : a.parts.2.1 ≠ 0 → sumExp a b ≤ a.parts.2.2 := by
    intro ha
    rw [sumExp, beq_false_of_ne ha, cond_false]
    cases b.parts.2.1 == 0 with
    | true => exact le_rfl
    | false => exact min_le_left ..
  have right : b.parts.2.1 ≠ 0 → sumExp a b ≤ b.parts.2.2 := by
    intro hb
    rw [sumExp, beq_false_of_ne hb, cond_false]
    cases a.parts.2.1 == 0 with
    | true => exact le_rfl
    | false => exact min_le_right ..
  rw [sumNum, Int.cast_add, add_mul, FpOperand.scaled_mul left, FpOperand.scaled_mul right]

theorem exactAdd_rational (mode : Rounding) (a b : FpOperand) : (exactAdd mode a b).rational = a.rational + b.rational := by
  have den : (exactAdd mode a b).den = 1 := rfl
  have exp : (exactAdd mode a b).exp = sumExp a b := rfl
  rw [Exact.rational_eq, exactAdd_num, den, exp, Nat.cast_one, div_one, ← mul_assoc,
    signOf_mul_natAbs exactAdd_neg_of_ne, sumNum_mul]

theorem sumNum_eq_zero_iff (a b : FpOperand) : sumNum a b = 0 ↔ a.rational + b.rational = 0 := by
  have scale : (2 : ℚ) ^ sumExp a b ≠ 0 := zpow_ne_zero _ two_ne_zero
  rw [← sumNum_mul, mul_eq_zero, or_iff_left scale, Int.cast_eq_zero]

theorem sumNum_neg_iff (a b : FpOperand) : sumNum a b < 0 ↔ a.rational + b.rational < 0 := by
  have scale : (0 : ℚ) < 2 ^ sumExp a b := zpow_pos two_pos _
  rw [← sumNum_mul, ← Int.cast_lt_zero (R := ℚ), ← not_le, ← not_le, mul_nonneg_iff_of_pos_right scale]

/-- The sign of a zero sum (44_fp_common.md R747). -/
theorem exactAdd_zero {mode : Rounding} {a b : FpOperand} (h : a.rational + b.rational = 0) :
    (exactAdd mode a b).num = 0 ∧ (exactAdd mode a b).neg =
      if a.rational = 0 ∧ a.negative = b.negative then a.negative else decide (mode = .minusInf) := by
  have zero : sumNum a b = 0 := (sumNum_eq_zero_iff a b).mpr h
  have same : a.parts.2.1 = 0 ↔ b.parts.2.1 = 0 := by
    rw [← FpOperand.rational_eq_zero_iff, ← FpOperand.rational_eq_zero_iff, eq_neg_of_add_eq_zero_left h, neg_eq_zero]
  have minus : (mode == .minusInf) = decide (mode = .minusInf) := rfl
  constructor
  · rw [exactAdd_num, zero, Int.natAbs_zero]
  · rw [exactAdd_neg, zero, minus, beq_self_eq_true, cond_true, Bool.cond_eq_ite]
    simp only [a.rational_eq_zero_iff, a.negative_eq, b.negative_eq, Bool.and_eq_true, beq_iff_eq, ← same, and_self]

/-- A comparison is the sign of the difference. -/
theorem compareFp_eq (a b : FpOperand) : compareFp a b = (sumNum a b.negate).sign := by
  show (bif (sumNum a b.negate).natAbs == 0 then 0 else bif (exactAdd .nearest a b.negate).neg then -1 else 1) = _
  rcases lt_trichotomy (sumNum a b.negate) 0 with hz | hz | hz
  · rw [beq_false_of_ne (Int.natAbs_ne_zero.mpr hz.ne), exactAdd_neg_of_ne hz.ne, decide_eq_true hz, cond_false, cond_true,
      Int.sign_eq_neg_one_of_neg hz]
  · rw [hz]
    rfl
  · rw [beq_false_of_ne (Int.natAbs_ne_zero.mpr hz.ne'), exactAdd_neg_of_ne hz.ne', decide_eq_false hz.not_gt, cond_false,
      cond_false, Int.sign_eq_one_of_pos hz]

/-! ### Products and quotients -/

theorem exactMul_rational (a b : FpOperand) : (exactMul a b).rational = a.rational * b.rational := by
  rw [Exact.rational_eq, FpOperand.rational_eq, FpOperand.rational_eq]
  show signOf (a.parts.1 != b.parts.1) * (((a.parts.2.1 * b.parts.2.1 : Nat) : ℚ) / (1 : Nat) *
    2 ^ (a.parts.2.2 + b.parts.2.2)) = _
  rw [signOf_bne, zpow_add₀ two_ne_zero, Nat.cast_one, div_one, Nat.cast_mul]
  ring

theorem exactDiv_rational (a b : FpOperand) : (exactDiv a b).rational = a.rational / b.rational := by
  have sign : signOf b.parts.1 = (signOf b.parts.1)⁻¹ := eq_inv_of_mul_eq_one_left (signOf_mul_self _)
  rw [Exact.rational_eq, FpOperand.rational_eq, FpOperand.rational_eq]
  show signOf (a.parts.1 != b.parts.1) * ((a.parts.2.1 : ℚ) / b.parts.2.1 * 2 ^ (a.parts.2.2 - b.parts.2.2)) = _
  rw [signOf_bne, zpow_sub₀ two_ne_zero, div_eq_mul_inv (_ * _ * _), mul_inv, mul_inv, ← sign]
  ring

theorem exactOf_rational (a : FpOperand) : (exactOf a).rational = a.rational := by
  rw [Exact.rational_eq, FpOperand.rational_eq, mul_assoc]
  show signOf a.parts.1 * ((a.parts.2.1 : ℚ) / (1 : Nat) * 2 ^ a.parts.2.2) = _
  rw [Nat.cast_one, div_one]

theorem exactOfInt_rational (v : Quad) : (exactOfInt v).rational = v.toInt := by
  rw [Exact.rational_eq]
  show signOf (bit v 63) * ((v.toInt.natAbs : ℚ) / (1 : Nat) * 2 ^ (0 : Int)) = _
  rw [Nat.cast_one, div_one, zpow_zero, mul_one]
  exact signOf_mul_natAbs fun _ => isNegative_eq v

/-- Settles O45: each exact result is the operation on the values, and a zero has the sign that its operation gives it. -/
theorem exactResultsAreExact : Obligations.ExactResultsAreExact := by
  intro mode a b _ hb
  refine ⟨exactAdd_rational mode a b, ?sub, exactMul_rational a b, fun _ => exactDiv_rational a b, exactOf_rational a, ?lt,
    ?eq, exactAdd_zero, FpOperand.negative_negate hb, ?mulSign, ?divSign, (a.negative_eq).symm,
    fun v => ⟨exactOfInt_rational v, ?intSign⟩⟩
  case sub => rw [exactAdd_rational, FpOperand.rational_negate, sub_eq_add_neg]
  case lt =>
    rw [compareFp_eq, Int.sign_neg_iff, sumNum_neg_iff, FpOperand.rational_negate, ← sub_eq_add_neg, sub_neg]
  case eq =>
    rw [compareFp_eq, Int.sign_eq_zero_iff_zero, sumNum_eq_zero_iff, FpOperand.rational_negate, ← sub_eq_add_neg,
      sub_eq_zero]
  case mulSign => rw [a.negative_eq, b.negative_eq]; rfl
  case divSign => rw [a.negative_eq, b.negative_eq]; rfl
  case intSign =>
    rintro rfl
    rfl

end Sys2Proof.Machine

/-! # Rounding -/

namespace Sys2Proof.Machine

/-! ### A number between two multiples of a unit -/

/-- Whether the mode takes a number that lies g above q units of size c to the next unit (44_fp_common.md R741). -/
def Rounding.TakesUp (mode : Rounding) (neg : Bool) (q : Nat) (c g : ℚ) : Prop :=
  match mode with
  | .chop => False
  | .minusInf => neg = true ∧ g ≠ 0
  | .plusInf => neg = false ∧ g ≠ 0
  | .nearest => c < 2 * g ∨ 2 * g = c ∧ q % 2 = 1
  | .away => c ≤ 2 * g

/-- Rounding the magnitude y at the unit c gives n units: y lies in the cell that begins at q units, and n is one of its ends,
chosen by the mode. -/
structure Rounds (mode : Rounding) (neg : Bool) (c y : ℚ) (q n : Nat) : Prop where
  unit : 0 < c
  lower : q * c ≤ y
  upper : y < q * c + c
  choice : n = q ∧ ¬mode.TakesUp neg q c (y - q * c) ∨ n = q + 1 ∧ mode.TakesUp neg q c (y - q * c)

/-- The number z does not lie inside the cell that begins at q units of size c. -/
def SkipsCell (c : ℚ) (q : Nat) (z : ℚ) : Prop := z ≤ q * c ∨ q * c + c ≤ z

theorem shiftFraction_den {num den : Nat} {k : Int} (h : den ≠ 0) : (shiftFraction num den k).2 ≠ 0 := by
  rw [shiftFraction]
  cases decide (k < 0) with
  | true => simpa [Nat.shiftLeft_eq] using h
  | false => exact h

theorem shiftFraction_eq (num den : Nat) (k : Int) :
    ((shiftFraction num den k).1 : ℚ) / (shiftFraction num den k).2 = num / den * 2 ^ k := by
  rw [shiftFraction]
  by_cases neg : k < 0
  · have power : (2 : ℚ) ^ k = (2 ^ (-k).toNat)⁻¹ := by
      rw [← zpow_natCast, Int.toNat_of_nonneg (by omega), zpow_neg, inv_inv]
    simp [neg, power, Nat.shiftLeft_eq, div_eq_mul_inv]
    ring
  · have power : (2 : ℚ) ^ k = 2 ^ k.toNat := by
      rw [← zpow_natCast, Int.toNat_of_nonneg (by omega)]
    simp [neg, power, Nat.shiftLeft_eq]
    ring

/-- The test on quotient and remainder is the mode's, whatever the unit. -/
theorem roundsUp_iff {mode : Rounding} {neg : Bool} {q r d : Nat} {c : ℚ} (hd : d ≠ 0) (hc : 0 < c) :
    roundsUp mode neg q r d = true ↔ mode.TakesUp neg q c (r / d * c) := by
  have dpos : (0 : ℚ) < d := by exact_mod_cast Nat.pos_of_ne_zero hd
  have zero : (r : ℚ) / d * c ≠ 0 ↔ r ≠ 0 := by
    rw [mul_ne_zero_iff, div_ne_zero_iff, Nat.cast_ne_zero, Nat.cast_ne_zero]
    exact ⟨fun h => h.1.1, fun h => ⟨⟨h, hd⟩, hc.ne'⟩⟩
  have half : 2 * ((r : ℚ) / d * c) = ((2 * r : Nat) : ℚ) / d * c := by
    push_cast
    ring
  have above : c < 2 * ((r : ℚ) / d * c) ↔ d < 2 * r := by
    rw [half, lt_mul_iff_one_lt_left hc, one_lt_div dpos, Nat.cast_lt]
  have least : c ≤ 2 * ((r : ℚ) / d * c) ↔ d ≤ 2 * r := by
    rw [half, le_mul_iff_one_le_left hc, one_le_div dpos, Nat.cast_le]
  have tie : 2 * ((r : ℚ) / d * c) = c ↔ 2 * r = d := by
    rw [half, mul_eq_right₀ hc.ne', div_eq_one_iff_eq dpos.ne', Nat.cast_inj]
  cases mode with
  | chop => simp [roundsUp, Rounding.TakesUp]
  | minusInf => simp [roundsUp, Rounding.TakesUp, zero]
  | plusInf => simp [roundsUp, Rounding.TakesUp, zero]
  | nearest => simp [roundsUp, Rounding.TakesUp, above, tie, Nat.blt_eq]
  | away =>
    simp [roundsUp, Rounding.TakesUp, least, Nat.ble_eq]
    omega

theorem roundAt_eq (mode : Rounding) (x : Exact) (k : Int) (hden : x.den ≠ 0) : ∃ n d : Nat, d ≠ 0 ∧
    (n / d : ℚ) = x.num / x.den * 2 ^ k ∧ roundAt mode x k =
      { sig := bif roundsUp mode x.neg (n / d) (n % d) d then n / d + 1 else n / d
        exp := x.exp - k
        inexact := n % d != 0 } :=
  ⟨_, _, shiftFraction_den hden, shiftFraction_eq x.num x.den k, rfl⟩

/-- Rounding at the unit 2^-k, in units of the exact number. -/
theorem roundAt_rounds (mode : Rounding) (x : Exact) (k : Int) (hden : x.den ≠ 0) :
    ∃ q : Nat, Rounds mode x.neg (2 ^ (x.exp - k)) x.magnitude q (roundAt mode x k).sig ∧
      ((roundAt mode x k).inexact = true ↔ x.magnitude ≠ q * 2 ^ (x.exp - k)) := by
  obtain ⟨n, d, hd, hvalue, hround⟩ := roundAt_eq mode x k hden
  have hc : (0 : ℚ) < 2 ^ (x.exp - k) := zpow_pos two_pos _
  have dpos : (0 : ℚ) < d := by exact_mod_cast Nat.pos_of_ne_zero hd
  have hrest : x.magnitude - (n / d : Nat) * 2 ^ (x.exp - k) = ((n % d : Nat) : ℚ) / d * 2 ^ (x.exp - k) := by
    have hmag : x.magnitude = (n / d : ℚ) * 2 ^ (x.exp - k) := by
      rw [hvalue, Exact.magnitude, mul_assoc, ← zpow_add₀ two_ne_zero, add_sub_cancel]
    have hquot : (n : ℚ) = d * (n / d : Nat) + (n % d : Nat) := by exact_mod_cast (Nat.div_add_mod n d).symm
    rw [hmag, hquot]
    field_simp
    ring
  have hlt : ((n % d : Nat) : ℚ) / d < 1 := by
    rw [div_lt_one dpos]
    exact_mod_cast Nat.mod_lt n (Nat.pos_of_ne_zero hd)
  rw [hround]
  refine ⟨n / d, ⟨hc, ?lower, ?upper, ?choice⟩, ?inexact⟩
  case lower =>
    rw [← sub_nonneg, hrest]
    positivity
  case upper =>
    rw [← sub_lt_iff_lt_add', hrest]
    exact mul_lt_of_lt_one_left hc hlt
  case choice =>
    rw [hrest, ← roundsUp_iff hd hc]
    cases roundsUp mode x.neg (n / d) (n % d) d with
    | true => exact .inr ⟨rfl, rfl⟩
    | false => exact .inl ⟨rfl, Bool.false_ne_true⟩
  case inexact =>
    have hzero : x.magnitude - (n / d : Nat) * 2 ^ (x.exp - k) ≠ 0 ↔ n % d ≠ 0 := by
      rw [hrest, mul_ne_zero_iff, div_ne_zero_iff, Nat.cast_ne_zero]
      exact ⟨fun h => h.1.1, fun h => ⟨⟨h, dpos.ne'⟩, hc.ne'⟩⟩
    rw [bne_iff_ne, ← hzero, sub_ne_zero]

/-! ### The number of bits -/

/-- Scaled by the numbers of bits of numerator and denominator, a fraction lies between 2^(p-1) and 2^(p+1). -/
theorem log2_scaled_bounds (p : Nat) {num den : Nat} (hnum : num ≠ 0) (hden : den ≠ 0) :
    let v : ℚ := num / den * 2 ^ ((p : Int) + den.log2 - num.log2)
    2 ^ p ≤ 2 * v ∧ v < 2 * 2 ^ p := by
  intro v
  have numLow : (2 : ℚ) ^ num.log2 ≤ num := by exact_mod_cast Nat.log2_self_le hnum
  have numHigh : (num : ℚ) < 2 ^ num.log2 * 2 := by exact_mod_cast (Nat.lt_log2_self (n := num)).trans_eq (Nat.pow_succ ..)
  have denLow : (2 : ℚ) ^ den.log2 ≤ den := by exact_mod_cast Nat.log2_self_le hden
  have denHigh : (den : ℚ) < 2 ^ den.log2 * 2 := by exact_mod_cast (Nat.lt_log2_self (n := den)).trans_eq (Nat.pow_succ ..)
  have dpos : (0 : ℚ) < den := by exact_mod_cast Nat.pos_of_ne_zero hden
  have value : v = 2 ^ p * (num * 2 ^ den.log2 / (den * 2 ^ num.log2)) := by
    unfold v
    rw [zpow_sub₀ two_ne_zero, zpow_add₀ two_ne_zero, zpow_natCast, zpow_natCast, zpow_natCast]
    field_simp
  have powers (n : Nat) : (0 : ℚ) < 2 ^ n := by positivity
  have ratioLow : 1 / 2 ≤ (num * 2 ^ den.log2 / (den * 2 ^ num.log2) : ℚ) := by
    rw [div_le_div_iff₀ two_pos (by positivity)]
    nlinarith [mul_le_mul_of_nonneg_right numLow (powers den.log2).le, mul_lt_mul_of_pos_right denHigh (powers num.log2)]
  have ratioHigh : (num * 2 ^ den.log2 / (den * 2 ^ num.log2) : ℚ) < 2 := by
    rw [div_lt_iff₀ (by positivity)]
    nlinarith [mul_lt_mul_of_pos_right numHigh (powers den.log2), mul_le_mul_of_nonneg_right denLow (powers num.log2).le]
  rw [value]
  constructor
  · nlinarith [powers p]
  · nlinarith [powers p]

theorem scaleFor_eq (p : Nat) (x : Exact) (hden : x.den ≠ 0) :
    let k := (p : Int) + x.den.log2 - x.num.log2
    scaleFor p x = if (x.num / x.den * 2 ^ k : ℚ) < 2 ^ p then k else k - 1 := by
  intro k
  have hd := shiftFraction_den (num := x.num) (k := k) hden
  have fits : ((shiftFraction x.num x.den k).1 / (shiftFraction x.num x.den k).2 < 2 ^ p) ↔
      (x.num / x.den * 2 ^ k : ℚ) < 2 ^ p := by
    have dpos : (0 : ℚ) < (shiftFraction x.num x.den k).2 := by exact_mod_cast Nat.pos_of_ne_zero hd
    rw [← shiftFraction_eq, div_lt_iff₀ dpos, Nat.div_lt_iff_lt_mul (Nat.pos_of_ne_zero hd)]
    exact_mod_cast Iff.rfl
  show (bif Nat.blt ((shiftFraction x.num x.den k).1 / (shiftFraction x.num x.den k).2) (2 ^ p) then k else k - 1) = _
  rw [Bool.cond_eq_ite]
  simp only [Nat.blt_eq, fits]

/-- The scaling puts the number between 2^(p-1) and 2^p. -/
theorem scaleFor_bounds (p : Nat) (x : Exact) (hnum : x.num ≠ 0) (hden : x.den ≠ 0) :
    (2 : ℚ) ^ p ≤ 2 * (x.num / x.den * 2 ^ scaleFor p x) ∧ (x.num / x.den * 2 ^ scaleFor p x : ℚ) < 2 ^ p := by
  obtain ⟨low, high⟩ := log2_scaled_bounds p hnum hden
  rw [scaleFor_eq p x hden]
  split
  next fits => exact ⟨low, fits⟩
  next above =>
    rw [zpow_sub_one₀ two_ne_zero]
    constructor <;> linarith

/-- A number of p bits is a multiple of the unit, or smaller than any number of the cell: the cell holds numbers of p bits
at its ends only. -/
theorem skipsCell_of_representable {p q : Nat} {u : Int} {y : ℚ} (hp : 1 ≤ p) (hq : 2 ^ (p - 1) ≤ q)
    (hy : representable p y) : SkipsCell (2 ^ u) q y := by
  obtain ⟨m, e, hm, rfl⟩ := hy
  have unit : (0 : ℚ) < 2 ^ u := zpow_pos two_pos _
  rcases le_or_gt u e with hue | heu
  · have multiple : (m : ℚ) * 2 ^ e = (m * 2 ^ (e - u).toNat : Nat) * 2 ^ u := by
      have power : (2 : ℚ) ^ e = 2 ^ (e - u).toNat * 2 ^ u := by
        rw [← zpow_natCast, Int.toNat_of_nonneg (Int.sub_nonneg_of_le hue), ← zpow_add₀ two_ne_zero, sub_add_cancel]
      rw [power]
      push_cast
      ring
    rw [SkipsCell, multiple, ← add_one_mul, mul_le_mul_iff_left₀ unit, mul_le_mul_iff_left₀ unit]
    rcases le_or_gt (m * 2 ^ (e - u).toNat) q with h | h
    · exact .inl (by exact_mod_cast h)
    · exact .inr (by exact_mod_cast h)
  · refine .inl ?_
    have power : (2 : ℚ) ^ (e + 1) ≤ 2 ^ u := zpow_le_zpow_right₀ one_le_two heu
    have bits : (m : ℚ) ≤ q * 2 := by
      have h : 2 ^ p = 2 ^ (p - 1) * 2 := by rw [← Nat.pow_succ, Nat.succ_eq_add_one, Nat.sub_add_cancel hp]
      have hmq : m ≤ q * 2 := by omega
      exact_mod_cast hmq
    calc (m : ℚ) * 2 ^ e ≤ q * 2 * 2 ^ e := mul_le_mul_of_nonneg_right bits (zpow_pos two_pos _).le
      _ = q * 2 ^ (e + 1) := by rw [zpow_add_one₀ two_ne_zero]; ring
      _ ≤ q * 2 ^ u := mul_le_mul_of_nonneg_left power (Nat.cast_nonneg q)

/-- A carry out of the top renormalizes (R741). -/
def Rounded.carried (p : Nat) (a : Rounded) : Rounded :=
  bif a.sig == 2 ^ p then { a with sig := 2 ^ (p - 1), exp := a.exp + 1 } else a

theorem roundTo_eq (p : Nat) (mode : Rounding) (x : Exact) :
    roundTo p mode x = (roundAt mode x (scaleFor p x)).carried p := rfl

section

variable {p : Nat} {a : Rounded}

theorem Rounded.carried_inexact : (a.carried p).inexact = a.inexact := by
  rw [carried]
  cases a.sig == 2 ^ p <;> rfl

theorem Rounded.carried_sig : (a.carried p).sig = if a.sig = 2 ^ p then 2 ^ (p - 1) else a.sig := by
  rw [carried]
  split
  next carry => rw [carry, beq_self_eq_true, cond_true]
  next kept => rw [beq_false_of_ne kept, cond_false]

theorem Rounded.carried_magnitude (hp : 1 ≤ p) : (a.carried p).magnitude = a.magnitude := by
  rw [carried]
  by_cases carry : a.sig = 2 ^ p
  · have top : (2 : ℚ) ^ p = 2 ^ (p - 1) * 2 := by rw [← pow_succ, Nat.sub_add_cancel hp]
    rw [carry, beq_self_eq_true, cond_true, magnitude, magnitude, carry, zpow_add_one₀ two_ne_zero]
    push_cast
    rw [top]
    ring
  · rw [beq_false_of_ne carry, cond_false]

end

/-- Rounding to p bits: the cell in which the number lies begins at a number of p bits, and the result is the end that the mode
chooses. -/
theorem roundTo_rounds {p : Nat} {x : Exact} (mode : Rounding) (hp : 2 ≤ p) (hnum : x.num ≠ 0) (hden : x.den ≠ 0) :
    ∃ (u : Int) (q n : Nat), Rounds mode x.neg (2 ^ u) x.magnitude q n ∧ 2 ^ (p - 1) ≤ q ∧
      (roundTo p mode x).magnitude = n * 2 ^ u ∧ ((roundTo p mode x).inexact = true ↔ x.magnitude ≠ q * 2 ^ u) ∧
      2 ^ (p - 1) ≤ (roundTo p mode x).sig ∧ (roundTo p mode x).sig < 2 ^ p ∧
      (n % 2 = 0 → (roundTo p mode x).sig % 2 = 0) := by
  obtain ⟨q, hround, hinexact⟩ := roundAt_rounds mode x (scaleFor p x) hden
  obtain ⟨low, high⟩ := scaleFor_bounds p x hnum hden
  have powers : 2 ^ p = 2 ^ (p - 2) * 2 * 2 ∧ 2 ^ (p - 1) = 2 ^ (p - 2) * 2 := by
    rw [← Nat.pow_succ, ← Nat.pow_succ]
    constructor <;> congr 1 <;> omega
  have hvalue : x.magnitude = x.num / x.den * 2 ^ scaleFor p x * 2 ^ (x.exp - scaleFor p x) := by
    rw [Exact.magnitude, mul_assoc, ← zpow_add₀ two_ne_zero, add_sub_cancel]
  have hqhigh : q < 2 ^ p := by
    have h := hround.lower.trans_lt (hvalue.trans_lt (mul_lt_mul_of_pos_right high hround.unit))
    exact_mod_cast lt_of_mul_lt_mul_right h hround.unit.le
  have hqlow : 2 ^ (p - 1) ≤ q := by
    have h := hround.upper
    rw [hvalue, ← add_one_mul] at h
    have hq : (2 : ℚ) ^ p < 2 * (q + 1) :=
      low.trans_lt (mul_lt_mul_of_pos_left (lt_of_mul_lt_mul_right h hround.unit.le) two_pos)
    have hq' : 2 ^ p < 2 * (q + 1) := by exact_mod_cast hq
    omega
  have hn : (roundAt mode x (scaleFor p x)).sig = q ∨ (roundAt mode x (scaleFor p x)).sig = q + 1 :=
    hround.choice.imp And.left And.left
  rw [roundTo_eq, Rounded.carried_inexact, Rounded.carried_magnitude (by omega), Rounded.carried_sig]
  refine ⟨_, q, _, hround, hqlow, rfl, hinexact, ?_⟩
  split <;> omega

/-! ### What the modes ask for -/

namespace Rounds

variable {mode : Rounding} {neg : Bool} {c y z : ℚ} {q n : Nat}

theorem eq_of_stays (h : Rounds mode neg c y q n) (stay : ¬mode.TakesUp neg q c (y - q * c)) : n = q :=
  (h.choice.resolve_right fun up => stay up.2).1

theorem eq_of_takesUp (h : Rounds mode neg c y q n) (up : mode.TakesUp neg q c (y - q * c)) : n = q + 1 :=
  (h.choice.resolve_left fun stay => stay.2 up).1

/-- A multiple of the unit is not changed. -/
theorem kept (h : Rounds mode neg c y q n) (hy : y = q * c) : n = q := by
  rcases h.choice with ⟨hn, _⟩ | ⟨_, up⟩
  · exact hn
  · have pos := h.unit
    rw [hy, sub_self] at up
    cases mode with
    | chop => exact absurd up id
    | minusInf => exact absurd rfl up.2
    | plusInf => exact absurd rfl up.2
    | nearest =>
      rcases up with up | ⟨up, _⟩ <;> linarith
    | away =>
      change c ≤ 2 * 0 at up
      linarith

theorem exact_iff (h : Rounds mode neg c y q n) : n * c = y ↔ y = q * c := by
  refine ⟨fun hy => ?_, fun hy => by rw [h.kept hy, hy]⟩
  rcases h.choice with ⟨rfl, _⟩ | ⟨rfl, _⟩
  · exact hy.symm
  · have upper := h.upper
    push_cast at hy
    linarith

/-- The lower end of the cell is the greatest number outside the cell that is not above. -/
theorem down (h : Rounds mode neg c y q n) (hn : n = q) :
    n * c ≤ y ∧ ∀ z, SkipsCell c q z → z ≤ y → z ≤ n * c := by
  subst hn
  refine ⟨h.lower, fun z hz hzy => hz.resolve_right fun above => ?_⟩
  exact absurd h.upper (above.trans hzy).not_gt

/-- The upper end is the least number outside the cell that is not below, unless the number itself is the lower one. -/
theorem up (h : Rounds mode neg c y q n) (hn : y ≠ q * c → n = q + 1) :
    y ≤ n * c ∧ ∀ z, SkipsCell c q z → y ≤ z → n * c ≤ z := by
  by_cases same : y = q * c
  · rw [h.kept same, same]
    exact ⟨le_rfl, fun _ _ hz => hz⟩
  · rw [hn same]
    push_cast
    rw [add_one_mul]
    refine ⟨h.upper.le, fun z hz hyz => hz.resolve_left fun below => ?_⟩
    exact same (le_antisymm (hyz.trans below) h.lower)

/-- The nearest modes choose the end that is not farther. -/
theorem closer (h : Rounds mode neg c y q n) (hmode : mode = .nearest ∨ mode = .away) :
    n = q ∧ |n * c - y| = y - q * c ∧ 2 * (y - q * c) ≤ c ∨
      n = q + 1 ∧ |n * c - y| = q * c + c - y ∧ c ≤ 2 * (y - q * c) := by
  rcases h.choice with ⟨hn, stay⟩ | ⟨hn, up⟩
  · refine .inl ⟨hn, ?_, ?_⟩
    · rw [hn, abs_sub_comm, abs_of_nonneg (sub_nonneg_of_le h.lower)]
    · rcases hmode with rfl | rfl
      · exact not_lt.mp fun far => stay (.inl far)
      · exact (not_le.mp stay).le
  · refine .inr ⟨hn, ?_, ?_⟩
    · rw [hn, Nat.cast_succ, add_one_mul, abs_of_nonneg (sub_nonneg_of_le h.upper.le)]
    · rcases hmode with rfl | rfl
      · exact up.elim le_of_lt fun tie => tie.1.ge
      · exact up

/-- A tie goes to an even number of units. -/
theorem even_of_tie (h : Rounds .nearest neg c y q n) (tie : 2 * (y - q * c) = c) : n % 2 = 0 := by
  rcases h.choice with ⟨rfl, stay⟩ | ⟨rfl, up⟩
  · exact Nat.mod_two_ne_one.mp fun odd => stay (.inr ⟨tie, odd⟩)
  · have odd : q % 2 = 1 := (up.resolve_left tie.le.not_gt).2
    omega

/-- A tie goes away from zero. -/
theorem away_of_tie (h : Rounds .away neg c y q n) (tie : 2 * (y - q * c) = c) : n = q + 1 := h.eq_of_takesUp tie.ge

theorem near (h : Rounds mode neg c y q n) (hmode : mode = .nearest ∨ mode = .away) (hz : SkipsCell c q z) :
    |n * c - y| ≤ |z - y| := by
  have below := neg_le_abs (z - y)
  have above := le_abs_self (z - y)
  rcases h.closer hmode with ⟨_, dist, close⟩ | ⟨_, dist, close⟩ <;> rcases hz with hz | hz <;> linarith

/-- Another number is as near only in a tie, where y lies in the middle of the cell; it is then the smaller of the two if the
upper end is chosen. -/
theorem tie_of_abs_eq (h : Rounds mode neg c y q n) (hmode : mode = .nearest ∨ mode = .away) (hz : SkipsCell c q z)
    (hne : z ≠ n * c) (heq : |z - y| = |n * c - y|) : 2 * (y - q * c) = c ∧ (n = q + 1 → z < n * c) := by
  have unit := h.unit
  have lower := h.lower
  have upper := h.upper
  rcases h.closer hmode with ⟨rfl, dist, close⟩ | ⟨rfl, dist, close⟩ <;> rcases hz with hz | hz
  · rw [dist, abs_of_nonpos (by linarith)] at heq
    exact absurd (by linarith) hne
  · rw [dist, abs_of_nonneg (by linarith)] at heq
    exact ⟨by linarith, fun hn => by omega⟩
  · rw [dist, abs_of_nonpos (by linarith)] at heq
    refine ⟨by linarith, fun _ => ?_⟩
    push_cast
    linarith
  · rw [dist, abs_of_nonneg (by linarith)] at heq
    push_cast at hne
    exact absurd (by linarith) hne

end Rounds

/-- Settles O46: the numbers of p bits lie outside the cell, whose end the mode chooses. -/
theorem roundingFollowsItsMode : Obligations.RoundingFollowsItsMode := by
  intro p mode x hp hnum hden r down up near tied
  obtain ⟨u, q, n, hround, hq, hmag, hinexact, hlow, hhigh, heven⟩ := roundTo_rounds mode hp hnum hden
  have hmag' : r.magnitude = n * 2 ^ u := hmag
  have skips (y : ℚ) (hy : representable p y) : SkipsCell (2 ^ u) q y :=
    skipsCell_of_representable (by omega) hq hy
  have hdown (hn : n = q) : down := by
    obtain ⟨le, best⟩ := hround.down hn
    unfold down
    rw [hmag']
    exact ⟨le, fun y hy => best y (skips y hy)⟩
  have hup (hn : x.magnitude ≠ q * 2 ^ u → n = q + 1) : up := by
    obtain ⟨le, best⟩ := hround.up hn
    unfold up
    rw [hmag']
    exact ⟨le, fun y hy => best y (skips y hy)⟩
  have hnear (hmode : mode = .nearest ∨ mode = .away) : near := by
    intro y hy
    rw [hmag']
    exact hround.near hmode (skips y hy)
  have htie (hmode : mode = .nearest ∨ mode = .away) {y : ℚ} (hy : tied y) :
      2 * (x.magnitude - q * 2 ^ u) = 2 ^ u ∧ (n = q + 1 → y < r.magnitude) := by
    obtain ⟨hrep, hne, heq⟩ := hy
    rw [hmag'] at hne heq ⊢
    exact hround.tie_of_abs_eq hmode (skips y hrep) hne heq
  refine ⟨hlow, hhigh, ?inexact, ?mode⟩
  case inexact => rw [hinexact, hmag', ne_eq, ne_eq, hround.exact_iff]
  case mode =>
    cases mode with
    | chop => exact hdown (hround.eq_of_stays id)
    | minusInf =>
      dsimp only
      split
      next neg => exact hup fun hne => hround.eq_of_takesUp ⟨neg, sub_ne_zero.mpr hne⟩
      next pos => exact hdown (hround.eq_of_stays fun takes => pos takes.1)
    | plusInf =>
      dsimp only
      split
      next neg => exact hdown (hround.eq_of_stays fun takes => Bool.false_ne_true (takes.1.symm.trans neg))
      next pos => exact hup fun hne => hround.eq_of_takesUp ⟨Bool.eq_false_of_not_eq_true pos, sub_ne_zero.mpr hne⟩
    | nearest => exact ⟨hnear (.inl rfl), fun ⟨y, hy⟩ => heven (hround.even_of_tie (htie (.inl rfl) hy).1)⟩
    | away =>
      refine ⟨hnear (.inr rfl), fun y hy => ?_⟩
      obtain ⟨tie, above⟩ := htie (.inr rfl) hy
      exact above (hround.away_of_tie tie)

end Sys2Proof.Machine

/-! # Range checks and encoding -/

namespace Sys2Proof.Machine

/-! ### Overflow and underflow (44_fp_common.md R747) -/

/-- A number of p bits with 2^(top-1) <= number < 2^top. -/
theorem magnitude_bounds {p : Nat} {r : Rounded} (hp : 1 ≤ p) (low : 2 ^ (p - 1) ≤ r.sig) (high : r.sig < 2 ^ p) :
    (2 : ℚ) ^ (r.exp + p - 1) ≤ r.magnitude ∧ r.magnitude < 2 ^ (r.exp + p) := by
  have pos : (0 : ℚ) < 2 ^ r.exp := zpow_pos two_pos _
  have top : (2 : ℚ) ^ (r.exp + p) = (2 ^ p : Nat) * 2 ^ r.exp := by
    rw [zpow_add₀ two_ne_zero, zpow_natCast, mul_comm, Nat.cast_pow, Nat.cast_ofNat]
  have half : (2 : ℚ) ^ (r.exp + p - 1) = (2 ^ (p - 1) : Nat) * 2 ^ r.exp := by
    rw [← Nat.cast_one (R := Int), add_sub_assoc, ← Nat.cast_sub hp, zpow_add₀ two_ne_zero, zpow_natCast, mul_comm,
      Nat.cast_pow, Nat.cast_ofNat]
  rw [top, half, Rounded.magnitude]
  exact ⟨mul_le_mul_of_nonneg_right (Nat.cast_le.mpr low) pos.le, mul_lt_mul_of_pos_right (Nat.cast_lt.mpr high) pos⟩

theorem le_magnitude_iff {p : Nat} {r : Rounded} (hp : 1 ≤ p) (low : 2 ^ (p - 1) ≤ r.sig) (high : r.sig < 2 ^ p)
    (e : Int) : (2 : ℚ) ^ e ≤ r.magnitude ↔ e < r.exp + p := by
  obtain ⟨lower, upper⟩ := magnitude_bounds hp low high
  refine ⟨fun h => (zpow_lt_zpow_iff_right₀ one_lt_two).mp (h.trans_lt upper), fun h => ?_⟩
  exact (zpow_le_zpow_right₀ one_le_two (by omega)).trans lower

/-! ### The encodings -/

/-- The operand that a result of a format is when it is read again (44_fp_common.md R739: S as T, F as G). -/
def FpFormat.read : FpFormat → Quad → FpOperand
  | .s => readT
  | .t => readT
  | .f => readG
  | .g => readG
  | .d => readD

/-- The fields of a quadword that is put together from sign, exponent and fraction. -/
theorem fields_of_toNat {v : Quad} {neg : Bool} {n m e frac : Nat} (hnm : m + n = 63)
    (hv : v.toNat = (neg.toNat * 2 ^ n + e) * 2 ^ m + frac) (he : e < 2 ^ n) (hfrac : frac < 2 ^ m) :
    (slice v m n).toNat = e ∧ (slice v 0 m).toNat = frac ∧ bit v 63 = neg := by
  have upper : v.toNat / 2 ^ m = neg.toNat * 2 ^ n + e := by
    rw [hv, Nat.mul_comm, Nat.mul_add_div (by positivity), Nat.div_eq_of_lt hfrac, Nat.add_zero]
  have sign : v.toNat / 2 ^ 63 = neg.toNat := by
    rw [← hnm, Nat.pow_add, ← Nat.div_div_eq_div_mul, upper, Nat.mul_comm, Nat.mul_add_div (by positivity),
      Nat.div_eq_of_lt he, Nat.add_zero]
  refine ⟨?_, ?_, ?_⟩
  · rw [slice, toNat_extractLsb', upper, Nat.mul_add_mod_of_lt he]
  · rw [slice, toNat_extractLsb', Nat.pow_zero, Nat.div_one, hv, Nat.mul_add_mod_of_lt hfrac]
  · rw [bit, BitVec.getLsbD, Nat.testBit_eq_decide_div_mod_eq, sign]
    cases neg <;> rfl

section

variable {v : Quad} {neg : Bool} {e frac : Nat}

theorem readT_of_fields (hv : v.toNat = (neg.toNat * 2 ^ 11 + e) * 2 ^ 52 + frac) (he : 0 < e ∧ e < 0x7FF)
    (hfrac : frac < 2 ^ 52) : readT v = .finite neg (2 ^ 52 + frac) (e - 1075) := by
  obtain ⟨hexp, hmag, hsign⟩ := fields_of_toNat (by decide) hv (by omega) hfrac
  rw [readT, hexp, hmag, hsign, beq_false_of_ne he.1.ne', beq_false_of_ne he.2.ne, cond_false, cond_false]

theorem readG_of_fields (hv : v.toNat = (neg.toNat * 2 ^ 11 + e) * 2 ^ 52 + frac) (he : 0 < e ∧ e < 2 ^ 11)
    (hfrac : frac < 2 ^ 52) : readG v = .finite neg (2 ^ 52 + frac) (e - 1077) := by
  obtain ⟨hexp, hmag, hsign⟩ := fields_of_toNat (by decide) hv he.2 hfrac
  rw [readG, hexp, hmag, hsign, beq_false_of_ne he.1.ne', cond_false]

theorem readD_of_fields (hv : v.toNat = (neg.toNat * 2 ^ 8 + e) * 2 ^ 55 + frac) (he : 0 < e ∧ e < 2 ^ 8)
    (hfrac : frac < 2 ^ 55) : readD v = .finite neg (2 ^ 55 + frac) (e - 184) := by
  obtain ⟨hexp, hmag, hsign⟩ := fields_of_toNat (by decide) hv he.2 hfrac
  rw [readD, hexp, hmag, hsign, beq_false_of_ne he.1.ne', cond_false]

end

theorem toNat_ofInt_of_lt {n : Nat} {z : Int} (h0 : 0 ≤ z) (h1 : z < 2 ^ n) : (BitVec.ofInt n z).toNat = z.toNat := by
  rw [BitVec.toNat_ofInt, Int.emod_eq_of_lt h0 (by exact_mod_cast h1)]

/-- An encoding with as many fraction bits as its register format. -/
theorem toNat_longFields {n m : Nat} (neg : Bool) {z : Int} {frac : Nat} (h0 : 0 ≤ z) (h1 : z < 2 ^ n)
    (hfrac : frac < 2 ^ m) : (BitVec.ofBool neg ++ BitVec.ofInt n z ++ BitVec.ofNat m frac).toNat =
      (neg.toNat * 2 ^ n + z.toNat) * 2 ^ m + frac := by
  rw [toNat_append_add, toNat_append_add, toNat_ofInt_of_lt h0 h1, BitVec.toNat_ofBool, BitVec.toNat_ofNat,
    Nat.mod_eq_of_lt hfrac]

/-- An encoding of S or F, whose fraction is filled up with zeros. -/
theorem toNat_shortFields (neg : Bool) {z : Int} {frac : Nat} (h0 : 0 ≤ z) (h1 : z < 2 ^ 11) (hfrac : frac < 2 ^ 23) :
    (BitVec.ofBool neg ++ BitVec.ofInt 11 z ++ BitVec.ofNat 23 frac ++ (0 : BitVec 29)).toNat =
      (neg.toNat * 2 ^ 11 + z.toNat) * 2 ^ 52 + frac * 2 ^ 29 := by
  have zeros : (0 : BitVec 29).toNat = 0 := rfl
  rw [toNat_append_add, toNat_longFields neg h0 h1 hfrac, zeros]
  omega

/-- The significant bits, with zeros behind them. -/
theorem significand_mul {m sig k : Nat} {e top p : Int} (hm : m = sig * 2 ^ k) (he : e + k = top - p) :
    (m : ℚ) * 2 ^ e = sig * 2 ^ (top - p) := by
  rw [← he, zpow_add₀ two_ne_zero, zpow_natCast, hm]
  push_cast
  ring

/-- A number within the range of the format, encoded, reads as the number. -/
theorem read_encodeFp (fmt : FpFormat) (neg : Bool) {sig : Nat} {top : Int} (hlow : 2 ^ (fmt.precision - 1) ≤ sig)
    (hhigh : sig < 2 ^ fmt.precision) (hunder : fmt.underflowExp < top) (hover : top ≤ fmt.overflowExp) :
    ∃ m : Nat, ∃ e : Int, fmt.read (encodeFp fmt neg sig top) = .finite neg m e ∧
      (m : ℚ) * 2 ^ e = sig * 2 ^ (top - fmt.precision) := by
  cases fmt with dsimp only [FpFormat.precision, FpFormat.underflowExp, FpFormat.overflowExp] at *
  | s =>
    have fields : encodeFp .s neg sig top =
        BitVec.ofBool neg ++ BitVec.ofInt 11 (top + 1022) ++ BitVec.ofNat 23 (sig - 2 ^ 23) ++ (0 : BitVec 29) := rfl
    rw [fields]
    exact ⟨_, _, readT_of_fields (toNat_shortFields neg (by omega) (by omega) (by omega)) (by omega) (by omega),
      significand_mul (k := 29) (by omega) (by omega)⟩
  | t =>
    have fields : encodeFp .t neg sig top =
        BitVec.ofBool neg ++ BitVec.ofInt 11 (top + 1022) ++ BitVec.ofNat 52 (sig - 2 ^ 52) := rfl
    rw [fields]
    exact ⟨_, _, readT_of_fields (toNat_longFields neg (by omega) (by omega) (by omega)) (by omega) (by omega),
      significand_mul (k := 0) (by omega) (by omega)⟩
  | f =>
    have fields : encodeFp .f neg sig top =
        BitVec.ofBool neg ++ BitVec.ofInt 11 (top + 1024) ++ BitVec.ofNat 23 (sig - 2 ^ 23) ++ (0 : BitVec 29) := rfl
    rw [fields]
    exact ⟨_, _, readG_of_fields (toNat_shortFields neg (by omega) (by omega) (by omega)) (by omega) (by omega),
      significand_mul (k := 29) (by omega) (by omega)⟩
  | g =>
    have fields : encodeFp .g neg sig top =
        BitVec.ofBool neg ++ BitVec.ofInt 11 (top + 1024) ++ BitVec.ofNat 52 (sig - 2 ^ 52) := rfl
    rw [fields]
    exact ⟨_, _, readG_of_fields (toNat_longFields neg (by omega) (by omega) (by omega)) (by omega) (by omega),
      significand_mul (k := 0) (by omega) (by omega)⟩
  | d =>
    have fields : encodeFp .d neg sig top =
        BitVec.ofBool neg ++ BitVec.ofInt 8 (top + 128) ++ BitVec.ofNat 55 (sig - 2 ^ 55) := rfl
    rw [fields]
    exact ⟨_, _, readD_of_fields (toNat_longFields neg (by omega) (by omega) (by omega)) (by omega) (by omega),
      significand_mul (k := 0) (by omega) (by omega)⟩

theorem roundResult_of_ne {fmt : FpFormat} {mode : Rounding} {ineEn : Bool} {x : Exact} (hnum : x.num ≠ 0) :
    let r := roundTo fmt.precision mode x
    let top := r.exp + fmt.precision
    roundResult fmt mode ineEn x =
      if fmt.overflowExp < top then .free (Exc.ovf ||| Exc.when ineEn Exc.ine)
      else if top ≤ fmt.underflowExp then .value 0 (Exc.unf ||| Exc.when ineEn Exc.ine)
      else .value (encodeFp fmt x.neg r.sig top) (Exc.when r.inexact Exc.ine) := by
  rw [roundResult, beq_false_of_ne hnum, cond_false]
  simp only [Bool.cond_decide]

theorem Exc.when_eq (b : Bool) (e : Exc) : Exc.when b e = if b = true then e else 0 := Bool.cond_eq_ite ..

theorem FpFormat.two_le_precision (fmt : FpFormat) : 2 ≤ fmt.precision := by
  cases fmt <;> decide

theorem FpFormat.underflowExp_lt (fmt : FpFormat) : fmt.underflowExp < fmt.overflowExp := by
  cases fmt <;> decide

/-- A number that is not zero: its range, and what is written of it. -/
theorem roundResult_ranges (fmt : FpFormat) (mode : Rounding) (ineEn : Bool) (x : Exact) (hnum : x.num ≠ 0)
    (hden : x.den ≠ 0) :
    let r := roundTo fmt.precision mode x
    ((2 : ℚ) ^ fmt.overflowExp ≤ r.magnitude →
        roundResult fmt mode ineEn x = .free (Exc.ovf ||| Exc.when ineEn Exc.ine)) ∧
      (r.magnitude < (2 : ℚ) ^ fmt.underflowExp →
        roundResult fmt mode ineEn x = .value 0 (Exc.unf ||| Exc.when ineEn Exc.ine)) ∧
      (r.magnitude < (2 : ℚ) ^ fmt.overflowExp → (2 : ℚ) ^ fmt.underflowExp ≤ r.magnitude →
        ∃ v, roundResult fmt mode ineEn x = .value v (Exc.when r.inexact Exc.ine) ∧
          fmt.read v ≠ .nonfinite ∧ (fmt.read v).rational = signOf x.neg * r.magnitude) := by
  have hresult := roundResult_of_ne (fmt := fmt) (mode := mode) (ineEn := ineEn) hnum
  obtain ⟨-, -, -, -, -, -, -, low, high, -⟩ := roundTo_rounds mode fmt.two_le_precision hnum hden
  have limit := le_magnitude_iff (by have := fmt.two_le_precision; omega) low high
  have limits := fmt.underflowExp_lt
  dsimp only at hresult ⊢
  rw [hresult]
  generalize roundTo fmt.precision mode x = r at low high limit ⊢
  have beneath (e : Int) : r.magnitude < (2 : ℚ) ^ e ↔ r.exp + fmt.precision ≤ e := by rw [← not_le, limit, not_lt]
  simp only [limit, beneath]
  refine ⟨fun above => if_pos above, fun below => ?_, fun notAbove notBelow => ?_⟩
  · rw [if_neg (by omega), if_pos below]
  · obtain ⟨m, e, hread, hvalue⟩ := read_encodeFp fmt x.neg low high notBelow notAbove
    refine ⟨_, by rw [if_neg (not_lt.mpr notAbove), if_neg (not_le.mpr notBelow)], ?_, ?_⟩
    · rw [hread]
      exact FpOperand.noConfusion
    · rw [hread, FpOperand.rational_eq]
      show signOf x.neg * m * 2 ^ e = _
      rw [mul_assoc, hvalue, add_sub_cancel_right]
      rfl

/-! ### Conversion to a quadword (R746 step 4) -/

namespace Rounds

variable {mode : Rounding} {neg : Bool} {y : ℚ} {q n : Nat}

theorem floor_eq (h : Rounds mode neg 1 y q n) (hn : n = q) : (n : Int) = ⌊y⌋ := by
  have lower := h.lower
  have upper := h.upper
  rw [mul_one] at lower upper
  rw [hn, eq_comm, Int.floor_eq_iff]
  exact ⟨by exact_mod_cast lower, by exact_mod_cast upper⟩

theorem ceil_eq (h : Rounds mode neg 1 y q n) (hn : y ≠ q * 1 → n = q + 1) : (n : Int) = ⌈y⌉ := by
  by_cases same : y = q * 1
  · rw [h.kept same, same, mul_one, Int.ceil_natCast]
  · have lower := lt_of_le_of_ne h.lower (Ne.symm same)
    have upper := h.upper
    rw [mul_one] at lower upper
    rw [hn same, eq_comm, Int.ceil_eq_iff]
    push_cast
    exact ⟨by linarith, by linarith⟩

/-- The nearest modes are at most half a unit off; exactly half a unit off only in a tie. -/
theorem abs_sub_le_half (h : Rounds mode neg 1 y q n) (hmode : mode = .nearest ∨ mode = .away) :
    |(n : ℚ) - y| ≤ 1 / 2 ∧ (|(n : ℚ) - y| = 1 / 2 → 2 * (y - q * 1) = 1) := by
  rcases h.closer hmode with ⟨_, dist, close⟩ | ⟨_, dist, close⟩
  all_goals
    rw [mul_one] at dist
    rw [dist]
    exact ⟨by linarith, fun half => by linarith⟩

end Rounds

/-- An integer with the sign of a number. -/
def signedInt (neg : Bool) (n : Nat) : Int := bif neg then -(n : Int) else n

theorem signedInt_cast (neg : Bool) (n : Nat) : (signedInt neg n : ℚ) = signOf neg * n := by
  cases neg <;> simp [signedInt, signOf]

theorem abs_signOf (neg : Bool) : |signOf neg| = 1 := by
  cases neg <;> simp [signOf]

theorem Exact.rational_eq_magnitude (x : Exact) : x.rational = signOf x.neg * x.magnitude := rfl

/-- The integer is as far from the number as its magnitude is from that of the number. -/
theorem signedInt_sub (x : Exact) (n : Nat) : |(signedInt x.neg n : ℚ) - x.rational| = |(n : ℚ) - x.magnitude| := by
  rw [signedInt_cast, x.rational_eq_magnitude, ← mul_sub, abs_mul, abs_signOf, one_mul]

theorem signedInt_even {neg : Bool} {n : Nat} (h : n % 2 = 0) : signedInt neg n % 2 = 0 := by
  cases neg with
  | true =>
    show -(n : Int) % 2 = 0
    omega
  | false =>
    show (n : Int) % 2 = 0
    omega

theorem integerResult_rounds (mode : Rounding) (x : Exact) (hden : x.den ≠ 0) :
    ∃ q n : Nat, Rounds mode x.neg 1 x.magnitude q n ∧ integerResult mode x = .value (BitVec.ofInt 64 (signedInt x.neg n))
      (if outside 64 (signedInt x.neg n) = true then Exc.iov ||| Exc.ine
       else if (signedInt x.neg n : ℚ) = x.rational then 0 else Exc.ine) := by
  obtain ⟨q, hround, hinexact⟩ := roundAt_rounds mode x x.exp hden
  rw [Int.sub_self, zpow_zero] at hround hinexact
  have same : (signedInt x.neg (roundAt mode x x.exp).sig : ℚ) = x.rational ↔ ¬(roundAt mode x x.exp).inexact = true := by
    rw [← sub_eq_zero, ← abs_eq_zero, signedInt_sub, abs_eq_zero, sub_eq_zero, hinexact, not_ne_iff, ← hround.exact_iff,
      mul_one]
  refine ⟨q, _, hround, ?_⟩
  show FpResult.value (BitVec.ofInt 64 (signedInt x.neg (roundAt mode x x.exp).sig))
    (bif outside 64 (signedInt x.neg (roundAt mode x x.exp).sig) then Exc.iov ||| Exc.ine
     else Exc.when (roundAt mode x x.exp).inexact Exc.ine) = _
  rw [Bool.cond_eq_ite, Exc.when_eq]
  simp only [same, ite_not]

section

variable {x : Exact} {q n : Nat}

/-- The integers below and above a number, by those of its magnitude. -/
theorem signedInt_floor (hn : (n : Int) = if x.neg = true then ⌈x.magnitude⌉ else ⌊x.magnitude⌋) :
    signedInt x.neg n = ⌊x.rational⌋ := by
  rw [signedInt, hn, x.rational_eq_magnitude]
  cases x.neg with
  | true =>
    show -⌈x.magnitude⌉ = ⌊-1 * x.magnitude⌋
    rw [neg_one_mul, Int.floor_neg]
  | false =>
    show ⌊x.magnitude⌋ = ⌊1 * x.magnitude⌋
    rw [one_mul]

theorem signedInt_ceil (hn : (n : Int) = if x.neg = true then ⌊x.magnitude⌋ else ⌈x.magnitude⌉) :
    signedInt x.neg n = ⌈x.rational⌉ := by
  rw [signedInt, hn, x.rational_eq_magnitude]
  cases x.neg with
  | true =>
    show -⌊x.magnitude⌋ = ⌈-1 * x.magnitude⌉
    rw [neg_one_mul, Int.ceil_neg]
  | false =>
    show ⌈x.magnitude⌉ = ⌈1 * x.magnitude⌉
    rw [one_mul]

theorem signedInt_minusInf (h : Rounds .minusInf x.neg 1 x.magnitude q n) : signedInt x.neg n = ⌊x.rational⌋ := by
  refine signedInt_floor ?_
  split
  next neg => exact h.ceil_eq fun hne => h.eq_of_takesUp ⟨neg, sub_ne_zero.mpr hne⟩
  next pos => exact h.floor_eq (h.eq_of_stays fun takes => pos takes.1)

theorem signedInt_plusInf (h : Rounds .plusInf x.neg 1 x.magnitude q n) : signedInt x.neg n = ⌈x.rational⌉ := by
  refine signedInt_ceil ?_
  split
  next neg => exact h.floor_eq (h.eq_of_stays fun takes => Bool.false_ne_true (takes.1.symm.trans neg))
  next pos => exact h.ceil_eq fun hne => h.eq_of_takesUp ⟨Bool.eq_false_of_not_eq_true pos, sub_ne_zero.mpr hne⟩

theorem signedInt_chop (h : Rounds .chop x.neg 1 x.magnitude q n) :
    signedInt x.neg n = if 0 ≤ x.rational then ⌊x.rational⌋ else ⌈x.rational⌉ := by
  have nonneg : 0 ≤ x.magnitude := (mul_nonneg (Nat.cast_nonneg q) zero_le_one).trans h.lower
  have floor := h.floor_eq (h.eq_of_stays id)
  have hx := x.rational_eq_magnitude
  cases hneg : x.neg with
  | true =>
    have ceil : signedInt x.neg n = ⌈x.rational⌉ := signedInt_ceil (by rw [if_pos hneg, floor])
    rw [← hneg, ceil]
    split
    next zero =>
      have hzero : x.rational = 0 := by
        rw [hneg, signOf, if_pos rfl] at hx
        linarith
      rw [hzero, Int.ceil_zero, Int.floor_zero]
    next => rfl
  | false =>
    have pos : 0 ≤ x.rational := by
      rw [hneg, signOf, if_neg Bool.false_ne_true, one_mul] at hx
      rwa [hx]
    rw [if_pos pos, ← hneg]
    exact signedInt_floor (by rw [hneg, if_neg Bool.false_ne_true, floor])

end

/-- Settles O47: the limits are tests of the exponent, the fields that are encoded are those that are read, and an integer
is the end of a cell of size 1. -/
theorem rangeChecksAndEncoding : Obligations.RangeChecksAndEncoding := by
  refine ⟨fun fmt mode ineEn x hnum hden => ?ranges, fun fmt mode ineEn x hnum => ?zero, fun mode x hden => ?integer⟩
  case ranges =>
    intro r extra back
    have hback : back = fmt.read := by cases fmt <;> rfl
    rw [hback, ← Exc.when_eq r.inexact]
    have hextra : extra = Exc.when ineEn Exc.ine := (Exc.when_eq ..).symm
    rw [hextra]
    exact roundResult_ranges fmt mode ineEn x hnum hden
  case zero =>
    rw [roundResult, hnum]
    have hzero : encodeZero fmt x.neg = if x.neg = true ∧ (fmt = .s ∨ fmt = .t) then 0x8000000000000000 else 0 := by
      cases x.neg <;> cases fmt <;> rfl
    rw [← hzero]
    rfl
  case integer =>
    obtain ⟨q, n, hround, hresult⟩ := integerResult_rounds mode x hden
    have hout : outside 64 (signedInt x.neg n) = true ↔ signedInt x.neg n < -2 ^ 63 ∨ 2 ^ 63 ≤ signedInt x.neg n := by
      rw [outside, Bool.or_eq_true, decide_eq_true_iff, decide_eq_true_iff]
    refine ⟨signedInt x.neg n, ?_, ?_⟩
    · rw [hresult]
      simp only [hout]
    · intro near tied
      cases mode with
      | chop => exact signedInt_chop hround
      | minusInf => exact signedInt_minusInf hround
      | plusInf => exact signedInt_plusInf hround
      | nearest =>
        obtain ⟨half, tie⟩ := hround.abs_sub_le_half (.inl rfl)
        rw [← signedInt_sub] at half tie
        exact ⟨half, fun ht => signedInt_even (hround.even_of_tie (tie ht))⟩
      | away =>
        obtain ⟨half, tie⟩ := hround.abs_sub_le_half (.inr rfl)
        rw [← signedInt_sub] at half tie
        refine ⟨half, fun ht => ?_⟩
        have lower := hround.lower
        have upper := hround.upper
        rw [mul_one] at lower upper
        rw [signedInt_cast, x.rational_eq_magnitude, abs_mul, abs_mul, abs_signOf, one_mul, one_mul, Nat.abs_cast,
          hround.away_of_tie (tie ht), abs_of_nonneg ((Nat.cast_nonneg q).trans lower)]
        exact_mod_cast upper

end Sys2Proof.Machine

/-! # Barriers and hints -/

namespace Sys2Proof.Machine

/-! ### An owed ARITH entry (60_exceptions.md R971) -/

theorem takeArith_eq_enteredAt (s : State) : takeArith s = enteredAt .arith 0x500 { s with arithPending := false } :=
  enterPal_eq_enteredAt .arith rfl { s with arithPending := false }

theorem afterArith_spec (s : State) (k : State → Result State) :
    (s.arithPending = false → afterArith s k = k s) ∧
      (s.arithPending = true → afterArith s k = .next (enteredAt .arith 0x500 { s with arithPending := false })) := by
  refine ⟨fun clear => ?_, fun owed => ?_⟩
  · rw [afterArith, clear, cond_false]
  · rw [afterArith, owed, cond_true, takeArith_eq_enteredAt]

/-! ### What advances and changes nothing else -/

theorem onlyAdvanced_advance {s t : State} (lock : keepsLock s t)
    (frame : { t with memsys := s.memsys, lockFlag := s.lockFlag, model := s.model } = s) : onlyAdvanced s t.advance := by
  have pc : t.pc = s.pc := by rw [← frame]
  refine ⟨congrArg (· + 4) pc, lock, ?_⟩
  rw [pc] at frame
  exact frame

/-! ### MB (20_memory.md R341) -/

namespace MemSys

theorem maf_eq_nil_iff (m : MemSys) : m.maf = [] ↔ m.targets = [] := List.map_eq_nil_iff.symm

/-- Each load that is left would stand for one of the loads before, all of which return. -/
theorem returnAll_maf (c : CacheCfg) (m : MemSys) : (m.returnAll c).maf = [] := by
  refine List.filter_eq_nil_iff.mpr fun e mem stays => ?_
  have before : e.target ∈ m.targets := issueThrough_targets c _ m ▸ List.mem_map_of_mem mem
  obtain ⟨x, hx, same⟩ := List.mem_map.mp before
  have returns : (m.maf.any fun y => y.block == e.block) = true :=
    List.any_eq_true.mpr ⟨x, hx, beq_iff_eq.mpr (MafEntry.block_of_target same)⟩
  simp only [Bool.true_and, returns, Bool.not_true, Bool.false_and, Bool.or_self, Bool.false_eq_true] at stays

theorem sendAll_maf (c : CacheCfg) {m : MemSys} (h : m.maf = []) : (m.sendAll c).maf = [] := by
  rw [maf_eq_nil_iff] at h ⊢
  exact (sendOldest_targets c _ m).trans h

theorem barrier_maf (tell : Bool) (c : CacheCfg) (m : MemSys) : (m.barrier tell c).maf = [] :=
  sendAll_maf c (m.returnAll_maf c)

theorem barrier_wb (tell : Bool) (c : CacheCfg) (m : MemSys) : (m.barrier tell c).wb = [] := sendAll_wb c _

/-- The system is told after everything else that MB drives. -/
theorem barrier_lastCommand (c : CacheCfg) (m : MemSys) :
    ((m.barrier true c).caches.bus.commands.map (·.command)).getLast? = some .memoryBarrier := by
  change ((_ ++ [_]).map BusCycle.command).getLast? = _
  rw [List.map_append, List.map_singleton, List.getLast?_concat]

end MemSys

/-! ### FETCH and FETCH_M (21_external_interface.md R406) -/

/-- Only stores merge. -/
theorem mergeLast_of_not_store {new : WbEntry} (kind : new.kind ≠ .store) : ∀ l : List WbEntry, mergeLast new l = none
  | [] => rfl
  | e :: rest => by
    have refused : new.accepts e = false := by
      simp only [WbEntry.accepts, beq_eq_false_iff_ne.mpr kind, Bool.false_and]
    rw [mergeLast, mergeLast_of_not_store kind rest, refused, cond_false, Option.map_none, Bool.cond_self]

/-- What is no store gets an entry of its own, the last one; only its WMB flag is set on the way. -/
theorem MemSys.enter_getLast {new : WbEntry} (kind : new.kind ≠ .store) (c : CacheCfg) (m : MemSys) :
    ∃ wmb, (m.enter c new).wb.getLast? = some { new with wmb := wmb } := by
  rw [enter, mergeLast_of_not_store kind]
  exact ⟨_, List.getLast?_concat⟩

theorem State.hinted_eq_withMemSys (s : State) (kind : WriteKind) (va : Quad) :
    ∃ f k, s.hinted kind va = { s.withMemSys f with model := k } := ⟨_, _, rfl⟩

theorem State.hinted_keepsLock (s : State) (kind : WriteKind) (va : Quad) : keepsLock s (s.hinted kind va) := by
  obtain ⟨f, k, changed⟩ := s.hinted_eq_withMemSys kind va
  rw [changed]
  exact s.withMemSys_lockKept f

/-- The reference of a hint. -/
def hintRef (va : Quad) : DRef := { write := false, size := 1, va := va, ra := 31, opcode := 0x18 }

/-- The entry that a hint with a known physical address sends. -/
def State.hintEntry (s : State) (kind : WriteKind) (pa : PAddr) : WbEntry :=
  { kind := kind, addr := s.busAddress pa, bytes := 0, data := 0, lanes := allLanes, noMerge := true, wmb := false
    before := [] }

theorem State.hinted_memsys {s : State} {va : Quad} {pa : PAddr} (h : s.translate (hintRef va) = .ok pa)
    (kind : WriteKind) : (s.hinted kind va).memsys =
      bif inCbu pa then s.memsys else s.memsys.enter s.cacheCfg (s.hintEntry kind pa) := by
  unfold State.hinted
  rw [hintRef] at h
  simp only [h]
  rfl

theorem prefetchHint_next {kind : WriteKind} {rb : Reg} {s : State} (quiet : s.model.cbuStore = false) :
    prefetchHint kind rb s = .next (s.hinted kind (s.readReg rb)).advance := by
  rw [prefetchHint, quiet, cond_false, State.done]

/-- What a hint does: it stops between a store to a CBU control register and its MB, and else enters the write buffer. -/
theorem prefetchHint_spec {i : Instr} {kind : WriteKind} {rb : Reg} {s : State} (hi : exec i s = prefetchHint kind rb s)
    (hkind : kind ≠ .store) :
    (s.model.cbuStore = true → exec i s = .refused .cbuOrder) ∧
    (s.model.cbuStore = false → ∃ t, exec i s = .next t ∧ onlyAdvanced s t ∧
      (∀ pa, s.translate (hintRef (s.readReg rb)) = .ok pa → inCbu pa = false →
        ∃ e, t.memsys.wb.getLast? = some e ∧ e.kind = kind ∧ e.addr = s.onBus pa) ∧
      (∀ pa, s.translate (hintRef (s.readReg rb)) = .ok pa → inCbu pa = true → t.memsys = s.memsys)) := by
  rw [hi]
  refine ⟨fun unbarriered => ?stops, fun quiet => ⟨_, prefetchHint_next quiet, onlyAdvanced_advance
    (s.hinted_keepsLock ..) rfl, fun pa known outside => ?enters, fun pa known inside => ?sendsNothing⟩⟩
  case stops => rw [prefetchHint, unbarriered, cond_true]
  case enters =>
    obtain ⟨wmb, last⟩ := MemSys.enter_getLast (new := s.hintEntry kind pa) hkind s.cacheCfg s.memsys
    refine ⟨{ s.hintEntry kind pa with wmb := wmb }, ?_, rfl, busAddress_eq_onBus s pa⟩
    rw [State.advance_memsys, State.hinted_memsys known, outside, cond_false, last]
  case sendsNothing => rw [State.advance_memsys, State.hinted_memsys known, inside, cond_true]

/-- Settles O33: the barriers and the hints, each from what it does to the memory system. -/
theorem barriersAndHints : Obligations.BarriersAndHints := by
  refine ⟨fun i s hi => ?trapBarriers, fun s => ?mb, fun s => ?wmb, fun p hp rb s => ?hints⟩
  case trapBarriers =>
    rcases hi with rfl | rfl
    · exact afterArith_spec s State.done
    · exact afterArith_spec s State.done
  case mb =>
    refine ⟨s.barrier.advance, rfl, onlyAdvanced_advance (s.withMemSys_lockKept _) rfl, MemSys.barrier_wb ..,
      MemSys.barrier_maf .., rfl, fun told => ?_⟩
    have tells : s.barrier.memsys = s.memsys.barrier true s.cacheCfg := told ▸ rfl
    rw [State.advance_memsys, tells]
    exact s.memsys.barrier_lastCommand s.cacheCfg
  case wmb =>
    have advances : onlyAdvanced s { s with memsys := s.memsys.writeBarrier }.advance :=
      onlyAdvanced_advance (t := { s with memsys := s.memsys.writeBarrier }) ⟨fun _ => rfl, id⟩ rfl
    refine ⟨_, rfl, advances, List.length_map .., fun e mem => ?_, rfl⟩
    obtain ⟨_, -, rfl⟩ := List.mem_map.mp mem
    rfl
  case hints =>
    simp only [List.mem_cons, List.not_mem_nil, or_false] at hp
    rcases hp with rfl | rfl
    · exact prefetchHint_spec rfl (by decide)
    · exact prefetchHint_spec rfl (by decide)

end Sys2Proof.Machine

/-! # CALL_PAL and HW_REI -/

namespace Sys2Proof.Machine

/-! ### CALL_PAL (48_palcode.md R920) -/

/-- The functions that CALL_PAL carries out: privileged ones in kernel mode, and unprivileged ones. -/
theorem callPalIllegal_eq_false_iff (fn : BitVec 26) (s : State) : callPalIllegal fn s.kernel = false ↔
    (fn.toNat < 0x40 ∧ s.idu.icm = 0) ∨ (0x80 ≤ fn.toNat ∧ fn.toNat ≤ 0xBF) := by
  have kernel : s.kernel = true ↔ s.idu.icm = 0 := beq_iff_eq
  rw [← kernel, ← Bool.not_eq_true]
  simp only [callPalIllegal, BitVec.ule, BitVec.ult, Bool.or_eq_true, Bool.and_eq_true, decide_eq_true_eq, Bool.not_eq_true']
  cases s.kernel <;> simp <;> omega

theorem toNat_callPalOffset (fn : BitVec 26) :
    (callPalOffset fn).toNat = 0x2000 + fn.toNat / 2 ^ 7 % 2 * 0x1000 + fn.toNat % 0x40 * 0x40 := by
  have marker : (1 : BitVec 1).toNat = 1 := rfl
  have zeros : (0 : BitVec 6).toNat = 0 := rfl
  rw [callPalOffset, toNat_append_add, toNat_append_add, toNat_append_add, toNat_extractLsb', toNat_extractLsb', marker, zeros]
  omega

/-- The entry of a permitted function: two blocks, of 64 entries each. -/
theorem toNat_callPalOffset_permitted {fn : BitVec 26} (h : fn.toNat < 0x40 ∨ (0x80 ≤ fn.toNat ∧ fn.toNat ≤ 0xBF)) :
    (callPalOffset fn).toNat = (if fn.toNat < 0x80 then 0x2000 else 0x3000) + 0x40 * (fn.toNat % 0x40) := by
  rw [toNat_callPalOffset]
  split <;> omega

/-- pc + 4 has the PALmode bit of pc, so that EXC_ADDR receives it but for bit 1. -/
theorem savedPc_next (pc : Quad) : savedPc (pc + 4) pc = (pc + 4) &&& ~~~2 := by
  have four : (4 : Quad).toNat = 4 := rfl
  rw [← savedPc_self]
  apply BitVec.eq_of_toNat_eq
  rw [toNat_savedPc, toNat_savedPc, BitVec.toNat_add, four]
  omega

/-- The entry of CALL_PAL differs from the others in its return address. -/
theorem enterPal_callPal {off : BitVec 14} (even : off.getLsbD 0 = false) (s : State) :
    enterPal .callPal (s.pc + 4) off s =
      { enteredAt .callPal off.toNat s with idu := { s.idu with excAddr := (s.pc + 4) &&& ~~~2 } } := by
  rw [← savedPc_next, ← enterPal_eq_enteredAt .callPal even]
  rfl

/-- Settles O35. -/
theorem callPalEntersPalcode : Obligations.CallPalEntersPalcode := by
  intro fn s permitted
  obtain ⟨notOwed, owed⟩ :=
    afterArith_spec s fun s => bif callPalIllegal fn s.kernel then raise .opcdec s
      else .next (enterPal .callPal (s.pc + 4) (callPalOffset fn) s)
  refine ⟨owed, fun clear forbidden => ?raises, fun clear allowed => ?enters⟩
  case raises =>
    have illegal : callPalIllegal fn s.kernel = true :=
      Bool.eq_true_of_not_eq_false (mt (callPalIllegal_eq_false_iff fn s).mp forbidden)
    exact (notOwed clear).trans (by rw [illegal]; exact (raise_spec .opcdec s).1 clear)
  case enters =>
    have even : (callPalOffset fn).getLsbD 0 = false := by simp only [callPalOffset, BitVec.getLsbD_append]; rfl
    rw [← toNat_callPalOffset_permitted (allowed.imp_left And.left), ← enterPal_callPal even]
    exact (notOwed clear).trans (by rw [(callPalIllegal_eq_false_iff fn s).mpr allowed]; rfl)

/-! ### HW_REI (R912, R913) -/

theorem returnFromPal_eq (s : State) : returnFromPal s = { s with pc := s.idu.excAddr &&& ~~~2 } := by
  rw [returnFromPal, savedPc_self, State.setPc]

/-- The PALcode-only opcodes raise OPCDEC where they are not allowed (R930). -/
theorem whenPal_forbidden {s : State} (k : State → Result State) (h : s.palOpcodeAllowed = false) :
    whenPal k s = raise .opcdec s := by
  rw [whenPal, h, cond_false]

theorem leavePal_native {s : State} (allowed : s.palOpcodeAllowed = true) (native : s.palmode = false) :
    leavePal 0 s = .next (returnFromPal s) := by
  rw [leavePal, whenPal_allowed allowed, bne_self_eq_false, cond_false, native, cond_false]

theorem leavePal_palmode {s : State} (allowed : s.palOpcodeAllowed = true) (pal : s.palmode = true) :
    leavePal 0 s = afterArith s fun s => .next (returnFromPal s) := by
  rw [leavePal, whenPal_allowed allowed, bne_self_eq_false, cond_false, pal, cond_true]

/-- Settles O36: HW_REI and HW_REI_STALL are the same `leavePal`. -/
theorem hwReiReturns : Obligations.HwReiReturns := by
  intro i s form
  have run : exec i s = leavePal 0 s := by rcases form with rfl | rfl <;> rfl
  obtain ⟨notOwed, owed⟩ := afterArith_spec s fun s => .next (returnFromPal s)
  unfold raises
  rw [run]
  refine ⟨fun allowed => ⟨fun free => ?returns, fun pal pending => ?delivers⟩, fun forbidden => ?raises⟩
  case returns =>
    rw [← returnFromPal_eq]
    cases mode : s.palmode with
    | false => exact leavePal_native allowed mode
    | true =>
      have clear := free.resolve_left (mode ▸ Bool.true_eq_false.mp)
      exact (leavePal_palmode allowed mode).trans (notOwed clear)
  case delivers => exact (leavePal_palmode allowed pal).trans (owed pending)
  case raises =>
    rw [leavePal, whenPal_forbidden _ forbidden]
    exact raise_spec .opcdec s

end Sys2Proof.Machine

/-! # HW_LD and HW_ST -/

namespace Sys2Proof.Machine

/-! ### What a load writes (48_palcode.md R932) -/

theorem wrapped_long (n : Nat) : wrapped 32 n = sextLong (BitVec.ofNat 64 n) := by
  have low : (BitVec.ofNat 64 n).setWidth 32 = BitVec.ofNat 32 n := BitVec.setWidth_ofNat_of_le (by decide) n
  rw [wrapped, BitVec.ofInt_natCast, sextLong, low]

theorem wrapped_quad (n : Nat) : wrapped 64 n = BitVec.ofNat 64 n := by
  rw [wrapped, BitVec.ofInt_natCast, BitVec.signExtend_eq]

/-- HW_LD writes the longword sign-extended, or the quadword. -/
theorem wrapped_hwLd (quad : Bool) (n : Nat) : wrapped (if quad = true then 64 else 32) n =
    bif quad then BitVec.ofNat 64 n else sextLong (BitVec.ofNat 64 n) := by
  cases quad with
  | true => exact wrapped_quad n
  | false => exact wrapped_long n

theorem hwSize_mem (quad : Bool) : hwSize quad ∈ [1, 2, 4, 8] := by cases quad <;> decide

theorem hwSize_le (quad : Bool) : hwSize quad ≤ 8 := by cases quad <;> decide

section
variable {s : State} {r : DRef} {pa : PAddr}

/-! ### The low address bits that they ignore (20_memory.md R305) -/

/-- HW_LD and HW_ST go to an aligned physical address, whether they are translated or not. -/
theorem State.translate_aligned_hw (hw : r.hw = true) (hsize : r.size ∈ [1, 2, 4, 8]) (h : s.translate r = .ok pa) :
    pa.toNat % r.size = 0 := by
  cases phys : r.phys with
  | false => exact State.translate_aligned phys hsize h
  | true =>
    rw [State.translate, phys, cond_true, State.bigEndianPa_eq, superpage1_eq, DRef.paOf_ofNat hsize (.inl hw)] at h
    obtain rfl := Translation.ok.inj h
    simp only [List.mem_cons, List.not_mem_nil, or_false] at hsize
    have base : (BitVec.ofNat 40 (r.va.toNat / r.size * r.size)).toNat % r.size = 0 := by
      rw [BitVec.toNat_ofNat]
      rcases hsize with size | size | size | size <;> rw [size] <;> omega
    split
    next swapped =>
      rw [swapped.2] at base ⊢
      rw [BitVec.toNat_xor]
      exact (Nat.xor_mod_two_pow (n := 2)).trans (by rw [base]; rfl)
    next => exact (congrArg (fun x : PAddr => x.toNat % r.size) BitVec.xor_zero).trans base

/-- The bytes of HW_ST are in one block of 32 bytes. -/
theorem onBus_in_block_hw (hw : r.hw = true) (hsize : r.size ∈ [1, 2, 4, 8]) (h : s.translate r = .ok pa) :
    (s.onBus pa).toNat % 32 + r.size ≤ 32 := by
  have aligned := State.translate_aligned_hw hw hsize h
  have low := onBus_low s pa
  simp only [List.mem_cons, List.not_mem_nil, or_false] at hsize
  rcases hsize with size | size | size | size
  all_goals
    rw [size] at aligned ⊢
    omega

/-- An instruction that is the store of its reference, where that is HW_ST's. -/
theorem storeWrites_of_exec_hw {i : Instr} {v : Quad} (write : r.write = true) (hw : r.hw = true)
    (hsize : r.size ∈ [1, 2, 4, 8]) (hi : exec i s = store r v State.done s) : storeWrites i s r pa v := by
  intro reached
  have next : exec i s = .next (s.dcacheStore r (s.onBus pa) (s.stored r.size (s.onBus pa) v)).advance := by
    rw [hi, store, translated_ok reached.1, storeAt_reached write v reached]
    rfl
  obtain ⟨e, mem, block, bytes⟩ := stored_holds s r.size (s.onBus pa) v
  refine ⟨_, next, stored_onlyMemory .., fun wf x => s.stored_byte r.size (s.onBus pa) v x wf, e, mem,
    block ▸ s.wbEntryOf_block .., fun j hj => bytes _ (bytesAt_bit hj (onBus_in_block_hw hw hsize reached.1))⟩

end

/-! ### The obligation -/

/-- Settles O37: what the references do, without LOCK and with it, without COND and with it. -/
theorem hwLoadAndStoreResults : Obligations.HwLoadAndStoreResults := by
  constructor
  case left =>
    intro ra rb phys alt wrtck quad vpte lock disp s pa r a allowed reached t
    have ref : r = hwLoadRef ra rb phys alt wrtck quad vpte lock disp s := by rw [hwLoadRef, hwSize_eq]; rfl
    clear_value r
    subst ref
    cases lock with
    | false =>
      rw [exec_hwLd allowed, load_reached rfl (hwSize_le quad) reached, wrapped_hwLd]
      rfl
    | true =>
      rw [exec_hwLd_lock allowed, loadLocked_reached rfl (hwSize_le quad) reached, loaded_locks, wrapped_hwLd]
      dsimp only [t]
      cases s.mtu.mafMode.getLsbD 5 <;> rfl
  case right =>
    intro ra rb phys alt quad disp s pa r allowed
    have ref : r = hwStoreRef ra rb phys alt quad disp s := by rw [hwStoreRef, hwSize_eq]; rfl
    clear_value r
    subst ref
    exact ⟨storeWrites_of_exec_hw rfl rfl (hwSize_mem quad) (exec_hwSt allowed),
      conditionalWrites_of_exec (exec_hwSt_cond allowed)⟩

end Sys2Proof.Machine

/-! # What HW_MFPR reads -/

namespace Sys2Proof.Machine

/-! ### Fields side by side as numbers -/

/-- The quadword is a number, which lies below bit k. -/
def IsNumber (v : Quad) (k x : Nat) : Prop := v.toNat = x ∧ x < 2 ^ k

section
variable {n k x : Nat} {v : Quad}

theorem isNumber_place (f : BitVec n) {lo : Nat} (fits : lo + n ≤ 64 := by decide) :
    IsNumber (place f lo) (lo + n) (f.toNat * 2 ^ lo) := by
  have small : f.toNat * 2 ^ lo < 2 ^ (lo + n) := by
    rw [Nat.add_comm, Nat.pow_add]
    exact Nat.mul_lt_mul_of_pos_right f.isLt (Nat.two_pow_pos lo)
  have wide : f.toNat < 2 ^ 64 := f.isLt.trans_le (Nat.pow_le_pow_right (by decide) (by omega))
  refine ⟨?_, small⟩
  rw [place, BitVec.toNat_shiftLeft, BitVec.toNat_setWidth, Nat.mod_eq_of_lt wide, Nat.shiftLeft_eq,
    Nat.mod_eq_of_lt (small.trans_le (Nat.pow_le_pow_right (by decide) fits))]

theorem toNat_place (f : BitVec n) {lo : Nat} (fits : lo + n ≤ 64 := by decide) : (place f lo).toNat = f.toNat * 2 ^ lo :=
  (isNumber_place f fits).1

/-- A field above the others is added. -/
theorem IsNumber.or (h : IsNumber v k x) (f : BitVec n) {lo : Nat} (above : k ≤ lo := by decide)
    (fits : lo + n ≤ 64 := by decide) : IsNumber (v ||| place f lo) (lo + n) (x + f.toNat * 2 ^ lo) := by
  obtain ⟨rfl, lt⟩ := h
  obtain ⟨field, small⟩ := isNumber_place f fits
  have below : v.toNat < 2 ^ lo := lt.trans_le (Nat.pow_le_pow_right (by decide) above)
  have sum : (v ||| place f lo).toNat = v.toNat + f.toNat * 2 ^ lo := by
    rw [BitVec.toNat_or, field, Nat.or_comm, Nat.mul_comm, ← Nat.two_pow_add_eq_or_of_lt below, Nat.add_comm]
  refine ⟨sum, ?_⟩
  have room : f.toNat * 2 ^ lo + 2 ^ lo ≤ 2 ^ (lo + n) := by
    rw [← Nat.succ_mul, Nat.add_comm lo, Nat.pow_add]
    exact Nat.mul_le_mul_right _ f.isLt
  omega

end

/-- A single bit in its place. -/
theorem toNat_ofBool_mul (b : Bool) (k : Nat) : (BitVec.ofBool b).toNat * 2 ^ k = if b = true then 2 ^ k else 0 := by
  cases b <;> simp

/-! ### ISR, ITB_PTE_TEMP, EXC_MASK, VA_FORM -/

/-- A request that is shown masked or not, as the parameter says (60_exceptions.md R990). -/
theorem shown_eq (shows request enabled : Bool) :
    (bif shows then request else request && enabled) = (request && (shows || enabled)) := by
  cases shows <;> simp

/-- The granularity hint decoded (11_state_idu_iprs.md R124, Table 5-2). -/
theorem granularity_decoded (gh : BitVec 2) : (gh != 0) = (gh.toNat != 0) ∧ gh.getLsbD 1 = decide (2 ≤ gh.toNat) ∧
    (gh == 3) = (gh.toNat == 3) := by
  revert gh
  decide

theorem vaFormOf_eq (base : BitVec 34) (nt : Bool) (va : Quad) : State.vaFormOf base nt va = vaFormNumber base nt va := by
  have one : (slice va 13 19 : BitVec 19).toNat = va.toNat / 2 ^ 13 % 2 ^ 19 := toNat_extractLsb' ..
  have other : (vpnOf va).toNat = va.toNat / 2 ^ 13 % 2 ^ 30 := toNat_extractLsb' ..
  have upper : (base.extractLsb' 3 31).toNat = base.toNat / 8 := by
    have lt := base.isLt
    rw [toNat_extractLsb']
    omega
  apply BitVec.eq_of_toNat_eq
  rw [State.vaFormOf, vaFormNumber]
  cases nt with
  | true =>
    obtain ⟨number, lt⟩ := (isNumber_place (slice va 13 19 : BitVec 19) (lo := 3)).or base (lo := 30)
    rw [cond_true, if_pos rfl, BitVec.or_comm, number, BitVec.toNat_ofNat, one]
    omega
  | false =>
    obtain ⟨number, lt⟩ := (isNumber_place (vpnOf va) (lo := 3)).or (base.extractLsb' 3 31) (lo := 33)
    rw [cond_false, if_neg Bool.false_ne_true, BitVec.or_comm, number, BitVec.toNat_ofNat, other, upper]
    omega

/-- HW_MFPR of an index gives a number and, but for the model's own fields, a state. -/
def IprGives (s : State) (p : Nat × Nat × State) : Prop :=
  ∃ i v t, iprAt (BitVec.ofNat 16 p.1) = some i ∧ readIpr s i = some (v, t) ∧ v.toNat = p.2.1 ∧
    { t with model := p.2.2.model } = p.2.2

/-- Each register that holds fields side by side, by the sum of the fields. -/
theorem iprReads_given (s : State) : ∀ p ∈ iprReads s, IprGives s p := by
  unfold iprReads
  simp only [List.forall_mem_cons, List.not_mem_nil, false_imp_iff, implies_true, and_true]
  refine ⟨⟨.isr, _, _, rfl, rfl, ?isr, rfl⟩, ⟨.itbPteTemp, _, _, rfl, rfl, ?itbPteTemp, rfl⟩,
    ⟨.excSum, _, _, rfl, rfl, toNat_place _, rfl⟩, ⟨.excMask, _, _, rfl, rfl, ?excMask, rfl⟩,
    ⟨.intid, _, _, rfl, rfl, (toNat_place _).trans (Nat.mul_one _), rfl⟩, ⟨.ifaultVaForm, _, _, rfl, rfl, rfl, rfl⟩,
    ⟨.slRcv, _, _, rfl, rfl, (toNat_place _).trans (toNat_ofBool_mul ..), rfl⟩,
    ⟨.icperrStat, _, _, rfl, rfl, toNat_place _, rfl⟩, ⟨.dtbPte, _, _, rfl, rfl, rfl, rfl⟩,
    ⟨.mmStat, _, _, rfl, rfl, (toNat_place _).trans (Nat.mul_one _), rfl⟩, ⟨.va, _, _, rfl, rfl, rfl, rfl⟩,
    ⟨.vaForm, _, _, rfl, rfl, congrArg BitVec.toNat (vaFormOf_eq ..), rfl⟩,
    ⟨.dcPerrStat, _, _, rfl, rfl, (toNat_place _).trans (Nat.mul_one _), rfl⟩,
    ⟨.dcTestTagTemp, _, _, rfl, rfl, rfl, rfl⟩⟩
  case isr =>
    have number : IsNumber s.isr _ _ := ((((((((((((isNumber_place s.idu.astEnabled).or _).or _).or _).or _).or _).or _).or
      _).or _).or _).or _).or _).or _
    rw [number.1]
    simp only [State.irqRequest, shown_eq, toNat_ofBool_mul, Nat.pow_zero, Nat.mul_one]
    rfl
  case itbPteTemp =>
    obtain ⟨any, two, three⟩ := granularity_decoded s.idu.itbPteTemp.gh
    have number : IsNumber s.idu.itbPteTemp.read _ _ := (((((isNumber_place s.idu.itbPteTemp.re).or _).or _).or _).or _).or _
    rw [number.1, any, two, three]
    simp only [toNat_ofBool_mul]
  case excMask =>
    rw [Idu.excMask, Bool.cond_eq_ite]
    split <;> exact toNat_append_add ..

/-! ### DTB_PTE_TEMP (12_state_mtu_iprs.md R185) -/

/-- A bit that is clear is set by adding it. -/
theorem getLsbD_add_two_pow {v : Quad} {i : Fin 64} (clear : v.getLsbD i = false) (k : Fin 64) :
    (v + BitVec.ofNat 64 (2 ^ i.val)).getLsbD k = (v.getLsbD k || k == i) := by
  have power : BitVec.ofNat 64 (2 ^ i.val) = BitVec.twoPow 64 i := by
    apply BitVec.eq_of_toNat_eq
    rw [BitVec.toNat_ofNat, BitVec.toNat_twoPow]
  have disjoint : v &&& BitVec.twoPow 64 i = 0#64 := by rw [BitVec.and_twoPow, clear]; rfl
  have single : (BitVec.twoPow 64 i).getLsbD k = (k == i) := by
    rw [BitVec.getLsbD_twoPow, decide_eq_true i.isLt, Bool.true_and]
    exact decide_eq_decide.mpr (Fin.ext_iff.trans eq_comm).symm
  rw [power, BitVec.add_eq_or_of_and_eq_zero _ _ disjoint, BitVec.getLsbD_or, single]

/-- Bits added at places of their own: at each place stands its bit. -/
theorem getLsbD_sum_places (b : Fin 64 → Bool) (f : Equiv.Perm (Fin 64)) : ∀ (l : List (Fin 64)) (n : Nat), l.Nodup →
    (∀ k ∈ l, (BitVec.ofNat 64 n).getLsbD (f k) = false) → ∀ j,
    (BitVec.ofNat 64 (l.foldl (fun v k => v + (b k).toNat * 2 ^ (f k).val) n)).getLsbD (f j) =
      ((BitVec.ofNat 64 n).getLsbD (f j) || (l.elem j && b j))
  | [], n, _, _, j => by rw [List.foldl_nil, List.elem_nil, Bool.false_and, Bool.or_false]
  | a :: l, n, nodup, clear, j => by
    obtain ⟨notMem, nodup⟩ := List.nodup_cons.mp nodup
    have step (k : Fin 64) : (BitVec.ofNat 64 (n + (b a).toNat * 2 ^ (f a).val)).getLsbD (f k) =
        ((BitVec.ofNat 64 n).getLsbD (f k) || (k == a && b k)) := by
      have place : (f k == f a) = (k == a) := by simp
      have added := getLsbD_add_two_pow (clear a List.mem_cons_self) (f k)
      have bit : (k == a && b k) = (k == a && b a) := by
        by_cases same : k = a
        · rw [same]
        · rw [beq_false_of_ne same, Bool.false_and, Bool.false_and]
      rw [bit, BitVec.ofNat_add]
      cases b a with
      | false => simp
      | true => rw [Bool.and_true, Bool.toNat_true, Nat.one_mul, ← place, added]
    have rest := getLsbD_sum_places b f l (n + (b a).toNat * 2 ^ (f a).val) nodup fun k mem => by
      have other : (k == a) = false := beq_false_of_ne fun same => notMem (same ▸ mem)
      rw [step, clear k (List.mem_cons_of_mem a mem), other]
      rfl
    rw [List.foldl_cons, rest, step, Bool.or_assoc, ← Bool.and_or_distrib_right, List.elem_cons]
    cases j == a <;> rfl

/-- Each stored bit of the entry stands in the place that the parameter gives it. -/
theorem dtbPteTemp_places (p : DtbPte) (k : Fin 64) :
    p.read.getLsbD (Config.dtbPteTempPlaces k).val = p.packed.getLsbD k := by
  have all : (List.finRange 64).elem k = true := List.elem_eq_true_of_mem (List.mem_finRange k)
  rw [DtbPte.read, getLsbD_sum_places (fun k => p.packed.getLsbD k) _ _ 0 (List.nodup_finRange 64)
    (fun _ _ => BitVec.getLsbD_zero), all, BitVec.getLsbD_zero]
  rfl

theorem toNat_packed (p : DtbPte) : p.packed.toNat =
    p.fault_on_read.toNat * 2 ^ 39 + p.fault_on_write.toNat * 2 ^ 38 + p.asm.toNat * 2 ^ 37 + p.gh.toNat * 2 ^ 35 +
      p.re.toNat * 2 ^ 31 + p.we.toNat * 2 ^ 27 + p.pfn.toNat := by
  simp only [DtbPte.packed, toNat_append_add, BitVec.toNat_ofBool]
  ring

/-! ### Every readable register -/

/-- IVPTBR: the bits <32:30> are free in the layout that does not use them (11_state_idu_iprs.md R129). -/
theorem readIpr_ivptbr (s : State) : ∃ v m, readIpr s .ivptbr = some (v, { s with model := m }) ∧
    v.toNat / 2 ^ 33 = s.idu.ivptbr.toNat / 8 ∧ v.toNat % 2 ^ 30 = 0 ∧
    (s.idu.icsr.getLsbD 28 = true → v.toNat = s.idu.ivptbr.toNat * 2 ^ 30) := by
  have layout : s.icsrBit 28 = s.idu.icsr.getLsbD 28 := rfl
  have number : (place s.idu.ivptbr 30).toNat = s.idu.ivptbr.toNat * 2 ^ 30 := toNat_place _
  cases whole : s.icsrBit 28 with
  | true =>
    refine ⟨_, s.model, by rw [readIpr, whole, cond_true], ?_, ?_, fun _ => number⟩
    · rw [number]; omega
    · rw [number]; omega
  | false =>
    have upper := s.field_withFree (known := ~~~maskOf 30 3) (v := place s.idu.ivptbr 30) (f := s.idu.ivptbr) 33 31 3
      fun j hj => by
        rw [getLsbD_place _ _ _ (by omega), BitVec.getLsbD_not, getLsbD_maskOf, show 33 + j - 30 = 3 + j by omega]
        simp
        omega
    have lower := s.field_withFree (known := ~~~maskOf 30 3) (v := place s.idu.ivptbr 30) (f := (0 : BitVec 30)) 0 30 0
      fun j hj => by
        rw [getLsbD_place _ _ _ (by omega), BitVec.getLsbD_not, getLsbD_maskOf]
        simp
        omega
    have zero : (0 : BitVec 30).toNat = 0 := rfl
    have lt := s.idu.ivptbr.isLt
    refine ⟨_, _, by rw [readIpr, whole, cond_false]; rfl, ?_, ?_, fun layout' => ?_⟩
    · omega
    · omega
    · exact absurd (whole.symm.trans (layout.trans layout')) Bool.false_ne_true

/-- The registers whose value or whose next state is given in part only. -/
theorem readIpr_free {s t : State} {n : Nat} {i : Ipr} {v : Quad} (index : iprAt (BitVec.ofNat 16 n) = some i)
    (read : readIpr s i = some (v, t)) (k : Model) : iprReadsFree s n v { t with model := k } := by
  refine ⟨fun itbPte => ?itbPte, fun ivptbr => ?ivptbr, fun dtbPteTemp => ?dtbPteTemp⟩
  case itbPte =>
    subst itbPte
    cases index
    cases read
    exact ⟨rfl, s.extraSteps, extraSteps_eq_zero, rfl⟩
  case ivptbr =>
    subst ivptbr
    cases index
    obtain ⟨w, m, given, upper, lower, whole⟩ := readIpr_ivptbr s
    cases read.symm.trans given
    exact ⟨rfl, upper, lower, whole⟩
  case dtbPteTemp =>
    subst dtbPteTemp
    cases index
    cases read
    refine ⟨rfl, fun place => ?_⟩
    rw [dtbPteTemp_places, ← BitVec.testBit_toNat, toNat_packed]

/-- A readable index is that of a register that HW_MFPR reaches. -/
theorem iprAt_readable : ∀ n ∈ readableIprs, ∃ i, iprAt (BitVec.ofNat 16 n) = some i ∧ i ∉ writeOnlyIprs := by
  have checked : ∀ n ∈ readableIprs, (iprAt (BitVec.ofNat 16 n)).any (fun i => i ∉ writeOnlyIprs) = true := by decide
  intro n mem
  simpa only [Option.any_eq_true, decide_eq_true_eq] using checked n mem

theorem readIpr_readable (s : State) {i : Ipr} (h : i ∉ writeOnlyIprs) : ∃ v t, readIpr s i = some (v, t) := by
  cases i with
  | ivptbr =>
    obtain ⟨v, m, read, -⟩ := readIpr_ivptbr s
    exact ⟨v, _, read⟩
  | itbTag | itbIa | itbIap | itbIs | hwintClr | slXmit | icFlushCtl | dtbAsn | dtbCm | dtbTag | mvptbr | dtbIap | dtbIa
  | dtbIs | altMode | cc | ccCtl | dcFlush => exact absurd (by decide) h
  | _ => exact ⟨_, _, rfl⟩

/-- HW_MFPR of a register that it reaches. -/
theorem exec_hwMfpr_read {index : BitVec 16} {i : Ipr} {r : Reg} {s t : State} {v : Quad}
    (allowed : s.palOpcodeAllowed = true) (hi : iprAt index = some i) (read : readIpr s i = some (v, t)) :
    exec (.hw_mfpr r r index) s = .next ((t.afterMfpr index).writeReg r v).advance := by
  dsimp only [exec, execHwMfpr]
  rw [whenPal_allowed allowed, bne_self_eq_false, cond_false, hi, Option.bind_some, read]
  rfl

/-- HW_MFPR of a readable register: what it gives, and that it changes IDU and MTU registers only, ICSR not. -/
theorem hwMfpr_reaches {n : Nat} (mem : n ∈ readableIprs) (r : Reg) {s : State} (allowed : s.palOpcodeAllowed = true) :
    ∃ (v : Quad) (t : State), exec (.hw_mfpr r r (BitVec.ofNat 16 n)) s = .next (t.writeReg r v).advance ∧
      { t with idu := s.idu, mtu := s.mtu, model := s.model } = s ∧ t.idu.icsr = s.idu.icsr ∧
      (∀ p ∈ iprReads s, p.1 = n → v.toNat = p.2.1 ∧ { t with model := p.2.2.model } = p.2.2) ∧ iprReadsFree s n v t := by
  obtain ⟨i, index, reads⟩ := iprAt_readable n mem
  obtain ⟨v, t, read⟩ := readIpr_readable s reads
  obtain ⟨k, after⟩ := t.afterMfpr_frame (BitVec.ofNat 16 n)
  refine ⟨v, { t with model := k }, ?runs, ?frame, (readIpr_keeps read).2, ?gives, readIpr_free index read k⟩
  case runs => rw [exec_hwMfpr_read allowed index read, after]
  case frame =>
    obtain ⟨d, m, q, rfl⟩ := readIpr_frame read
    rfl
  case gives =>
    rintro p memReads rfl
    obtain ⟨j, w, u, index', read', value, state⟩ := iprReads_given s p memReads
    cases index.symm.trans index'
    cases read.symm.trans read'
    exact ⟨value, state⟩

/-! # What HW_MTPR writes -/

/-- The only indexes of registers with an effect on the memory system are those of DC_FLUSH, DC_TEST_TAG and MAF_MODE. -/
theorem iprAt_writable : ∀ n ∈ writableIprs, ∃ i, iprAt (BitVec.ofNat 16 n) = some i ∧
    i ∉ Ipr.icsr :: .mcsr :: readOnlyIprs ∧ (n ∉ [0x210, 0x214] → i ∉ [Ipr.dcFlush, .dcTestTag]) ∧
    (i = .mafMode → n = 0x217) := by
  have checked : ∀ n ∈ writableIprs, (iprAt (BitVec.ofNat 16 n)).any (fun i => i ∉ Ipr.icsr :: .mcsr :: readOnlyIprs ∧
      (n ∉ [0x210, 0x214] → i ∉ [Ipr.dcFlush, .dcTestTag]) ∧ (i = .mafMode → n = 0x217)) = true := by decide
  intro n mem
  simpa only [Option.any_eq_true, decide_eq_true_eq] using checked n mem

section
variable {s t : State} {v : Quad}

/-- A register that HW_MTPR writes with any value. -/
theorem writeIpr_writable {i : Ipr} (h : i ∉ Ipr.icsr :: .mcsr :: readOnlyIprs) : ∃ t, writeIpr s v i = .next t := by
  cases i with
  | icsr | mcsr | isr | itbPteTemp | excMask | intid | ifaultVaForm | slRcv | dtbPteTemp | mmStat | va | vaForm
  | dcTestTagTemp => exact absurd (by decide) h
  | _ => exact ⟨_, rfl⟩

/-- What HW_MTPR of a register makes of the caches: DC_FLUSH and DC_TEST_TAG write lines of the Dcache, MAF_MODE may post that
what has waited arbitrates. -/
structure MtprCaches (i : Ipr) (c d : Caches) : Prop where
  frame : { d with dcache := c.dcache, dcacheFlushed := c.dcacheFlushed, posted := c.posted } = c
  lines : i ∉ [Ipr.dcFlush, .dcTestTag] → d.dcache = c.dcache ∧ d.dcacheFlushed = c.dcacheFlushed
  posted : d.posted = c.posted ∨ i = .mafMode ∧ d.posted = c.posted ++ [.resume]

theorem MtprCaches.refl (i : Ipr) (c : Caches) : MtprCaches i c c := ⟨rfl, fun _ => ⟨rfl, rfl⟩, .inl rfl⟩

/-- The Dcache's lines, where the register is one of those that write them. -/
theorem MtprCaches.ofLines {i : Ipr} {c d : Caches} (h : i ∈ [Ipr.dcFlush, .dcTestTag])
    (frame : { d with dcache := c.dcache, dcacheFlushed := c.dcacheFlushed } = c) : MtprCaches i c d := by
  have posted : d.posted = c.posted := by rw [← frame]
  exact ⟨by rw [← posted]; exact frame, fun notMem => absurd h notMem, .inl posted⟩

theorem State.noteSteps_memsys (s : State) : s.noteSteps.memsys = s.memsys := by
  unfold State.noteSteps
  cases Nat.blt s.model.sinceMtu 7 <;> rfl

theorem writeIpr_memsys {i : Ipr} (h : writeIpr s v i = .next t) :
    ∃ d, t.memsys = { s.memsys with caches := d } ∧ MtprCaches i s.memsys.caches d := by
  cases i with
  | dcFlush | dcTestTag =>
    cases h
    exact ⟨_, rfl, .ofLines (by decide) rfl⟩
  | mafMode =>
    cases h
    refine ⟨_, rfl, rfl, fun _ => ⟨rfl, rfl⟩, ?_⟩
    cases !bit v 5 && s.mustResume with
    | true => exact .inr ⟨rfl, rfl⟩
    | false => exact .inl (List.append_nil _)
  | icsr =>
    rw [writeIpr, State.writeIcsr, Bool.cond_eq_ite] at h
    split at h
    next => cases h
    next =>
      cases h
      exact ⟨_, rfl, .refl ..⟩
  | mcsr =>
    rw [writeIpr, Bool.cond_eq_ite] at h
    split at h
    next => cases h
    next =>
      cases h
      exact ⟨_, rfl, .refl ..⟩
  | itbPte =>
    cases h
    exact ⟨_, State.noteSteps_memsys s, .refl ..⟩
  | _ =>
    cases h <;> exact ⟨_, rfl, .refl ..⟩

end

/-- A register that HW_MTPR writes, by its index and the value. -/
theorem hwMtpr_writes {n : Nat} {s : State} {r : Reg} (h : n ∈ writableIprs ∨
      n = 0x118 ∧ (s.readReg r).getLsbD 18 = false ∧ (s.readReg r).getLsbD 37 = true ∨
      n = 0x20F ∧ s.readReg r &&& 0x28 = 0) :
    ∃ i t, iprAt (BitVec.ofNat 16 n) = some i ∧ writeIpr s (s.readReg r) i = .next t ∧
      (n ∉ [0x210, 0x214] → i ∉ [Ipr.dcFlush, .dcTestTag]) ∧ (i = .mafMode → n = 0x217) := by
  rcases h with mem | ⟨rfl, mbz, mbo⟩ | ⟨rfl, mbz⟩
  · obtain ⟨i, index, writable, number⟩ := iprAt_writable n mem
    obtain ⟨t, written⟩ := writeIpr_writable writable
    exact ⟨i, t, index, written, number⟩
  · obtain ⟨t, -, written, -⟩ := icsr_writeRead s (s.readReg r) mbz mbo
    exact ⟨.icsr, t, rfl, written, fun _ => by decide, nofun⟩
  · obtain ⟨t, written, -⟩ := readsBack_mcsr s (s.readReg r) mbz
    exact ⟨.mcsr, t, rfl, written, fun _ => by decide, nofun⟩

/-- Settles O38: HW_MFPR by `hwMfpr_reaches`; HW_MTPR by the frame of its register and by what it makes of the caches. -/
theorem internalRegistersAreReachable : Obligations.InternalRegistersAreReachable := by
  refine ⟨fun n mem r s allowed => hwMfpr_reaches mem r allowed, fun n r s allowed h => ?_⟩
  obtain ⟨i, t, index, written, dcache, mafMode⟩ := hwMtpr_writes h
  obtain ⟨d, memsys, caches⟩ := writeIpr_memsys written
  have run := exec_hwMtpr allowed index written
  obtain ⟨idu, mtu, w, model, rfl, -⟩ := writeIpr_frame written
  obtain rfl : w = { s.memsys with caches := d } := memsys
  refine ⟨_, run, rfl, rfl, ?_, fun outside => caches.lines (dcache outside), caches.posted.imp_right (And.imp_left mafMode)⟩
  exact congrArg (fun c => { s.memsys with caches := c }) caches.frame

end Sys2Proof.Machine

/-! # Only PALcode reaches the internal processor registers -/

namespace Sys2Proof.Machine

/-! ### What an exception records, and where it enters -/

/-- The registers of the IDU and the MTU are those of `s` but for what an exception records, and the pins too. -/
structure Records (s t : State) : Prop where
  idu : { t.idu with
      excAddr := s.idu.excAddr
      excSum := s.idu.excSum
      swcKilled := s.idu.swcKilled
      excMaskInt := s.idu.excMaskInt
      excMaskFp := s.idu.excMaskFp } = s.idu
  mtu : { t.mtu with va := s.mtu.va, mmStat := s.mtu.mmStat, mmLock := s.mtu.mmLock } = s.mtu
  pins : t.pins = s.pins

/-- Where `t` is in PALmode and `s` was not, its pc is an entry point in the block of PAL_BASE. -/
def EntersAtEntry (s t : State) : Prop := s.palmode = false → t.palmode = true →
  t.pc.toNat / 2 ^ 14 = s.idu.palBase.toNat ∧ t.pc.toNat % 2 ^ 14 % 64 = 1 ∧ t.model.lastEntry ≠ none

/-- What an instruction outside the PALcode-only opcodes keeps. -/
structure Isolated (s t : State) : Prop where
  records : Records s t
  enters : EntersAtEntry s t

/-- The registers that decide about the mode, and the pins, are those of `s`: so it is after an access, before the instruction
goes on. -/
structure SameControl (s u : State) : Prop where
  pc : u.pc = s.pc := by simp
  idu : u.idu = s.idu := by simp
  mtu : u.mtu = s.mtu := by simp
  pins : u.pins = s.pins := by simp

theorem Records.of_eq {s t : State} (idu : t.idu = s.idu) (mtu : t.mtu = s.mtu) (pins : t.pins = s.pins) : Records s t :=
  ⟨by rw [idu], by rw [mtu], pins⟩

theorem Records.refl (s : State) : Records s s := .of_eq rfl rfl rfl

/-- An instruction that leaves PALmode as it is. -/
theorem EntersAtEntry.of_palmode {s t : State} (h : s.palmode = false → t.palmode = false) : EntersAtEntry s t :=
  fun native pal => absurd ((h native).symm.trans pal) Bool.false_ne_true

section
variable {s u : State}

theorem SameControl.refl (s : State) : SameControl s s := {}

theorem SameControl.isolated (h : SameControl s u) (t : Quad) (mode : s.palmode = false → bit t 0 = false) :
    Isolated s (u.setPc t) :=
  ⟨.of_eq h.idu h.mtu h.pins, .of_palmode mode⟩

/-- The instruction goes on. -/
theorem SameControl.advance (h : SameControl s u) : Isolated s u.advance :=
  h.isolated _ fun native => (add_four_low u.pc 0 (by decide)).trans (h.pc ▸ native)

theorem SameControl.writeReg (h : SameControl s u) (r : Reg) (v : Quad) : SameControl s (u.writeReg r v) where
  pc := (State.writeReg_pc ..).trans h.pc
  idu := (State.writeReg_idu ..).trans h.idu
  mtu := (State.writeReg_mtu ..).trans h.mtu
  pins := (State.writeReg_pins ..).trans h.pins

theorem SameControl.writeFreg (h : SameControl s u) (r : Reg) (v : Quad) : SameControl s (u.writeFreg r v) where
  pc := (State.writeFreg_pc ..).trans h.pc
  idu := (State.writeFreg_idu ..).trans h.idu
  mtu := (State.writeFreg_mtu ..).trans h.mtu
  pins := (State.writeFreg_pins ..).trans h.pins

theorem SameControl.locks (h : SameControl s u) (pa : PAddr) : SameControl s (u.locks pa) where
  pc := (State.locks_pc ..).trans h.pc
  idu := (State.locks_idu ..).trans h.idu
  mtu := (State.locks_mtu ..).trans h.mtu
  pins := (State.locks_pins ..).trans h.pins

/-! ### Entries (60_exceptions.md R951, R960) -/

/-- An entry at a multiple of 64. -/
theorem enterPal_entersAtEntry (e : Entry) (ret : Quad) {off : BitVec 14} (aligned : off.toNat % 64 = 0)
    (base : u.idu.palBase = s.idu.palBase) : EntersAtEntry s (enterPal e ret off u) := by
  have even : off.getLsbD 0 = false := by
    rw [← BitVec.testBit_toNat, Nat.testBit_zero, decide_eq_false_iff_not]
    omega
  have blocks := s.idu.palBase.isLt
  have inBlock := off.isLt
  intro _ _
  rw [enterPal_pc, palAddress_eq _ even, base, BitVec.toNat_ofNat]
  exact ⟨by omega, by omega, nofun⟩

theorem enterPal_isolated (e : Entry) (ret : Quad) {off : BitVec 14} (aligned : off.toNat % 64 = 0) (h : Records s u) :
    Isolated s (enterPal e ret off u) where
  records := ⟨h.idu, h.mtu, h.pins⟩
  enters := by
    have base := congrArg Idu.palBase h.idu
    exact enterPal_entersAtEntry e ret aligned base

theorem Entry.offset_aligned (e : Entry) : e.offset.toNat % 64 = 0 := by cases e <;> rfl

theorem takeArith_isolated (s : State) : Isolated s (takeArith s) :=
  enterPal_isolated .arith s.pc Entry.arith.offset_aligned ⟨rfl, rfl, rfl⟩

theorem takeEntry_isolated {e : Entry} {record : State → State} (h : Records s (record s)) :
    Isolated s (takeEntry e record s) :=
  takeEntry_all (fun _ => takeArith_isolated s) fun _ => enterPal_isolated e s.pc e.offset_aligned h

theorem recordMm_records (r : DRef) (c : MmCause) (s : State) : Records s (recordMm r c s) := by
  unfold recordMm State.latchMm
  cases s.mtu.mmLock with
  | true => exact .refl s
  | false => exact ⟨rfl, rfl, rfl⟩

end

section
variable {s : State} {k : State → Result State}

theorem whenFp_isolated (h : allNext (Isolated s) (k s)) : allNext (Isolated s) (whenFp k s) :=
  whenFp_all (fun _ => takeEntry_isolated (.refl s)) fun _ => h

theorem whenByteWord_isolated (h : allNext (Isolated s) (k s)) : allNext (Isolated s) (whenByteWord k s) :=
  whenByteWord_all (fun _ => takeEntry_isolated (.refl s)) fun _ => h

theorem afterArith_isolated (h : allNext (Isolated s) (k s)) : allNext (Isolated s) (afterArith s k) :=
  afterArith_all (fun _ => takeArith_isolated s) fun _ => h

end

section
variable {s : State}

/-! ### Integer instructions and branches -/

/-- An instruction that writes a register and goes on. -/
theorem writeReg_isolated {u : State} (h : SameControl s u) (r : Reg) (v : Quad) :
    allNext (Isolated s) (u.writeReg r v).done :=
  allNext_next (h.writeReg r v).advance

theorem writeFreg_isolated {u : State} (h : SameControl s u) (r : Reg) (v : Quad) :
    allNext (Isolated s) (u.writeFreg r v).done :=
  allNext_next (h.writeFreg r v).advance

theorem operateV_isolated {f : Quad → Quad → Quad} {p : Quad → Quad → Bool} {ra rc : Reg} {b : Operand} :
    allNext (Isolated s) (operateV f p ra b rc s) := by
  refine allNext_next ?_
  have written := ((SameControl.refl s).writeReg rc (f (s.readReg ra) (s.operand b))).advance
  cases p (s.readReg ra) (s.operand b) with
  | false => exact written
  | true => exact ⟨⟨written.records.idu, written.records.mtu, written.records.pins⟩, written.enters⟩

theorem moveIf_isolated {p : Quad → Bool} {ra rc : Reg} {b : Operand} : allNext (Isolated s) (moveIf p ra b rc s) := by
  refine allNext_next ?_
  cases p (s.readReg ra) with
  | true => exact ((SameControl.refl s).writeReg rc _).advance
  | false => exact (SameControl.refl s).advance

theorem branchTarget_bit0 (pc : Quad) (disp : BitVec 21) : bit (branchTarget pc disp) 0 = bit pc 0 := by
  simp only [bit, branchTarget, slice, BitVec.getLsbD_append]
  simp

/-- A native jump stays in native mode (41_control.md R585). -/
theorem jumpTarget_bit0 {pc : Quad} (t : Quad) (native : bit pc 0 = false) : bit (jumpTarget pc t) 0 = false := by
  rw [jumpTarget, native, Bool.false_and]
  simp only [bit, BitVec.getLsbD_append]
  rfl

theorem branchIf_isolated {c : Bool} {disp : BitVec 21} : allNext (Isolated s) (branchIf c disp s) := by
  refine allNext_next ((SameControl.refl s).isolated _ fun native => ?_)
  cases c with
  | true => exact (branchTarget_bit0 s.pc disp).trans native
  | false => exact (add_four_low s.pc 0 (by decide)).trans native

theorem branchLink_isolated {ra : Reg} {disp : BitVec 21} : allNext (Isolated s) (branchLink ra disp s) :=
  allNext_next (((SameControl.refl s).writeReg ra _).isolated _ (branchTarget_bit0 s.pc disp).trans)

theorem jumpLink_isolated {ra rb : Reg} : allNext (Isolated s) (jumpLink ra rb s) :=
  allNext_next (((SameControl.refl s).writeReg ra _).isolated _ (jumpTarget_bit0 _))

theorem execRpcc_isolated {ra : Reg} : allNext (Isolated s) (execRpcc ra s) := by
  refine writeReg_isolated ?_ ra _
  cases s.mtu.ccEnabled <;> exact {}

theorem prefetchHint_isolated {k : WriteKind} {rb : Reg} : allNext (Isolated s) (prefetchHint k rb s) := by
  unfold prefetchHint
  cases s.model.cbuStore with
  | true => exact allNext_refused
  | false => exact allNext_next (SameControl.advance {})

/-! ### Loads and stores -/

/-- The access waits, and the instruction with it. -/
theorem Isolated.wait (s : State) : Isolated s s := ⟨.refl s, .of_palmode id⟩

theorem load_isolated {r : DRef} {k : Quad → State → Result State}
    (h : ∀ v u, SameControl s u → allNext (Isolated s) (k v u)) :
    allNext (Isolated s) (load r k s) :=
  load_all (fun _ c _ => takeEntry_isolated (recordMm_records r c s)) (.wait s) (fun _ _ => h _ _ {})
    fun _ _ _ _ _ _ _ => h _ _ {}

theorem loadLocked_isolated {r : DRef} {k : Quad → State → Result State}
    (h : ∀ v u, SameControl s u → allNext (Isolated s) (k v u)) : allNext (Isolated s) (loadLocked r k s) :=
  loadLocked_all (fun _ c _ => takeEntry_isolated (recordMm_records r c s)) (.wait s)
    (fun pa _ => h _ _ (SameControl.locks {} pa)) fun pa _ _ _ _ _ _ _ => h _ _ (SameControl.locks {} pa)

theorem store_isolated {r : DRef} {v : Quad} : allNext (Isolated s) (store r v State.done s) :=
  store_all (fun _ c _ => takeEntry_isolated (recordMm_records r c s)) (.wait s)
    (fun _ _ => allNext_next (SameControl.advance {})) fun _ _ _ _ _ _ => allNext_next (SameControl.advance {})

theorem storeConditional_isolated {r : DRef} {ra : Reg} {v : Quad} :
    allNext (Isolated s) (storeConditional r v (fun ok t => (t.writeReg ra (quadOfBool ok)).done) s) :=
  storeConditional_all (fun _ c _ => takeEntry_isolated (recordMm_records r c s)) (.wait s)
    fun _ _ => writeReg_isolated {} ra _

theorem loadInt_isolated {r : DRef} {ra : Reg} {f : Quad → Quad} :
    allNext (Isolated s) (load r (fun m t => (t.writeReg ra (f m)).done) s) :=
  load_isolated fun _ _ hu => writeReg_isolated hu ra _

theorem loadLockedInt_isolated {r : DRef} {ra : Reg} {f : Quad → Quad} :
    allNext (Isolated s) (loadLocked r (fun m t => (t.writeReg ra (f m)).done) s) :=
  loadLocked_isolated fun _ _ hu => writeReg_isolated hu ra _

theorem loadFp_isolated {r : DRef} {fa : Reg} {f : Quad → Quad} :
    allNext (Isolated s) (load r (fun m t => (t.writeFreg fa (f m)).done) s) :=
  load_isolated fun _ _ hu => writeFreg_isolated hu fa _

theorem execLdqU_isolated {ra rb : Reg} {disp : BitVec 16} : allNext (Isolated s) (execLdqU ra rb disp s) := by
  unfold execLdqU
  cases ra == 31 with
  | true => exact allNext_next (SameControl.refl s).advance
  | false => exact loadInt_isolated

/-! ### Floating-point operates -/

theorem fpMove_isolated {fc : Reg} {v : State → Quad} : allNext (Isolated s) (fpMove fc v s) :=
  whenFp_isolated (writeFreg_isolated {} fc _)

theorem fpMoveIf_isolated {p : Quad → Bool} {fa fb fc : Reg} : allNext (Isolated s) (fpMoveIf p fa fb fc s) := by
  refine whenFp_isolated (allNext_next ?_)
  cases p (s.readFreg fa) with
  | true => exact ((SameControl.refl s).writeFreg fc _).advance
  | false => exact (SameControl.refl s).advance

/-- What a floating-point operate records: EXC_SUM with its latch, and EXC_MASK. -/
theorem Operates.isolated {fc : Reg} {t : State} (h : Operates fc s t) : Isolated s t where
  records := by
    have idu := congrArg (fun u => { u.idu with excAddr := s.idu.excAddr, excMaskInt := s.idu.excMaskInt }) h.frame
    have mtu := congrArg (fun u => { u.mtu with va := s.mtu.va, mmStat := s.mtu.mmStat, mmLock := s.mtu.mmLock }) h.frame
    have pins := congrArg State.pins h.frame
    exact ⟨idu, mtu, pins⟩
  enters := .of_palmode fun native => (congrArg (bit · 0) h.pc).trans ((add_four_low s.pc 0 (by decide)).trans native)

theorem fpInstruction_isolated {q : Qual} {fc : Reg} {result : State → FpResult} :
    allNext (Isolated s) (fpInstruction q fc result s) :=
  whenFp_isolated (allNext_next (operates_finishFp q fc (result s) s).isolated)

/-! ### PALcode -/

theorem execCallPal_isolated {fn : BitVec 26} : allNext (Isolated s) (execCallPal fn s) := by
  refine afterArith_isolated ?_
  cases callPalIllegal fn s.kernel with
  | true => exact raise_all (takeEntry_isolated (.refl s))
  | false =>
    refine allNext_next (enterPal_isolated _ _ ?_ (.refl s))
    rw [toNat_callPalOffset]
    omega

/-- HW_LD, HW_ST and HW_MFPR leave the mode as it is, or raise OPCDEC. -/
theorem whenPal_entersAtEntry {k : State → Result State} (h : allNext (EntersAtEntry s) (k s)) :
    allNext (EntersAtEntry s) (whenPal k s) :=
  whenPal_all (fun _ => (takeEntry_isolated (.refl s)).enters) fun _ => h

theorem execHwLd_entersAtEntry {ra rb : Reg} {phys alt wrtck quad vpte lock : Bool} {disp : BitVec 10} :
    allNext (EntersAtEntry s) (execHwLd ra rb phys alt wrtck quad vpte lock disp s) := by
  refine whenPal_entersAtEntry (allNext_mono (fun _ => Isolated.enters) ?_)
  cases lock with
  | true => exact loadLockedInt_isolated (f := fun m => bif quad then m else sextLong m)
  | false => exact loadInt_isolated (f := fun m => bif quad then m else sextLong m)

theorem execHwSt_entersAtEntry {ra rb : Reg} {phys alt mbz13 quad mbz11 cond : Bool} {disp : BitVec 10} :
    allNext (EntersAtEntry s) (execHwSt ra rb phys alt mbz13 quad mbz11 cond disp s) := by
  refine whenPal_entersAtEntry (allNext_mono (fun _ => Isolated.enters) ?_)
  cases mbz13 || mbz11 with
  | true => exact allNext_refused
  | false =>
    cases cond with
    | true => exact storeConditional_isolated
    | false => exact store_isolated

/-- An instruction that goes on from a state with the same pc. -/
theorem EntersAtEntry.advance {u : State} (h : u.pc = s.pc) : EntersAtEntry s u.advance :=
  .of_palmode fun native => (add_four_low u.pc 0 (by decide)).trans (h ▸ native)

theorem execHwMfpr_entersAtEntry {ra rb : Reg} {index : BitVec 16} :
    allNext (EntersAtEntry s) (execHwMfpr ra rb index s) := by
  refine execHwMfpr_all (fun _ => (takeEntry_isolated (.refl s)).enters) fun _ _ i v t _ read => .advance ?_
  obtain ⟨d, m, q, rfl⟩ := readIpr_frame read
  exact (State.writeReg_pc ..).trans (State.afterMfpr_pc ..)

theorem execHwMtpr_entersAtEntry {ra rb : Reg} {index : BitVec 16} :
    allNext (EntersAtEntry s) (execHwMtpr ra rb index s) := by
  refine execHwMtpr_all (fun _ => (takeEntry_isolated (.refl s)).enters) fun _ _ i t _ written => .advance ?_
  obtain ⟨d, m, w, q, rfl, -⟩ := writeIpr_frame written
  rfl

end

/-! ### The obligation -/

/-- The PALcode-only opcodes (48_palcode.md R930). -/
def palcodeOpcodes : List (BitVec 6) := [0x19, 0x1B, 0x1D, 0x1E, 0x1F]

/-- What an instruction of an opcode can do to the internal processor registers and to the mode. -/
inductive Isolation (s : State) (op : BitVec 6) (r : Result State) : Prop where
  /-- It is outside the PALcode-only opcodes, or does no more than those outside. -/
  | outside (h : allNext (Isolated s) r)
  /-- It reads or writes an internal processor register, or makes a reference as PALcode. -/
  | palcode (opcode : op ∈ palcodeOpcodes) (h : allNext (EntersAtEntry s) r)
  /-- It is HW_REI or HW_REI_STALL. -/
  | returns (opcode : op = 0x1E)

theorem opcodeOf_encMem_mem {op : BitVec 6} {ra rb : Reg} {d : BitVec 16} (h : op ∈ palcodeOpcodes) :
    opcodeOf (encMem op ra rb d) ∈ palcodeOpcodes := by rwa [opcodeOf_encMem]

theorem opcodeOf_encHwMem_mem {op : BitVec 6} {ra rb : Reg} {b15 b14 b13 b12 b11 b10 : Bool} {d : BitVec 10}
    (h : op ∈ palcodeOpcodes) : opcodeOf (encHwMem op ra rb b15 b14 b13 b12 b11 b10 d) ∈ palcodeOpcodes := by
  rwa [opcodeOf_encHwMem]

/-- The opcodes of the floating-point operates. -/
def fpOpcodes : List (BitVec 6) := [0x15, 0x16, 0x17]

theorem opcodeOf_encFloat_mem {op : BitVec 6} {fn : BitVec 11} {fa fb fc : Reg} (h : op ∈ fpOpcodes) :
    opcodeOf (encFloat op fn fa fb fc) ∈ fpOpcodes := by rwa [opcodeOf_encFloat]

/-- The floating-point operates, by the form of what they do. -/
theorem fpOperate_isolated {i : Instr} {w : Long} {run : State → Result State} (form : ExecForm i w run)
    (opcode : opcodeOf w ∈ fpOpcodes) (s : State) : allNext (Isolated s) (run s) := by
  cases form with
  | other hop notFp => exact absurd (hop ▸ opcode) notFp
  | arithmetic => exact fpInstruction_isolated
  | move => exact fpMove_isolated
  | moveIf => exact fpMoveIf_isolated
  | writeFpcr => exact whenFp_isolated (allNext_next (SameControl.advance {}))
  | @readFpcr fa => exact whenFp_isolated (writeFreg_isolated (u := s.drawn) {} fa _)

/-- The others, by their kind; the last case stands for the floating-point operates. -/
theorem exec_isolation_of_notFp (i : Instr) (s : State) :
    opcodeOf (encode i) ∉ fpOpcodes → Isolation s (opcodeOf (encode i)) (exec i s) := by
  cases i with (dsimp only [exec, encode]; intro notFp)
  | hw_mfpr ra rb index => exact .palcode (opcodeOf_encMem_mem (by decide)) execHwMfpr_entersAtEntry
  | hw_mtpr ra rb index => exact .palcode (opcodeOf_encMem_mem (by decide)) execHwMtpr_entersAtEntry
  | hw_ld ra rb phys alt wrtck quad vpte lock disp =>
    exact .palcode (opcodeOf_encHwMem_mem (by decide)) execHwLd_entersAtEntry
  | hw_st ra rb phys alt mbz13 quad mbz11 cond disp =>
    exact .palcode (opcodeOf_encHwMem_mem (by decide)) execHwSt_entersAtEntry
  | hw_rei mbz | hw_rei_stall mbz => exact .returns (opcodeOf_encMem ..)
  | call_pal fn => exact .outside execCallPal_isolated
  | ldl ra rb disp | ldq ra rb disp => exact .outside loadInt_isolated
  | ldl_l ra rb disp | ldq_l ra rb disp => exact .outside loadLockedInt_isolated
  | ldbu ra rb disp | ldwu ra rb disp => exact .outside (whenByteWord_isolated loadInt_isolated)
  | ldq_u ra rb disp => exact .outside execLdqU_isolated
  | ldf fa rb disp | ldg fa rb disp | lds fa rb disp | ldt fa rb disp => exact .outside (whenFp_isolated loadFp_isolated)
  | stl ra rb disp | stq ra rb disp | stq_u ra rb disp => exact .outside store_isolated
  | stb ra rb disp | stw ra rb disp => exact .outside (whenByteWord_isolated store_isolated)
  | stf fa rb disp | stg fa rb disp | sts fa rb disp | stt fa rb disp => exact .outside (whenFp_isolated store_isolated)
  | stl_c ra rb disp | stq_c ra rb disp => exact .outside storeConditional_isolated
  | addl_v ra b rc | addq_v ra b rc | subl_v ra b rc | subq_v ra b rc | mull_v ra b rc | mulq_v ra b rc =>
    exact .outside operateV_isolated
  | cmoveq ra b rc | cmovne ra b rc | cmovlt ra b rc | cmovle ra b rc | cmovgt ra b rc | cmovge ra b rc
  | cmovlbs ra b rc | cmovlbc ra b rc => exact .outside moveIf_isolated
  | sextb b rc | sextw b rc => exact .outside (whenByteWord_isolated (writeReg_isolated {} rc _))
  | addl ra b rc | addq ra b rc | subl ra b rc | subq ra b rc | s4addl ra b rc | s8addl ra b rc | s4addq ra b rc
  | s8addq ra b rc | s4subl ra b rc | s8subl ra b rc | s4subq ra b rc | s8subq ra b rc | cmpeq ra b rc | cmplt ra b rc
  | cmple ra b rc | cmpult ra b rc | cmpule ra b rc | cmpbge ra b rc | and ra b rc | bic ra b rc | bis ra b rc
  | ornot ra b rc | xor ra b rc | eqv ra b rc | sll ra b rc | srl ra b rc | sra ra b rc | zap ra b rc | zapnot ra b rc
  | mull ra b rc | mulq ra b rc | umulh ra b rc | extbl ra b rc | extwl ra b rc | extll ra b rc | extql ra b rc
  | extwh ra b rc | extlh ra b rc | extqh ra b rc | insbl ra b rc | inswl ra b rc | insll ra b rc | insql ra b rc
  | inswh ra b rc | inslh ra b rc | insqh ra b rc | mskbl ra b rc | mskwl ra b rc | mskll ra b rc | mskql ra b rc
  | mskwh ra b rc | msklh ra b rc | mskqh ra b rc | amask b rc | implver rc =>
    exact .outside (writeReg_isolated {} rc _)
  | lda ra rb disp | ldah ra rb disp => exact .outside (writeReg_isolated {} ra _)
  | rc ra | rs ra => exact .outside (writeReg_isolated (u := { s with intrFlag := _ }) {} ra _)
  | rpcc ra => exact .outside execRpcc_isolated
  | trapb | excb => exact .outside (afterArith_isolated (k := State.done) (allNext_next (SameControl.refl s).advance))
  | mb => exact .outside (allNext_next (SameControl.advance (u := s.barrier) {}))
  | wmb => exact .outside (allNext_next (SameControl.advance (u := { s with memsys := s.memsys.writeBarrier }) {}))
  | fetch rb | fetch_m rb => exact .outside prefetchHint_isolated
  | br ra disp | bsr ra disp => exact .outside branchLink_isolated
  | blbc ra disp | beq ra disp | blt ra disp | ble ra disp | blbs ra disp | bne ra disp | bge ra disp | bgt ra disp =>
    exact .outside branchIf_isolated
  | fbeq fa disp | fblt fa disp | fble fa disp | fbne fa disp | fbge fa disp | fbgt fa disp =>
    exact .outside (whenFp_isolated branchIf_isolated)
  | jmp ra rb hint | jsr ra rb hint | ret ra rb hint | jsr_coroutine ra rb hint => exact .outside jumpLink_isolated
  | _ => exact absurd (opcodeOf_encFloat_mem (by decide)) notFp

theorem exec_isolation (i : Instr) (s : State) : Isolation s (opcodeOf (encode i)) (exec i s) := by
  by_cases fp : opcodeOf (encode i) ∈ fpOpcodes
  · exact .outside (fpOperate_isolated (execForm i) fp s)
  · exact exec_isolation_of_notFp i s fp

/-- Settles O59: by the kind of the instruction (`exec_isolation`). -/
theorem onlyPalcodeChangesInternalRegisters : Obligations.OnlyPalcodeChangesInternalRegisters := by
  have number (i : Instr) : i.opcode = (opcodeOf (encode i)).toNat := toNat_opcode (encode i)
  have palcodeNumber : ∀ op ∈ palcodeOpcodes, op.toNat ∈ [0x19, 0x1B, 0x1D, 0x1E, 0x1F] := by decide
  constructor
  case left =>
    intro i s t native next pal
    cases exec_isolation i s with
    | outside h => exact .inr ((h t next).enters native pal)
    | palcode _ h => exact .inr (h t next native pal)
    | returns opcode => exact .inl ((number i).trans (congrArg BitVec.toNat opcode))
  case right =>
    intro i s t next other
    rw [number] at other
    cases exec_isolation i s with
    | outside h =>
      obtain ⟨idu, mtu, pins⟩ := (h t next).records
      exact ⟨idu, mtu, pins⟩
    | palcode opcode => exact absurd (palcodeNumber _ opcode) other
    | returns opcode => exact absurd (palcodeNumber _ (opcode ▸ by decide)) other

end Sys2Proof.Machine

/-! # Disabled instructions -/

namespace Sys2Proof.Machine

/-! ### The checks that come first (60_exceptions.md R972, R973; 48_palcode.md R930) -/

section

variable {k : State → Result State} {s : State}

theorem whenFp_disabled (h : s.fpEnabled = false) : whenFp k s = raise .fen s := by rw [whenFp, h, cond_false]

theorem whenByteWord_disabled (h : s.byteWordEnabled = false) : whenByteWord k s = raise .opcdec s := by
  rw [whenByteWord, h, cond_false]

end

theorem State.palmode_eq_false_iff (s : State) : s.palmode = false ↔ s.pc.toNat % 2 = 0 := by
  rw [palmode, bit, ← BitVec.testBit_toNat, Nat.testBit_zero, decide_eq_false_iff_not, Nat.mod_two_not_eq_one]

theorem State.palOpcodeAllowed_eq_false {s : State} (native : s.pc.toNat % 2 = 0)
    (h : s.idu.icsr.getLsbD 27 = false ∨ s.idu.icm ≠ 0) : s.palOpcodeAllowed = false := by
  rw [palOpcodeAllowed, s.palmode_eq_false_iff.mpr native, Bool.false_or, Bool.and_eq_false_iff]
  exact h.imp id beq_false_of_ne

/-- The opcodes of the floating-point instructions (60_exceptions.md R972). -/
def fpOpcodeNumbers : List Nat :=
  [0x15, 0x16, 0x17, 0x20, 0x21, 0x22, 0x23, 0x24, 0x25, 0x26, 0x27, 0x31, 0x32, 0x33, 0x35, 0x36, 0x37]

/-- The opcodes of the byte/word extension (30_encoding.md R480). -/
def byteWordOpcodeNumbers : List Nat := [0x0A, 0x0C, 0x0D, 0x0E, 0x1C]

/-- The PALcode-only opcodes (48_palcode.md R930). -/
def palcodeOpcodeNumbers : List Nat := [0x19, 0x1B, 0x1D, 0x1E, 0x1F]

/-- The check that an instruction of an opcode makes before anything else. -/
def checkOf (n : Nat) : (State → Result State) → State → Result State :=
  bif fpOpcodeNumbers.elem n then whenFp
  else bif byteWordOpcodeNumbers.elem n then whenByteWord
  else bif palcodeOpcodeNumbers.elem n then whenPal
  else id

theorem checkOf_fp {n : Nat} (h : n ∈ fpOpcodeNumbers) : checkOf n = whenFp := by
  rw [checkOf, List.elem_eq_true_of_mem h, cond_true]

theorem checkOf_byteWord {n : Nat} (h : n ∈ byteWordOpcodeNumbers) : checkOf n = whenByteWord := by
  have notFp : ∀ n ∈ byteWordOpcodeNumbers, fpOpcodeNumbers.elem n = false := by decide
  rw [checkOf, notFp n h, cond_false, List.elem_eq_true_of_mem h, cond_true]

theorem checkOf_pal {n : Nat} (h : n ∈ palcodeOpcodeNumbers) : checkOf n = whenPal := by
  have others : ∀ n ∈ palcodeOpcodeNumbers, fpOpcodeNumbers.elem n = false ∧ byteWordOpcodeNumbers.elem n = false := by
    decide
  rw [checkOf, (others n h).1, cond_false, (others n h).2, cond_false, List.elem_eq_true_of_mem h, cond_true]

/-- Before anything else it makes the check of its word's opcode. -/
def Checked (w : Long) (run : State → Result State) : Prop := ∃ k, ∀ s, run s = checkOf (opcodeOf w).toNat k s

theorem Checked.of_opcode {w : Long} {op : BitVec 6} {run k : State → Result State} (hop : opcodeOf w = op)
    (h : ∀ s, run s = checkOf op.toNat k s) : Checked w run := ⟨k, hop ▸ h⟩

/-- The floating-point operates, by the form of what they do. -/
theorem ExecForm.checked {i : Instr} {w : Long} {run : State → Result State} (form : ExecForm i w run)
    (opcode : opcodeOf w ∈ fpOpcodes) : Checked w run := by
  have number : ∀ op ∈ fpOpcodes, op.toNat ∈ fpOpcodeNumbers := by decide
  rw [Checked, checkOf_fp (number _ opcode)]
  cases form with
  | other ho notFp => exact absurd (ho ▸ opcode) notFp
  | arithmetic | move | moveIf | writeFpcr | readFpcr => exact ⟨_, fun _ => rfl⟩

/-- The others, by the format of their word; the last case stands for the floating-point operates. -/
theorem checked_of_notFp (i : Instr) : opcodeOf (encode i) ∉ fpOpcodes → Checked (encode i) (fun s => exec i s) := by
  cases i with (dsimp only [exec, encode]; intro notFp)
  | lda | ldah | ldbu | ldq_u | ldwu | stw | stb | stq_u | ldl | ldq | ldl_l | ldq_l | stl | stq | stl_c | stq_c | ldf | ldg
  | lds | ldt | stf | stg | sts | stt | trapb | excb | mb | wmb | fetch | fetch_m | rpcc | rc | rs | hw_mfpr | hw_mtpr
  | hw_rei | hw_rei_stall =>
    exact .of_opcode (opcodeOf_encMem ..) fun _ => rfl
  | br | bsr | blbc | beq | blt | ble | blbs | bne | bge | bgt | fbeq | fblt | fble | fbne | fbge | fbgt =>
    exact .of_opcode (opcodeOf_encBranch ..) fun _ => rfl
  | jmp | jsr | ret | jsr_coroutine => exact .of_opcode (opcodeOf_encJump ..) fun _ => rfl
  | call_pal => exact .of_opcode (opcodeOf_callPal ..) fun _ => rfl
  | hw_ld | hw_st => exact .of_opcode (opcodeOf_encHwMem ..) fun _ => rfl
  | addl | addl_v | addq | addq_v | subl | subl_v | subq | subq_v | s4addl | s8addl | s4addq | s8addq | s4subl | s8subl
  | s4subq | s8subq | cmpeq | cmplt | cmple | cmpult | cmpule | cmpbge | and | bic | bis | ornot | xor | eqv | cmoveq
  | cmovne | cmovlt | cmovle | cmovgt | cmovge | cmovlbs | cmovlbc | amask | implver | sll | srl | sra | zap | zapnot
  | extbl | extwl | extll | extql | extwh | extlh | extqh | insbl | inswl | insll | insql | inswh | inslh | insqh | mskbl
  | mskwl | mskll | mskql | mskwh | msklh | mskqh | mull | mull_v | mulq | mulq_v | umulh | sextb | sextw =>
    exact .of_opcode (opcodeOf_encOperate ..) fun _ => rfl
  | _ => exact absurd (opcodeOf_encFloat_mem (by decide)) notFp

theorem exec_checked (i : Instr) : Checked (encode i) (fun s => exec i s) := by
  by_cases h : opcodeOf (encode i) ∈ fpOpcodes
  · exact (execForm i).checked h
  · exact checked_of_notFp i h

section

variable {i : Instr} {s : State}

theorem exec_eq_fen (opcode : i.opcode ∈ fpOpcodeNumbers) (off : s.fpEnabled = false) : exec i s = raise .fen s := by
  obtain ⟨k, h⟩ := exec_checked i
  rw [Instr.opcode, toNat_opcode] at opcode
  exact (h s).trans (by rw [checkOf_fp opcode, whenFp_disabled off])

theorem exec_eq_opcdec_of_byteWord (opcode : i.opcode ∈ byteWordOpcodeNumbers) (off : s.byteWordEnabled = false) :
    exec i s = raise .opcdec s := by
  obtain ⟨k, h⟩ := exec_checked i
  rw [Instr.opcode, toNat_opcode] at opcode
  exact (h s).trans (by rw [checkOf_byteWord opcode, whenByteWord_disabled off])

theorem exec_eq_opcdec_of_pal (opcode : i.opcode ∈ palcodeOpcodeNumbers) (off : s.palOpcodeAllowed = false) :
    exec i s = raise .opcdec s := by
  obtain ⟨k, h⟩ := exec_checked i
  rw [Instr.opcode, toNat_opcode] at opcode
  exact (h s).trans (by rw [checkOf_pal opcode, whenPal_forbidden _ off])

end

/-! ### Words that name no instruction (30_encoding.md R475, R480, R483; 60_exceptions.md R972 b) -/

section

variable {w : Long} {s : State}

/-- The opcodes of which a function code, or the type of HW_REI, may name no instruction. -/
def functionOpcodes : List Nat := [0x10, 0x11, 0x12, 0x13, 0x15, 0x16, 0x17, 0x18, 0x1C, 0x1E]

theorem raisesOpcdec_eq_false (opcode : (opcodeOf w).toNat ∈ functionOpcodes)
    (byteWord : (opcodeOf w).toNat = 0x1C → s.byteWordEnabled = true)
    (pal : (opcodeOf w).toNat = 0x1E → s.palOpcodeAllowed = true) : s.raisesOpcdec w = false := by
  have listed : ∀ n ∈ functionOpcodes, [0x01, 0x02, 0x03, 0x04, 0x05, 0x06, 0x07, 0x14].elem n = false ∧
      byteWordOpcodeNumbers.elem n = (n == 0x1C) ∧ palcodeOpcodeNumbers.elem n = (n == 0x1E) ∧ [0].elem n = false := by
    decide
  obtain ⟨reserved, extension, palcode, callPal⟩ := listed _ opcode
  simp only [byteWordOpcodeNumbers, palcodeOpcodeNumbers] at extension palcode
  simp only [State.raisesOpcdec, isByteWord, opIn, reserved, extension, palcode, callPal]
  simpa using ⟨byteWord, pal⟩

theorem raisesFen_eq_false (opcode : (opcodeOf w).toNat ∈ functionOpcodes)
    (enabled : (opcodeOf w).toNat ∈ [0x15, 0x16, 0x17] → s.fpEnabled = true)
    (source : (opcodeOf w).toNat = 0x16 → field w 9 2 ≠ 1) : s.raisesFen w = false := by
  have listed : ∀ n ∈ functionOpcodes, fpOpcodeNumbers.elem n = [0x15, 0x16, 0x17].elem n ∧
      [0x16].elem n = (n == 0x16) := by
    decide
  obtain ⟨fp, ieee⟩ := listed _ opcode
  simp only [fpOpcodeNumbers] at fp
  simp only [State.raisesFen, isFp, opIn, fp, ieee]
  simpa using ⟨by simpa using enabled, source⟩

theorem undecoded_opcdec (h : s.raisesOpcdec w = true) : undecoded s w = raise .opcdec s := by rw [undecoded, h, cond_true]

theorem undecoded_fen (noOpcdec : s.raisesOpcdec w = false) (h : s.raisesFen w = true) : undecoded s w = raise .fen s := by
  rw [undecoded, noOpcdec, cond_false, h, cond_true]

theorem undecoded_refused (noOpcdec : s.raisesOpcdec w = false) (noFen : s.raisesFen w = false) :
    undecoded s w = .refused .unusedFunctionCode := by
  rw [undecoded, noOpcdec, cond_false, noFen, cond_false]

/-- An instruction of the word's opcode, or a word that names none. -/
theorem execDecoded_cases {r : Result State} (instr : ∀ i, i.opcode = (opcodeOf w).toNat → exec i s = r)
    (rejected : undecoded s w = r) : execDecoded w (decode w) s = r := by
  cases h : decode w with
  | instr i =>
    refine instr i ?_
    rw [decodeOfEncodeIsIdentity.2 w i h, toNat_opcode]
  | rejected _ => exact rejected

theorem execDecoded_fen (opcode : (opcodeOf w).toNat ∈ [0x15, 0x16, 0x17]) (off : s.fpEnabled = false) :
    execDecoded w (decode w) s = raise .fen s := by
  have listed : ∀ n ∈ [0x15, 0x16, 0x17], n ∈ fpOpcodeNumbers ∧ n ∈ functionOpcodes ∧ n ≠ 0x1C ∧ n ≠ 0x1E := by decide
  obtain ⟨fp, function, notByteWord, notPal⟩ := listed _ opcode
  refine execDecoded_cases (fun i hi => exec_eq_fen (hi ▸ fp) off) (undecoded_fen ?_ ?_)
  · exact raisesOpcdec_eq_false function (absurd · notByteWord) (absurd · notPal)
  · have hfp : isFp w = true := List.elem_eq_true_of_mem fp
    rw [State.raisesFen, hfp, off]
    rfl

theorem execDecoded_opcdec (opcode : (opcodeOf w).toNat = 0x1C) (off : s.byteWordEnabled = false) :
    execDecoded w (decode w) s = raise .opcdec s := by
  refine execDecoded_cases (fun i hi => exec_eq_opcdec_of_byteWord (hi.trans opcode ▸ by decide) off) (undecoded_opcdec ?_)
  have extension : isByteWord w = true := by rw [isByteWord, opIn, opcode]; rfl
  rw [State.raisesOpcdec, extension, off]
  simp

/-! ### The tables of function codes (30_encoding.md R463 to R473) -/

theorem lookupCode_eq_none {α : Type} {code : Nat} {t : List (Nat × α)} (h : ∀ p ∈ t, p.1 ≠ code) :
    lookupCode code t = none := by
  induction t with
  | nil => rfl
  | cons p rest ih =>
    rw [List.forall_mem_cons] at h
    rw [lookupCode, beq_false_of_ne h.1, cond_false, ih h.2]

theorem operateTable_codes : ∀ op ∈ ([0x10, 0x11, 0x12, 0x13, 0x1C] : List (BitVec 6)),
    ∀ p ∈ operateTable op, p.1 ∈ functionCodes op.toNat := by
  decide +kernel

theorem floatTable_codes : ∀ op ∈ ([0x15, 0x16, 0x17] : List (BitVec 6)),
    ∀ p ∈ floatTable op, p.1 ∈ functionCodes op.toNat := by
  decide +kernel

theorem miscTable_codes : ∀ p ∈ miscTable, p.1 ∈ functionCodes 0x18 := by decide +kernel

/-- No instruction of opcode 16 has SRC = 01 (60_exceptions.md R972 b). -/
theorem fltiTable_source : ∀ p ∈ floatTable 0x16, p.1 / 2 ^ 4 % 4 ≠ 1 := by decide +kernel

theorem decode_source (opcode : (opcodeOf w).toNat = 0x16) (source : field w 9 2 = 1) :
    decode w = .rejected (.unusedFunction (opcodeOf w)) := by
  have hop : opcodeOf w = 0x16 := BitVec.eq_of_toNat_eq opcode
  have hsource := congrArg BitVec.toNat source
  rw [← toNat_div_mod] at hsource
  have none : lookupCode (field w 5 11).toNat (floatTable 0x16) = none := by
    refine lookupCode_eq_none fun p hp hcode => fltiTable_source p hp ?_
    rw [hcode, ← toNat_div_mod]
    have one : (1 : BitVec 2).toNat = 1 := rfl
    omega
  rw [decode_float hop (by decide), decodeFloat, none]
  rfl

theorem execDecoded_source (opcode : (opcodeOf w).toNat = 0x16) (source : field w 9 2 = 1) :
    execDecoded w (decode w) s = raise .fen s := by
  rw [decode_source opcode source]
  refine undecoded_fen (raisesOpcdec_eq_false (opcode ▸ by decide) (by simp [opcode]) (by simp [opcode])) ?_
  have listed : opIn w [0x16] = true := by rw [opIn, opcode]; rfl
  rw [State.raisesFen, listed, source]
  simp

/-- An opcode with function codes, and one of them that no table lists; or HW_REI with TYP 00 or 01. -/
def unlisted (w : Long) : Prop :=
  w.toNat / 2 ^ 26 ∈ [0x10, 0x11, 0x12, 0x13, 0x15, 0x16, 0x17, 0x18, 0x1C] ∧
      functionOf w ∉ functionCodes (w.toNat / 2 ^ 26) ∨
    w.toNat / 2 ^ 26 = 0x1E ∧ w.toNat / 2 ^ 14 % 4 < 2

theorem decode_operate_unlisted {op : BitVec 6} (hop : opcodeOf w = op)
    (operate : op ∈ ([0x10, 0x11, 0x12, 0x13, 0x1C] : List (BitVec 6)))
    (code : (field w 5 7).toNat ∉ functionCodes op.toNat) : decode w = .rejected (.unusedFunction (opcodeOf w)) := by
  have none : lookupCode (field w 5 7).toNat (operateTable op) = none :=
    lookupCode_eq_none fun p hp hcode => code (hcode ▸ operateTable_codes op operate p hp)
  rw [decode_operate hop operate, decodeOperate, none]
  rfl

theorem decode_float_unlisted {op : BitVec 6} (hop : opcodeOf w = op)
    (float : op ∈ ([0x15, 0x16, 0x17] : List (BitVec 6))) (code : (field w 5 11).toNat ∉ functionCodes op.toNat) :
    decode w = .rejected (.unusedFunction (opcodeOf w)) := by
  have none : lookupCode (field w 5 11).toNat (floatTable op) = none :=
    lookupCode_eq_none fun p hp hcode => code (hcode ▸ floatTable_codes op float p hp)
  rw [decode_float hop float, decodeFloat, none]
  rfl

theorem decode_misc_unlisted (hop : opcodeOf w = 0x18) (code : (field w 0 16).toNat ∉ functionCodes 0x18) :
    decode w = .rejected (.unusedFunction (opcodeOf w)) := by
  have none : lookupCode (field w 0 16).toNat miscTable = none :=
    lookupCode_eq_none fun p hp hcode => code (hcode ▸ miscTable_codes p hp)
  rw [decode_misc hop, decodeMisc, none]
  rfl

theorem decode_hwRei_unlisted (hop : opcodeOf w = 0x1E) (typ : (field w 14 2).toNat < 2) :
    decode w = .rejected (.unusedFunction (opcodeOf w)) := by
  rw [decode_hwRei hop, decodeHwRei]
  generalize (field w 14 2).toNat = n at typ
  match n, typ with
  | 0, _ | 1, _ => rfl

theorem decode_unlisted (h : unlisted w) : decode w = .rejected (.unusedFunction (opcodeOf w)) := by
  rw [unlisted, toNat_opcode] at h
  rcases h with ⟨opcode, code⟩ | ⟨opcode, typ⟩
  case inr => exact decode_hwRei_unlisted (BitVec.eq_of_toNat_eq opcode) (toNat_div_mod w 14 2 ▸ typ)
  case inl =>
    rw [functionOf, toNat_opcode, toNat_div_mod w 5 7, toNat_div_mod w 5 11] at code
    have lowField : w.toNat % 2 ^ 16 = (field w 0 16).toNat := (toNat_div_mod w 0 16 ▸ by rw [pow_zero, Nat.div_one])
    rw [lowField] at code
    have kinds : ∀ op : BitVec 6, op.toNat ∈ [0x10, 0x11, 0x12, 0x13, 0x15, 0x16, 0x17, 0x18, 0x1C] →
        op = 0x18 ∨ op ∈ ([0x15, 0x16, 0x17] : List (BitVec 6)) ∧ op.toNat ≠ 0x18 ∧ op.toNat ∈ [0x15, 0x16, 0x17] ∨
          op ∈ ([0x10, 0x11, 0x12, 0x13, 0x1C] : List (BitVec 6)) ∧ op.toNat ≠ 0x18 ∧ op.toNat ∉ [0x15, 0x16, 0x17] := by
      decide
    rcases kinds (opcodeOf w) opcode with misc | ⟨float, notMisc, number⟩ | ⟨operate, notMisc, notFloat⟩
    · rw [misc] at code
      exact decode_misc_unlisted misc code
    · rw [if_neg notMisc, if_pos number] at code
      exact decode_float_unlisted rfl float code
    · rw [if_neg notMisc, if_neg notFloat] at code
      exact decode_operate_unlisted rfl operate code

theorem execDecoded_unlisted (h : unlisted w) (enabled : (opcodeOf w).toNat ∈ [0x15, 0x16, 0x17] → s.fpEnabled = true)
    (source : (opcodeOf w).toNat = 0x16 → field w 9 2 ≠ 1)
    (byteWord : (opcodeOf w).toNat = 0x1C → s.byteWordEnabled = true)
    (pal : (opcodeOf w).toNat = 0x1E → s.palOpcodeAllowed = true) :
    execDecoded w (decode w) s = .refused .unusedFunctionCode := by
  have opcode : (opcodeOf w).toNat ∈ functionOpcodes := by
    rw [unlisted, toNat_opcode] at h
    rcases h with ⟨opcode, -⟩ | ⟨opcode, -⟩
    · exact List.mem_append_left [0x1E] opcode
    · exact opcode ▸ by decide
  rw [decode_unlisted h]
  exact undecoded_refused (raisesOpcdec_eq_false opcode byteWord pal) (raisesFen_eq_false opcode enabled source)

end

/-! ### The obligation -/

/-- Settles O50: an instruction makes the check of its opcode first (`exec_checked`); a word that names none
raises what that check raises, or stops. -/
theorem disabledInstructionsRaise : Obligations.DisabledInstructionsRaise := by
  constructor
  case left =>
    intro i s
    unfold raises
    refine ⟨fun opcode off => ?_, fun opcode off => ?_, fun opcode native forbidden => ?_⟩
    · rw [exec_eq_fen opcode off]
      exact raise_spec .fen s
    · rw [exec_eq_opcdec_of_byteWord opcode off]
      exact raise_spec .opcdec s
    · rw [exec_eq_opcdec_of_pal opcode (State.palOpcodeAllowed_eq_false native forbidden)]
      exact raise_spec .opcdec s
  case right =>
    intro w s op
    have hop : op = (opcodeOf w).toNat := toNat_opcode w
    have hsource : w.toNat / 2 ^ 9 % 4 = 1 ↔ field w 9 2 = 1 := by
      rw [show 4 = 2 ^ 2 from rfl, toNat_div_mod]
      exact BitVec.toNat_inj (y := 1)
    unfold wordRaises
    rw [hop]
    refine ⟨fun opcode off => ?_, fun opcode source => ?_, fun opcode off => ?_, fun none enabled source byteWord pal => ?_⟩
    · rw [execDecoded_fen opcode off]
      exact raise_spec .fen s
    · rw [execDecoded_source opcode (hsource.mp source)]
      exact raise_spec .fen s
    · rw [execDecoded_opcdec opcode off]
      exact raise_spec .opcdec s
    · exact execDecoded_unlisted (by rwa [unlisted, toNat_opcode]) enabled (fun h => mt hsource.mpr (source h)) byteWord pal

end Sys2Proof.Machine

/-! # Reset, the cycle counter and the interrupt flag -/

namespace Sys2Proof.Machine

/-- Settles O6, part by part. -/
theorem resetIsWellFormed : Obligations.ResetIsWellFormed :=
  State.reset.ok_iff.mpr ⟨rfl, Idu.reset_ok, Mtu.reset_ok, rfl, Nat.zero_le 6⟩

/-! ### RPCC, RS and RC (47_misc.md R887 to R889) -/

theorem toNat_cycleCount (s : State) :
    s.cycleCount.toNat = if s.mtu.ccEnabled = true then s.drawValue.toNat % 2 ^ 32 else s.mtu.ccCount.toNat := by
  rw [State.cycleCount]
  cases s.mtu.ccEnabled with
  | false => rfl
  | true => exact (toNat_extractLsb' s.drawValue 0 32).trans (by rw [pow_zero, Nat.div_one]; rfl)

/-- What RPCC writes, as its two halves. -/
theorem rpcc_halves (offset count : BitVec 32) :
    (offset ++ count).toNat / 2 ^ 32 = offset.toNat ∧ (offset ++ count).toNat % 2 ^ 32 = count.toNat := by
  have low := count.isLt
  rw [toNat_append_add]
  omega

theorem quadOfBool_eq_ite (b : Bool) : quadOfBool b = if b = true then 1 else 0 := Bool.cond_eq_ite ..

theorem exec_rpcc (ra : Reg) (s : State) : ∃ (v : Quad) (k : Model),
    exec (.rpcc ra) s = .next (({ s with model := k }.writeReg ra v).advance) ∧ v.toNat / 2 ^ 32 = s.mtu.ccOffset.toNat ∧
      (s.mtu.ccEnabled = false → k = s.model ∧ v.toNat % 2 ^ 32 = s.mtu.ccCount.toNat) ∧
      (s.mtu.ccEnabled = true → v.toNat % 2 ^ 32 = s.drawValue.toNat % 2 ^ 32) := by
  obtain ⟨high, low⟩ := rpcc_halves s.mtu.ccOffset s.cycleCount
  refine ⟨s.mtu.ccOffset ++ s.cycleCount, (bif s.mtu.ccEnabled then s.drawn else s).model, ?runs, high,
    fun disabled => ⟨?_, ?_⟩, fun enabled => ?_⟩
  case runs =>
    show (State.writeReg _ ra _).done = _
    cases s.mtu.ccEnabled <;> rfl
  · rw [disabled]
    rfl
  · rw [low, toNat_cycleCount, disabled]
    rfl
  · rw [low, toNat_cycleCount, if_pos enabled]

/-- Settles O34. -/
theorem cycleCounterAndInterruptFlag : Obligations.CycleCounterAndInterruptFlag := by
  refine ⟨exec_rpcc, fun ra s => ?_⟩
  rw [← quadOfBool_eq_ite]
  exact ⟨rfl, rfl⟩

end Sys2Proof.Machine

/-! # Interrupt requests -/

namespace Sys2Proof.Machine

/-! ### The fields that enable them (11_state_idu_iprs.md R141, R160; 60_exceptions.md R985, R987) -/

/-- A two-bit field with its high bit set. -/
theorem getLsbD_one_iff : ∀ f : BitVec 2, f.getLsbD 1 = true ↔ f.toNat ∈ [2, 3] := by decide

theorem State.countersOn_iff (s : State) : s.countersOn = true ↔ s.idu.icsr.toNat / 2 ^ 8 % 4 ≠ 0 := by
  have nonzero : ∀ f : BitVec 2, (f.getLsbD 0 || f.getLsbD 1) = true ↔ f.toNat ≠ 0 := by decide
  have field := nonzero (s.idu.icsr.extractLsb' 8 2)
  rw [toNat_extractLsb', BitVec.getLsbD_extractLsb', BitVec.getLsbD_extractLsb'] at field
  exact field

theorem State.counterRequest_iff (s : State) (k : Nat) : s.counterRequest k = true ↔
    s.idu.icsr.toNat / 2 ^ 8 % 4 ≠ 0 ∧ s.idu.pcRequests.getLsbD k = true ∧
      s.idu.pmctr.toNat / 2 ^ (14 - 2 * k) % 4 ∈ [2, 3] := by
  have control := getLsbD_one_iff (s.idu.counterControl k)
  rw [Idu.counterControl, slice, toNat_extractLsb'] at control
  rw [counterRequest, Bool.and_eq_true, Bool.and_eq_true, s.countersOn_iff]
  exact (and_congr_right fun _ => control).trans (by rw [and_comm (b := s.idu.icsr.toNat / 2 ^ 8 % 4 ≠ 0), and_assoc]; rfl)

/-- The modes whose AST may request: the current one and those more privileged. -/
theorem Idu.astPending_iff (i : Idu) : i.astPending = true ↔
    ∃ m : Nat, m < 4 ∧ i.astrr.getLsbD (3 - m) = true ∧ i.aster.getLsbD (3 - m) = true ∧ m ≤ i.icm.toNat := by
  have mode : ∀ icm : BitVec 2, (1 : BitVec 2).ule icm = decide (1 ≤ icm.toNat) ∧
      (2 : BitVec 2).ule icm = decide (2 ≤ icm.toNat) ∧ (icm == 3) = decide (3 ≤ icm.toNat) := by decide
  obtain ⟨executive, supervisor, user⟩ := mode i.icm
  rw [astPending, astEnabled, executive, supervisor, user]
  simp only [Nat.exists_lt_succ_right, BitVec.getLsbD_and]
  simp [and_assoc, or_assoc]

theorem State.interruptDeliverable_iff (s : State) : s.interruptDeliverable = true ↔
    s.pc.toNat % 2 = 0 ∧ (s.idu.iplr.toNat < s.intid.toNat ∨ s.pins.halt = true ∨
      s.idu.sliRequest = true ∧ s.idu.icsr.getLsbD 33 = true) := by
  rw [interruptDeliverable, Bool.and_eq_true, Bool.not_eq_true', s.palmode_eq_false_iff, Bool.or_eq_true, Bool.or_eq_true,
    Bool.and_eq_true, BitVec.ult_iff_lt, BitVec.lt_def, or_assoc]
  rfl

/-! ### INTID (60_exceptions.md R985, R988) -/

/-- In a list of falling levels the first that requests is the highest. -/
theorem find?_first {l : List (Nat × Bool)} (falling : l.Pairwise (·.1 > ·.1)) {p : Nat × Bool}
    (h : l.find? (·.2) = some p) : p ∈ l ∧ p.2 = true ∧ ∀ n, (n, true) ∈ l → n ≤ p.1 := by
  obtain ⟨requests, before, behind, rfl, none⟩ := List.find?_eq_some_iff_append.mp h
  refine ⟨List.mem_append_right _ (List.mem_cons_self ..), requests, fun n hn => ?_⟩
  rcases List.mem_append.mp hn with earlier | rest
  · exact absurd (none _ earlier) (by simp)
  · rcases List.mem_cons.mp rest with rfl | later
    · exact Nat.le_refl _
    · exact Nat.le_of_lt ((List.pairwise_cons.mp (List.pairwise_append.mp falling).2.1).1 _ later)

/-- The target IPLs (R985). -/
def requestLevels : List Nat := [31, 30, 29, 23, 22, 21, 20, 15, 14, 13, 12, 11, 10, 9, 8, 7, 6, 5, 4, 3, 2, 1]

theorem State.requests_levels (s : State) : s.requests.map Prod.fst = requestLevels := rfl

theorem State.requests_falling (s : State) : s.requests.Pairwise (·.1 > ·.1) := by
  have falling : requestLevels.Pairwise (· > ·) := by decide
  rw [← s.requests_levels] at falling
  exact List.pairwise_map.mp falling

theorem State.requests_lt (s : State) : ∀ p ∈ s.requests, p.1 < 32 := by
  have bound : ∀ n ∈ requestLevels, n < 32 := by decide
  rw [← s.requests_levels] at bound
  exact fun p hp => bound p.1 (List.mem_map_of_mem hp)

/-- INTID is the highest request. -/
theorem State.intid_spec (s : State) :
    (∀ n, (n, true) ∈ s.requests → n ≤ s.intid.toNat) ∧ (s.intid ≠ 0 → (s.intid.toNat, true) ∈ s.requests) := by
  cases h : s.requests.find? (·.2) with
  | none =>
    have hid : s.intid = 0 := by rw [intid, h]
    refine ⟨fun n hn => absurd (List.find?_eq_none.mp h _ hn) (by simp), fun hne => absurd hid hne⟩
  | some p =>
    obtain ⟨ipl, requesting⟩ := p
    obtain ⟨hmem, rfl, hmax⟩ := find?_first s.requests_falling h
    have hid : s.intid.toNat = ipl := by
      rw [intid, h]
      exact Nat.mod_eq_of_lt (s.requests_lt _ hmem)
    rw [hid]
    exact ⟨hmax, fun _ => hmem⟩

/-- The sources with a target IPL (R985). -/
def State.Pending (s : State) (n : Nat) : Prop :=
  (1 ≤ n ∧ n ≤ 15 ∧ s.idu.sirr.getLsbD (n - 1) = true) ∨
  (n = 2 ∧ s.idu.astPending = true) ∨
  (20 ≤ n ∧ n ≤ 23 ∧ s.pins.irq.getLsbD (n - 20) = true ∧ s.idu.icsr.getLsbD n = false) ∨
  (n = 29 ∧ s.idu.icsr.toNat / 2 ^ 8 % 4 ≠ 0 ∧
    ∃ k < 3, s.idu.pcRequests.getLsbD k = true ∧ s.idu.pmctr.toNat / 2 ^ (14 - 2 * k) % 4 ∈ [2, 3]) ∨
  (n = 30 ∧ s.pins.powerFail = true) ∨
  (n = 31 ∧ (s.pins.machineCheck = true ∨ s.idu.crdRequest = true ∧ s.idu.icsr.getLsbD 32 = true))

theorem State.irqRequest_iff (s : State) (k : Nat) :
    s.irqRequest k = true ↔ s.pins.irq.getLsbD k = true ∧ s.idu.icsr.getLsbD (20 + k) = false := by
  rw [irqRequest, icsrBit, bit, Bool.and_eq_true, Bool.not_eq_true']

theorem State.anyCounterRequest_iff (s : State) :
    (s.counterRequest 0 || s.counterRequest 1 || s.counterRequest 2) = true ↔ s.idu.icsr.toNat / 2 ^ 8 % 4 ≠ 0 ∧
      ∃ k < 3, s.idu.pcRequests.getLsbD k = true ∧ s.idu.pmctr.toNat / 2 ^ (14 - 2 * k) % 4 ∈ [2, 3] := by
  rw [Bool.or_eq_true, Bool.or_eq_true, counterRequest_iff, counterRequest_iff, counterRequest_iff]
  simp only [Nat.exists_lt_succ_right, Nat.not_lt_zero, false_and, exists_false, false_or, and_or_left]

/-- The list of the sources is right at each of the 32 levels, and has no other. -/
theorem State.mem_requests_iff (s : State) (n : Nat) : (n, true) ∈ s.requests ↔ s.Pending n := by
  have hcounter := s.anyCounterRequest_iff
  have hcrd : (s.pins.machineCheck || (s.idu.crdRequest && s.icsrBit 32)) = true ↔
      s.pins.machineCheck = true ∨ s.idu.crdRequest = true ∧ s.idu.icsr.getLsbD 32 = true := by
    rw [Bool.or_eq_true, Bool.and_eq_true]
    rfl
  unfold State.requests State.Pending
  simp only [List.mem_cons, List.not_mem_nil, or_false, Prod.mk.injEq, eq_comm (a := true), hcounter, hcrd,
    State.irqRequest_iff]
  by_cases h : n < 32
  case pos => interval_cases n <;> simp
  case neg => simp; omega

/-- Settles O51. -/
theorem interruptRequests : Obligations.InterruptRequests := by
  refine ⟨State.interruptDeliverable_iff, fun s => ?_, Idu.astPending_iff⟩
  obtain ⟨hmax, hpending⟩ := s.intid_spec
  exact ⟨fun n hn => hmax n ((s.mem_requests_iff n).mpr hn), fun hne => (s.mem_requests_iff _).mp (hpending hne)⟩

end Sys2Proof.Machine

/-! # Shadows of an entry that follows an entry

What is in the shadow of an entry (70_reset_and_hazards.md R1112, R1116) the statements ask of the state `s`, and the step of
the state that it begins with, `s.begin`. The two differ in `Model.lastEntry`, the entry that the step before has taken, which
`State.begin` clears. While it is there `State.ahead` counts no instruction as carried out, so that from `s` a branch is not
followed, and from `s.begin` it is. -/

namespace Sys2Proof.Machine

/-! ### Entries that are refused -/

section

variable {s : State}

theorem enterAt_shadow (shadow : s.entryShadow = true) (t : State) : enterAt s t = .refused .palcodeRestriction := by
  rw [enterAt, shadow, cond_true]

theorem orInterrupt_shadow {k : State → Result State} (deliverable : s.interruptDeliverable = true)
    (due : Config.interruptBound ≤ s.model.postponed) (shadow : s.entryShadow = true) :
    orInterrupt k s = .refused .palcodeRestriction := by
  have now : Nat.ble Config.interruptBound s.model.postponed = true := Nat.ble_eq.mpr due
  rw [orInterrupt, deliverable, cond_true, now, Bool.true_or, cond_true, enterAt_shadow shadow]

theorem orMachineCheck_shadow {k : State → Result State} (now : true ∈ s.machineChecks) (shadow : s.entryShadow = true) :
    orMachineCheck k s = .refused .palcodeRestriction := by
  have owed : s.machineChecks.isEmpty = false := List.isEmpty_eq_false_iff_exists_mem.mpr ⟨true, now⟩
  have first : s.machineChecks.any id = true := List.any_eq_true.mpr ⟨true, now, rfl⟩
  rw [orMachineCheck, owed, cond_false, first, Bool.true_or, Bool.true_or, cond_true]
  exact enterAt_shadow shadow _

theorem chooseTranslation_present (former : s.model.former = []) :
    chooseTranslation (clearLow s.pc 2) s.model.former s = (s.translateFetch (s.pc &&& ~~~3), s) := by
  rw [former, chooseTranslation, clearLow_two]

theorem boundary_interrupt_shadow {pa : PAddr} (native : s.palmode = false) (former : s.model.former = [])
    (translation : s.translateFetch (s.pc &&& ~~~3) = .ok pa) (deliverable : s.interruptDeliverable = true)
    (due : Config.interruptBound ≤ s.model.postponed) (shadow : s.entryShadow = true) :
    boundary s = .refused .palcodeRestriction := by
  rw [boundary, native, cond_false, chooseTranslation_present former, translation]
  exact orInterrupt_shadow deliverable due shadow

theorem boundary_iaccvio_shadow {form : Bool} (native : s.palmode = false) (former : s.model.former = [])
    (translation : s.translateFetch (s.pc &&& ~~~3) = .iaccvio form) (shadow : s.entryShadow = true) :
    boundary s = .refused .palcodeRestriction := by
  rw [boundary, native, cond_false, chooseTranslation_present former, translation]
  exact enterAt_shadow shadow _

/-- The state in which a boundary without a machine check comes to the fetch. -/
def State.unchecked (s : State) : State := { s.begin with model := { s.begin.model with checkWaited := 0 } }

theorem step_interrupt_shadow {pa : PAddr} (posted : s.memsys.caches.posted = []) (inbox : s.model.inbox = [])
    (checks : s.machineChecks = []) (arith : s.arithPending = false) (native : s.palmode = false)
    (former : s.model.former = []) (translation : s.translateFetch (s.pc &&& ~~~3) = .ok pa)
    (deliverable : s.interruptDeliverable = true) (due : Config.interruptBound ≤ s.model.postponed)
    (shadow : s.unchecked.entryShadow = true) : step s = .refused .palcodeRestriction := by
  rw [step_eq_boundary posted inbox checks arith]
  exact congrArg (andThen · (heldAt s))
    (boundary_interrupt_shadow (s := s.unchecked) native former translation deliverable due shadow)

theorem step_iaccvio_shadow {form : Bool} (posted : s.memsys.caches.posted = []) (inbox : s.model.inbox = [])
    (checks : s.machineChecks = []) (arith : s.arithPending = false) (native : s.palmode = false)
    (former : s.model.former = []) (translation : s.translateFetch (s.pc &&& ~~~3) = .iaccvio form)
    (shadow : s.unchecked.entryShadow = true) : step s = .refused .palcodeRestriction := by
  rw [step_eq_boundary posted inbox checks arith]
  exact congrArg (andThen · (heldAt s)) (boundary_iaccvio_shadow (s := s.unchecked) native former translation shadow)

theorem step_eq_atBoundary (posted : s.memsys.caches.posted = []) (inbox : s.model.inbox = []) :
    step s = atBoundary s.begin := by
  unfold step cycle
  dsimp only
  rw [posted]
  dsimp only
  rw [inbox]

theorem step_machineCheck_shadow (posted : s.memsys.caches.posted = []) (inbox : s.model.inbox = [])
    (now : true ∈ s.machineChecks) (shadow : s.begin.entryShadow = true) : step s = .refused .palcodeRestriction := by
  rw [step_eq_atBoundary posted inbox, atBoundary]
  exact congrArg (andThen · _) (orMachineCheck_shadow (s := s.begin) now shadow)

end

/-! ### A branch to HW_MTPR DTB_IS -/

/-- BR to the longword 40 hex further on, and HW_MTPR DTB_IS there; CALL_PAL between them. -/
def branchAt (a : Nat) : Memory :=
  Memory.writeBytes (Memory.writeBytes [] a 0xC3E0000F 4) (a + 0x40) 0x77FF020B 4

/-- Kernel mode with superpage 1 and ICSR<HWE>, the branch at a physical address; the step before has taken an entry. -/
def afterEntry (pc : Quad) (a : Nat) : State :=
  { State.reset with
    pc := pc
    idu := { Idu.reset with icsr := 0x2028000000, palBase := 2 }
    mem := branchAt a
    model := { Model.reset with lastEntry := some .mchk } }

/-! ### Interrupts -/

/-- At the branch, with a halt interrupt that may no longer be postponed. -/
noncomputable def interruptedAfterEntry : State :=
  { afterEntry 0xFFFFFC0000010000 0x10000 with
    pins := { Pins.reset with halt := true }
    model := { Model.reset with lastEntry := some .mchk, postponed := Config.interruptBound } }

theorem interruptedAfterEntry_shadow :
    interruptedAfterEntry.entryShadow = false ∧ interruptedAfterEntry.unchecked.entryShadow = true := by
  decide +kernel

theorem interruptedAfterEntry_translation :
    interruptedAfterEntry.translateFetch (interruptedAfterEntry.pc &&& ~~~3) = .ok 0x10000 := by
  decide +kernel

theorem interruptedAfterEntry_deliverable : interruptedAfterEntry.interruptDeliverable = true := by decide +kernel

theorem step_interruptedAfterEntry : step interruptedAfterEntry = .refused .palcodeRestriction :=
  step_interrupt_shadow rfl rfl rfl rfl rfl rfl interruptedAfterEntry_translation interruptedAfterEntry_deliverable
    (Nat.le_refl _) interruptedAfterEntry_shadow.2

/-- Refutes O52: from `interruptedAfterEntry` nothing is in the shadow of the interrupt, but its step begins with an HW_MTPR
DTB_IS there and is refused. No step leads to a native-mode state with `Model.lastEntry` set, but the statement is of every
state. -/
theorem not_interruptsAreTaken : ¬ Obligations.InterruptsAreTaken := by
  intro h
  have translated : ∀ form, interruptedAfterEntry.translateFetch (interruptedAfterEntry.pc &&& ~~~3) ≠ .iaccvio form := by
    rw [interruptedAfterEntry_translation]
    exact fun _ => nofun
  obtain ⟨-, -, taken⟩ := h interruptedAfterEntry rfl rfl rfl rfl rfl interruptedAfterEntry_deliverable translated
    (Nat.le_refl _)
  obtain ⟨t, next, -⟩ := taken interruptedAfterEntry_shadow.1 nofun
  rw [step_interruptedAfterEntry] at next
  cases next

/-! ### Access violations -/

/-- At the last longword of the addresses that fail the sign check; the branch is the longword behind it. -/
def deniedAfterEntry : State := afterEntry 0xFFFFFBFFFFFFFFFC 0

theorem deniedAfterEntry_shadow :
    deniedAfterEntry.entryShadow = false ∧ deniedAfterEntry.unchecked.entryShadow = true := by
  decide +kernel

theorem deniedAfterEntry_translation :
    deniedAfterEntry.translateFetch (deniedAfterEntry.pc &&& ~~~3) = .iaccvio false := by
  decide +kernel

theorem step_deniedAfterEntry : step deniedAfterEntry = .refused .palcodeRestriction :=
  step_iaccvio_shadow rfl rfl rfl rfl rfl rfl deniedAfterEntry_translation deniedAfterEntry_shadow.2

/-- Refutes O53: from `deniedAfterEntry` nothing is in the shadow of IACCVIO, but its step begins with an HW_MTPR DTB_IS there
and is refused. As for O52 no step leads to this state. -/
theorem not_fetchFaultsAreTaken : ¬ Obligations.FetchFaultsAreTaken := by
  intro h
  obtain ⟨-, -, denied⟩ := h deniedAfterEntry rfl rfl rfl rfl rfl nofun rfl (by decide +kernel)
  obtain ⟨t, next, -⟩ := (denied deniedAfterEntry_shadow.1).2 deniedAfterEntry_translation
  rw [step_deniedAfterEntry] at next
  cases next

/-! ### Machine checks -/

/-- At the MCHK entry, which begins with the branch; another machine check is owed. -/
def checkedAfterEntry : State := { afterEntry 0x8401 0x8400 with machineChecks := [true] }

theorem checkedAfterEntry_shadow : checkedAfterEntry.entryShadow = false ∧ checkedAfterEntry.begin.entryShadow = true := by
  decide +kernel

theorem step_checkedAfterEntry : step checkedAfterEntry = .refused .palcodeRestriction :=
  step_machineCheck_shadow rfl rfl (List.mem_singleton_self true) checkedAfterEntry_shadow.2

/-- Refutes O55 in its second clause: `checkedAfterEntry`, as after the entry of the first of two machine checks, shows nothing
in the shadow of the second, but its step begins with an HW_MTPR DTB_IS there and is refused. -/
theorem not_machineCheckAndReset : ¬ Obligations.MachineCheckAndReset := by
  intro h
  obtain ⟨-, entered, -⟩ := h checkedAfterEntry
  obtain ⟨checked, -⟩ := entered rfl rfl checkedAfterEntry_shadow.1 (.inl (List.mem_singleton_self true))
  obtain ⟨t, next, -⟩ := checked rfl
  rw [step_checkedAfterEntry] at next
  cases next

end Sys2Proof.Machine
